-- ==== Sys2Proof/Word.lean ====
section
/-! DEFINITION. The word types of the VK4130: positions, sets sent as 16-bit words, and link bytes. -/

namespace Sys2Proof

/-- A belt position: a 32-bit count that wraps modulo 2^32 (00_scope.md, Positions and belt travel; R2). -/
abbrev Pos := BitVec 32

/-- A set sent on the link as a 16-bit word: a hold set or a set of notice kinds (11.7). -/
abbrev Set16 := BitVec 16

/-- One byte of the serial link (R169). -/
abbrev Byte := BitVec 8

end Sys2Proof
end

