-- ==== Sys2Proof/Syntax.lean ====
section
/-! DEFINITION. The commands of the VK4130: one constructor of Instr for each row of spec/opcode_table.json, and the names its
operands use. -/

namespace Sys2Proof

/-- The three station ports (11_station_ports.md). -/
inductive Port where
  | slicer | bagger | office
  deriving DecidableEq, Repr

/-- The five photo-eyes (01, 1.4). -/
inductive Eye where
  | e0 | e1 | e2 | e3 | e4
  deriving DecidableEq, Repr

/-- An eye's level: dark while its beam is blocked (01, 1.4). -/
inductive Level where
  | clear | dark
  deriving DecidableEq, Repr

/-- A state of the encoder lines, written (A, B) (R1). -/
inductive Quad where
  | q00 | q10 | q11 | q01
  deriving DecidableEq, Repr

/-- The two gates (R76, R80). -/
inductive Gate where
  | reject | exit
  deriving DecidableEq, Repr

/-- The two crumb zones: zone 0 the blade tray, zone 1 the scoop tray (08). -/
inductive Zone where
  | z0 | z1
  deriving DecidableEq, Repr

/-- The four seconds accumulators (R156). -/
inductive TimeCount where
  | run | idle | stopped | held
  deriving DecidableEq, Repr

/-- The five eyes' levels, as sampled at power-on (R13). -/
structure EyeLevels where
  e0 : Level
  e1 : Level
  e2 : Level
  e3 : Level
  e4 : Level
  deriving DecidableEq, Repr

/-- The commands. A request carries the port it arrives on and the sequence number its master chose (R170), then the values of
its body in the order of its definition, as numbers; a choice is carried as its code of 11.7. -/
inductive Instr where
  /-- R143: the reset input; `lines` and `eyes` are the input levels as they stand (R1, R13). -/
  | powerOnReset (lines : Quad) (eyes : EyeLevels)
  /-- R1, R3: the encoder lines take the state `lines`. -/
  | encoderStep (lines : Quad)
  /-- R9: the raw level of eye `e` becomes `l`. -/
  | eyeRawLevelChange (e : Eye) (l : Level)
  /-- R10: the pending change of eye `e` has persisted for its filter time. -/
  | eyeFilterExpiry (e : Eye)
  /-- R6: the 4 ms period of the speed sampler expires. -/
  | speedSamplerExpiry
  /-- R76, R80: the pulse end time of gate `g` is reached. -/
  | gatePulseEnd (g : Gate)
  /-- R122: the pulse end time of the tyer fire line is reached. -/
  | firePulseEnd
  /-- R123: the tyer's done contact closes. -/
  | tyerDone
  /-- R124: the timeout expiry of the tie in flight is reached. -/
  | tieTimeoutExpiry
  /-- R137: the blast end time of zone `z` is reached. -/
  | blastEnd (z : Zone)
  /-- R146: the idle timer's expiry is reached. -/
  | idleTimerExpiry
  /-- R156: the accumulator `a` reaches 1000 ms. -/
  | secondsAccumulatorFull (a : TimeCount)
  /-- R162: the erase of the target bank ends. -/
  | storeEraseDone
  /-- R162: the programming of the target bank ends. -/
  | storeProgramDone
  /-- R163: verification ends; `ok` says that every record matched. -/
  | storeVerifyDone (ok : Bool)
  /-- R162: the state word has been written. -/
  | storeStateWordDone
  /-- R178: select of port `p` has been held low with no clock edge for 1 ms. -/
  | portReset (p : Port)
  /-- R171: bytes of a transaction arrive on port `p`, and select then goes high if `released`. -/
  | frameRefused (p : Port) (bytes : List Byte) (released : Bool)
  /-- R172: a fetch transaction on port `p` in which the master clocks `clocked` whole bytes, the first filler included. -/
  | fetch (p : Port) (clocked : Nat)
  | statusRead (p : Port) (seq : Byte)
  | lineStart (p : Port) (seq : Byte)
  | lineStop (p : Port) (seq : Byte)
  | lineReset (p : Port) (seq : Byte)
  | lineConfig (p : Port) (seq : Byte) (pitch offset filterTime idleTime : Nat)
  | holdSet (p : Port) (seq : Byte) (reason : Nat)
  | holdRelease (p : Port) (seq : Byte) (reason : Nat)
  /-- R19: the kind's own fields stand in the seven-byte area of 11.7. -/
  | chainWrite (p : Port) (seq : Byte) (index kind distance nextIndex : Nat) (area : Vector Byte 7)
  | chainHead (p : Port) (seq : Byte) (index : Nat)
  | chainRead (p : Port) (seq : Byte) (index : Nat)
  | recipeLoad (p : Port) (seq : Byte) (slot code thickness heel minLen maxLen shortMax regularMax crumb shelf : Nat)
  | recipeRetire (p : Port) (seq : Byte) (slot : Nat)
  | recipeRead (p : Port) (seq : Byte) (slot : Nat)
  | select (p : Port) (seq : Byte) (slot : Nat)
  | bladeReport (p : Port) (seq : Byte) (pitch : Nat)
  | markDivert (p : Port) (seq : Byte) (tag : Nat)
  /-- R85: `selector` 0 by tag, 1 by position. -/
  | trackRead (p : Port) (seq : Byte) (selector value : Nat)
  | scheduleAppend (p : Port) (seq : Byte) (slot target gap stopAfter : Nat)
  | scheduleStart (p : Port) (seq : Byte)
  | scheduleResume (p : Port) (seq : Byte)
  | scheduleCancel (p : Port) (seq : Byte) (id : Nat)
  | scheduleReap (p : Port) (seq : Byte)
  /-- R97: `selector` 0 by id, 1 by position. -/
  | scheduleRead (p : Port) (seq : Byte) (selector value : Nat)
  | bagNext (p : Port) (seq : Byte)
  /-- R112: `result` 0 OK, 1 FAIL. -/
  | bagResult (p : Port) (seq : Byte) (tag result : Nat)
  | dateSet (p : Port) (seq : Byte) (day yearDigit weekday leap : Nat)
  | colourTable (p : Port) (seq : Byte) (c0 c1 c2 c3 c4 c5 c6 : Nat)
  | clipReload (p : Port) (seq : Byte) (count : Nat)
  | clipConfig (p : Port) (seq : Byte) (threshold timeout : Nat)
  | tyerReset (p : Port) (seq : Byte)
  | crumbConfig (p : Port) (seq : Byte) (zone soft hard : Nat)
  | crumbClear (p : Port) (seq : Byte) (zone : Nat)
  | crumbRead (p : Port) (seq : Byte)
  | shiftClose (p : Port) (seq : Byte)
  | storeFormat (p : Port) (seq : Byte)
  /-- R166: `selector` 0 OPEN, 1 BUFFER. -/
  | totalsRead (p : Port) (seq : Byte) (selector page : Nat)
  | storeRead (p : Port) (seq : Byte) (shift page : Nat)
  | noticeRead (p : Port) (seq : Byte)
  | noticeAck (p : Port) (seq : Byte) (kinds : Set16)
  | noticeMask (p : Port) (seq : Byte) (kinds : Set16)
  deriving DecidableEq, Repr

end Sys2Proof
end

