-- ==== Sys2Proof/Machine/State.lean ====
section
/-! DEFINITION. The state of the VK4130: every piece of state the spec gives each block, the queue of waiting commands, the
model's clock and its counter of free choices, and the state after a power-on reset. -/

namespace Sys2Proof.Machine

/-- No rule of the spec stops the part, so no fault exists. -/
inductive Fault where
  deriving DecidableEq, Repr

/-- Why exec answers no next state. -/
inductive Refusal where
  /-- Raised by an arm of exec whose command has no meaning yet. Safe: nothing can be proved of such a command's effect. -/
  | notModelled (mnemonic : String)
  deriving DecidableEq, Repr

/-- An output line of the part: the permit, a valve (00_scope.md, Pins). -/
inductive Pin where
  | released | driven
  deriving DecidableEq, Repr

/-- A pulsed output: RELEASED, or DRIVEN with its pulse end time in ms (R76, R122). -/
inductive Pulse where
  | released
  | driven (endTime : Nat)
  deriving DecidableEq, Repr

/-! ## Position Unit (01) -/

/-- A pending change of an eye's filter (R9): captured position, whether the excursion was zero, the filter time that applies,
and the time at which it will have persisted. -/
structure PendingChange where
  captured : Pos
  atH : Bool
  filterTime : Nat
  expiry : Nat
  deriving DecidableEq, Repr

/-- One eye's filter (R9): the accepted level and the optional pending change to the other level. -/
structure EyeFilter where
  accepted : Level
  change : Option PendingChange
  deriving DecidableEq, Repr

/-- The five filters. -/
structure EyeFilters where
  e0 : EyeFilter
  e1 : EyeFilter
  e2 : EyeFilter
  e3 : EyeFilter
  e4 : EyeFilter
  deriving DecidableEq, Repr

/-- The line configuration (R14): um per count, tenths, ms, s. -/
structure LineConfig where
  pitch : Nat
  offset : Nat
  filterTime : Nat
  idleTime : Nat
  deriving DecidableEq, Repr

/-- State of the Position Unit (01). -/
structure PositionUnit where
  /-- The encoder reference (R1). -/
  lines : Quad
  /-- The raw position P (R2). -/
  p : Pos
  /-- The high-water position H (R3). -/
  h : Pos
  /-- The reverse excursion X (R3). -/
  x : Nat
  /-- The value of H at the start of the speed window (R6). -/
  windowStart : Pos
  /-- The time of the sampler's next expiry (R6). -/
  nextSample : Nat
  /-- The speed v in Q8 (R7). -/
  v : Nat
  filters : EyeFilters
  config : LineConfig
  deriving DecidableEq, Repr

/-! ## Station Chain (02) -/

/-- A station's kind with exactly the fields of that kind (R17). -/
inductive Station where
  | eyeSliced (tolerance : Nat)
  | gateReject (latency pulse : Nat)
  | crumbBar (zone : Zone) (halfSpan blastTime yield : Nat)
  | eyeBag (tolerance : Nat)
  | eyeClip (tolerance tyerOffset neck latency : Nat)
  | eyeExit (tolerance : Nat)
  | gateExit (latency pulse : Nat)
  deriving DecidableEq, Repr

/-- A present descriptor (R17). -/
structure Descriptor where
  station : Station
  distance : Nat
  next : Nat
  deriving DecidableEq, Repr

/-- R18. -/
inductive ChainState where
  | unvalidated | valid
  deriving DecidableEq, Repr

/-- The causes of a failed validation (02, 2.3). -/
inductive Cause where
  | empty | brokenLink | distanceOrder | kindOrder | zoneRepeated | incomplete
  deriving DecidableEq, Repr

/-- State of the Station Chain (02). Place i of the spec is places[i - 1]. -/
structure StationChain where
  places : Vector (Option Descriptor) 8
  head : Nat
  state : ChainState
  lastFailure : Option (Nat × Cause)
  deriving DecidableEq, Repr

/-! ## Recipe Table (03) -/

/-- R27. -/
inductive SlotState where
  | empty | loaded | active | retiring
  deriving DecidableEq, Repr

/-- The product code and the eight parameters of a slot (03). -/
structure Product where
  code : Nat
  thickness : Nat
  heel : Nat
  minLen : Nat
  maxLen : Nat
  shortMax : Nat
  regularMax : Nat
  crumb : Nat
  shelf : Nat
  deriving DecidableEq, Repr

/-- A recipe slot (03): the product is absent in EMPTY. -/
structure Slot where
  state : SlotState
  product : Option Product
  inFlight : Nat
  deriving DecidableEq, Repr

/-- Who wrote the pending selection (R33). -/
inductive Source where
  | slicer | office | schedule
  deriving DecidableEq, Repr

/-- The pending selection (R33). -/
structure Selection where
  slot : Fin 16
  source : Source
  deriving DecidableEq, Repr

/-- State of the Recipe Table (03). -/
structure RecipeTable where
  slots : Vector Slot 16
  selection : Option Selection
  /-- The installed blade pitch (R38). -/
  pitch : Nat
  deriving DecidableEq, Repr

/-! ## Tracking Queue (05) -/

/-- R63. -/
inductive Stage where
  | measuring | toSlicer | diverting | toBag | bagging | tying | exiting
  deriving DecidableEq, Repr

/-- The divert reasons, a set of four (R62). -/
structure Reasons where
  undersize : Bool
  oversize : Bool
  blade : Bool
  marked : Bool
  deriving DecidableEq, Repr

/-- The plan fields of a record (R46). -/
structure Plan where
  /-- Dark length, counts. -/
  lc : Nat
  /-- Length, tenths. -/
  lt : Nat
  /-- Slice count. -/
  n : Nat
  bagClass : Nat
  /-- Crumb charge C. -/
  crumb : Nat
  deriving DecidableEq, Repr

/-- R112. -/
inductive BagResult where
  | ok | fail
  deriving DecidableEq, Repr

/-- 05, the record's fields. -/
inductive TieStatus where
  | none | inFlight | tied | missed
  deriving DecidableEq, Repr

/-- A loaf record (05, R62). -/
structure LoafRecord where
  tag : Nat
  slot : Fin 16
  entry : Option Nat
  day : Nat
  weekday : Nat
  reference : Pos
  plan : Option Plan
  stage : Stage
  reasons : Reasons
  lastMatch : Option Pos
  gateFire : Option Pos
  tieFire : Option Pos
  fetched : Bool
  result : Option BagResult
  tie : TieStatus
  late : Bool
  blind : Bool
  deriving DecidableEq, Repr

/-- The outcomes of a leave (R82). -/
inductive LeaveOutcome where
  | good | diverted | lost | bagFail | untied | unconfirmed | flushed
  deriving DecidableEq, Repr

/-- State of the Tracking Queue (05); the records oldest first. -/
structure TrackingQueue where
  records : List LoafRecord
  tagCounter : Nat
  rejectGate : Pulse
  exitGate : Pulse
  deriving DecidableEq, Repr

/-! ## Run Schedule (06) -/

/-- 06, 6.1. -/
inductive EntryState where
  | pending | active | filled | closed
  deriving DecidableEq, Repr

/-- A schedule entry (06). -/
structure Entry where
  id : Nat
  slot : Fin 16
  target : Nat
  gap : Nat
  stopAfter : Bool
  state : EntryState
  admitted : Nat
  carried : Nat
  good : Nat
  bagFail : Nat
  untied : Nat
  unconfirmed : Nat
  lost : Nat
  flushed : Nat
  diverted : Nat
  sizeDiverted : Nat
  sizeLost : Nat
  unmeasured : Nat
  deriving DecidableEq, Repr

/-- R91. -/
inductive ScheduleState where
  | idle | active | suspended
  deriving DecidableEq, Repr

/-- State of the Run Schedule (06). -/
structure RunSchedule where
  entries : List Entry
  state : ScheduleState
  idCounter : Nat
  gapRelease : Option Pos
  deriving DecidableEq, Repr

/-! ## Bag and Clip Unit (07) -/

/-- The production date (R114). -/
structure Date where
  day : Nat
  yearDigit : Nat
  weekday : Nat
  leap : Bool
  deriving DecidableEq, Repr

/-- 07, 7.5. -/
inductive TyerState where
  | ready | firing | fault
  deriving DecidableEq, Repr

/-- R122. -/
inductive MissCause where
  | clipEmpty | tyerBusy | tyerFault
  deriving DecidableEq, Repr

/-- A pending tie (R121). -/
structure PendingTie where
  tag : Nat
  position : Pos
  deriving DecidableEq, Repr

/-- The tie in flight (R122); `present` says whether the record fired for is still in the queue (R123; log 17). -/
structure TieInFlight where
  tag : Nat
  present : Bool
  expiry : Nat
  deriving DecidableEq, Repr

/-- State of the Bag and Clip Unit (07). -/
structure BagClipUnit where
  date : Date
  dateSet : Bool
  colours : Vector Nat 7
  magazine : Nat
  lowThreshold : Nat
  tieTimeout : Nat
  pendingTies : List PendingTie
  tyer : TyerState
  tieInFlight : Option TieInFlight
  fireLine : Pulse
  lastMiss : Option (Nat × MissCause)
  deriving DecidableEq, Repr

/-! ## Crumb Unit (08) -/

/-- State of one crumb zone (08); RESTING is the absence of a blast end time. -/
structure ZoneState where
  fitted : Bool
  load : Nat
  soft : Nat
  hard : Nat
  blastEnd : Option Nat
  manualClear : Bool
  purgeOwed : Bool
  valve : Pin
  deriving DecidableEq, Repr

/-- The two zones. -/
structure CrumbUnit where
  z0 : ZoneState
  z1 : ZoneState
  deriving DecidableEq, Repr

/-! ## Line and Hold Unit (09) -/

/-- 09, 9.1. -/
inductive LineState where
  | stopped | running | idle
  deriving DecidableEq, Repr

/-- The thirteen hold reasons (09, 9.3). -/
inductive HoldReason where
  | slicerHold | baggerHold | officeHold | noProduct | bladeMismatch | noDate | queueFull | crumbFull0 | crumbFull1
  | clipEmpty | tyerFault | scheduleGap | scheduleStop
  deriving DecidableEq, Repr

/-- State of the Line and Hold Unit (09); `holds` is the hold set word of 11.7. -/
structure LineUnit where
  state : LineState
  idleTimer : Option Nat
  holds : Set16
  permit : Pin
  deriving DecidableEq, Repr

/-! ## Totals Unit and Totals Store (10) -/

/-- A product entry, or the OTHER entry (10). -/
structure ProductEntry where
  code : Nat
  good : Nat
  diverted : Nat
  lost : Nat
  bagFail : Nat
  untied : Nat
  unconfirmed : Nat
  flushed : Nat
  slices : Nat
  late : Nat
  blind : Nat
  shortest : Option Nat
  longest : Option Nat
  deriving DecidableEq, Repr

/-- A shift record (10). -/
structure ShiftRecord where
  number : Nat
  carriedIn : Nat
  created : Nat
  untracked : Nat
  strays : Nat
  runSeconds : Nat
  idleSeconds : Nat
  stoppedSeconds : Nat
  heldSeconds : Nat
  blasts0 : Nat
  blasts1 : Nat
  clipsUsed : Nat
  products : List ProductEntry
  other : ProductEntry
  deriving DecidableEq, Repr

/-- State of the Totals Unit (10): the open-shift totals hold the open shift number. -/
structure TotalsUnit where
  openShift : ShiftRecord
  runMs : Nat
  idleMs : Nat
  stoppedMs : Nat
  heldMs : Nat
  buffer : Option ShiftRecord
  deriving DecidableEq, Repr

/-- The two banks. -/
inductive BankId where
  | a | b
  deriving DecidableEq, Repr

/-- A bank (R160): its records oldest first, its sequence number 1..4294967295, and whether its state word is valid. -/
structure Bank where
  records : List ShiftRecord
  seq : Nat
  stateWord : Bool
  deriving DecidableEq, Repr

/-- 10, 10.3. -/
inductive StoreState where
  | empty | ready | writing | faulted
  deriving DecidableEq, Repr

/-- The steps of a store write (R162). -/
inductive WriteStep where
  | erase | program | verify | stateWord
  deriving DecidableEq, Repr

/-- The write in progress (R162, R163): target, step, attempt 1 or 2, the records chosen and the new sequence number. -/
structure StoreWrite where
  target : BankId
  step : WriteStep
  attempt : Nat
  chosen : List ShiftRecord
  newSeq : Nat
  deriving DecidableEq, Repr

/-- State of the Totals Store (10). -/
structure TotalsStore where
  bankA : Bank
  bankB : Bank
  current : Option BankId
  state : StoreState
  write : Option StoreWrite
  deriving DecidableEq, Repr

/-! ## Station Ports (11) -/

/-- The transaction in progress: none, or the bytes received so far of a request frame, or of a fetch, whose first byte is 0 (R169,
R171). -/
inductive FrameState where
  | idle
  | receiving (bytes : List Byte)
  deriving DecidableEq, Repr

/-- A response frame (R172): kind echo, sequence echo, result code, body. -/
structure Response where
  kind : Byte
  seq : Byte
  result : Byte
  body : List Byte
  deriving DecidableEq, Repr

/-- R174. -/
inductive Attention where
  | released | asserted
  deriving DecidableEq, Repr

/-- What a port makes of the clock edges that come now (R171, R178; log 26). -/
inductive LinkState where
  /-- Bytes are received: select is high, or a transaction not yet judged is in progress (R169). -/
  | listening
  /-- Select is still low after a judgement: bytes are ignored until it rises (R171). -/
  | judged
  /-- Select is still low after a port reset: clock edges are ignored until it rises (R178). -/
  | wasReset
  deriving DecidableEq, Repr

/-- State of one station port (11). `link` says whether the port listens (log 26); `dataOut` is what the port has driven on its data
out, byte by byte, in its present or last transaction (R169, R172; log 9). -/
structure PortState where
  frame : FrameState
  link : LinkState
  response : Option Response
  flags : Set16
  mask : Set16
  attention : Attention
  dataOut : List Byte
  deriving DecidableEq, Repr

/-- The three ports. -/
structure PortStates where
  slicer : PortState
  bagger : PortState
  office : PortState
  deriving DecidableEq, Repr

/-! ## The whole part -/

/-- The whole state. -/
structure State where
  /-- The commands that wait, first in, first out. -/
  pending : List Instr
  /-- The model's clock, ms (log 1). -/
  now : Nat
  /-- How many free choices have been taken (log 15). -/
  choices : Nat
  pos : PositionUnit
  chain : StationChain
  recipes : RecipeTable
  queue : TrackingQueue
  schedule : RunSchedule
  bag : BagClipUnit
  crumb : CrumbUnit
  line : LineUnit
  totals : TotalsUnit
  store : TotalsStore
  ports : PortStates
  deriving DecidableEq, Repr

/-! ## After a power-on reset -/

/-- An entry of the shift totals at 0 (R153, R154). -/
def ProductEntry.zero (code : Nat) : ProductEntry :=
  { code := code, good := 0, diverted := 0, lost := 0, bagFail := 0, untied := 0, unconfirmed := 0, flushed := 0, slices := 0,
    late := 0, blind := 0, shortest := none, longest := none }

/-- A shift record at 0 but for its carried-in count (R153, R158); 65535 is the code of OTHER. -/
def ShiftRecord.opened (number carriedIn : Nat) : ShiftRecord :=
  { number := number, carriedIn := carriedIn, created := 0, untracked := 0, strays := 0, runSeconds := 0, idleSeconds := 0,
    stoppedSeconds := 0, heldSeconds := 0, blasts0 := 0, blasts1 := 0, clipsUsed := 0, products := [],
    other := ProductEntry.zero 65535 }

/-- A bank of the part that State.reset stands for: no records, an invalid state word, sequence number 1 (DESIGN CHOICE, log 6). -/
def Bank.initial : Bank := { records := [], seq := 1, stateWord := false }

/-- A filter at power-on (R13). -/
def EyeFilter.sampled (l : Level) : EyeFilter := { accepted := l, change := none }

/-- A slot at power-on (R27). -/
def Slot.initial : Slot := { state := .empty, product := none, inFlight := 0 }

/-- A zone at power-on (R128). -/
def ZoneState.initial : ZoneState :=
  { fitted := false, load := 0, soft := 20000, hard := 40000, blastEnd := none, manualClear := false, purgeOwed := false,
    valve := .released }

/-- A port at power-on (R178). -/
def PortState.initial : PortState :=
  { frame := .idle, link := .listening, response := none, flags := 0, mask := 0, attention := .released, dataOut := [] }

/-- The hold set at power-on (R143): NO_PRODUCT (bit 3), NO_DATE (bit 5), CLIP_EMPTY (bit 9). -/
def holdsAtPowerOn : Set16 := 0x0228#16

/-- The part right after a power-on reset, with unwritten banks (log 6), encoder lines (0,0) and clear eyes (log 5). -/
def State.reset : State :=
  { pending := []
    now := 0
    choices := 0
    pos :=
      { lines := .q00, p := 0, h := 0, x := 0, windowStart := 0, nextSample := 4, v := 0
        filters := ⟨.sampled .clear, .sampled .clear, .sampled .clear, .sampled .clear, .sampled .clear⟩
        config := { pitch := 100, offset := 0, filterTime := 2, idleTime := 120 } }
    chain := { places := Vector.replicate 8 none, head := 0, state := .unvalidated, lastFailure := none }
    recipes := { slots := Vector.replicate 16 Slot.initial, selection := none, pitch := 0 }
    queue := { records := [], tagCounter := 1, rejectGate := .released, exitGate := .released }
    schedule := { entries := [], state := .idle, idCounter := 1, gapRelease := none }
    bag :=
      { date := { day := 1, yearDigit := 0, weekday := 0, leap := false }, dateSet := false, colours := Vector.replicate 7 0
        magazine := 0, lowThreshold := 200, tieTimeout := 150, pendingTies := [], tyer := .ready, tieInFlight := none
        fireLine := .released, lastMiss := none }
    crumb := ⟨.initial, .initial⟩
    line := { state := .stopped, idleTimer := none, holds := holdsAtPowerOn, permit := .released }
    totals :=
      { openShift := .opened 1 0, runMs := 0, idleMs := 0, stoppedMs := 0, heldMs := 0, buffer := none }
    store := { bankA := .initial, bankB := .initial, current := none, state := .empty, write := none }
    ports := ⟨.initial, .initial, .initial⟩ }

end Sys2Proof.Machine
end

