-- ==== Sys2Proof/Machine/Ops.lean ====
section
/-! DEFINITION. The named operations every block is written with: position arithmetic, convergent rounding, saturating counts,
wrapping ids, and the accessors and updates of the state's parts. -/

namespace Sys2Proof.Machine

/-! ## Arithmetic -/

/-- The difference a − b of two positions, read as a signed number (R2). -/
def posDiff (a b : Pos) : Int := (a - b).toInt

/-- Position a lies ahead of position b (R2). -/
def ahead (a b : Pos) : Bool := decide (0 < posDiff a b)

/-- A target counts as reached when H comes to it or passes it (R5). -/
def reached (target h : Pos) : Bool := !ahead target h

/-- A position moved forward by a number of counts, modulo 2^32 (R2, R45). -/
def forwardBy (p : Pos) (n : Nat) : Pos := p + BitVec.ofNat 32 n

/-- A position moved back by a number of counts, modulo 2^32. -/
def backBy (p : Pos) (n : Nat) : Pos := p - BitVec.ofNat 32 n

/-- Convergent rounding of a / b: the nearest integer, an exact half to the even neighbour (R44). -/
def roundNat (a b : Nat) : Nat :=
  if 2 * (a % b) < b then a / b
  else if b < 2 * (a % b) then a / b + 1
  else if (a / b) % 2 = 0 then a / b else a / b + 1

/-- Convergent rounding of a signed dividend: the magnitude is rounded and the sign restored (R44). -/
def roundInt (a : Int) (b : Nat) : Int :=
  if a < 0 then -(roundNat a.natAbs b : Int) else (roundNat a.natAbs b : Int)

/-- The limit of a 32-bit count (10). -/
def countLimit : Nat := 4294967295

/-- A 32-bit count raised by d; it saturates (R153). -/
def raiseBy (n d : Nat) : Nat := min (n + d) countLimit

/-- A 32-bit count raised by 1; it saturates (R153). -/
def raise (n : Nat) : Nat := raiseBy n 1

/-- The tag or id after t: 255 is followed by 1 (R64, R90). -/
def after255 (t : Nat) : Nat := if t < 255 then t + 1 else 1

/-- The first of `start` and the tags or ids after it that is not in `used` (R64, R90); `fuel` bounds the search. -/
def firstFree (used : List Nat) : Nat → Nat → Nat
  | 0, t => t
  | fuel + 1, t => if used.contains t then firstFree used fuel (after255 t) else t

/-! ## Parts of the state -/

/-- The filter of an eye. -/
def EyeFilters.get (f : EyeFilters) : Eye → EyeFilter
  | .e0 => f.e0
  | .e1 => f.e1
  | .e2 => f.e2
  | .e3 => f.e3
  | .e4 => f.e4

/-- The filters with one eye's filter replaced. -/
def EyeFilters.set (f : EyeFilters) (e : Eye) (x : EyeFilter) : EyeFilters :=
  match e with
  | .e0 => { f with e0 := x }
  | .e1 => { f with e1 := x }
  | .e2 => { f with e2 := x }
  | .e3 => { f with e3 := x }
  | .e4 => { f with e4 := x }

/-- The state of a crumb zone. -/
def CrumbUnit.get (c : CrumbUnit) : Zone → ZoneState
  | .z0 => c.z0
  | .z1 => c.z1

/-- The zones with one of them replaced. -/
def CrumbUnit.set (c : CrumbUnit) (z : Zone) (x : ZoneState) : CrumbUnit :=
  match z with
  | .z0 => { c with z0 := x }
  | .z1 => { c with z1 := x }

/-- The state of a port. -/
def PortStates.get (ps : PortStates) : Port → PortState
  | .slicer => ps.slicer
  | .bagger => ps.bagger
  | .office => ps.office

/-- The ports with one of them replaced. -/
def PortStates.set (ps : PortStates) (p : Port) (x : PortState) : PortStates :=
  match p with
  | .slicer => { ps with slicer := x }
  | .bagger => { ps with bagger := x }
  | .office => { ps with office := x }

/-- A bank of the store. -/
def TotalsStore.bank (t : TotalsStore) : BankId → Bank
  | .a => t.bankA
  | .b => t.bankB

/-- The store with one bank replaced. -/
def TotalsStore.setBank (t : TotalsStore) (i : BankId) (x : Bank) : TotalsStore :=
  match i with
  | .a => { t with bankA := x }
  | .b => { t with bankB := x }

/-! ## Updates of the whole state, one per part -/

def State.setPending (s : State) (x : List Instr) : State := { s with pending := x }
def State.setNow (s : State) (x : Nat) : State := { s with now := x }
def State.setChoices (s : State) (x : Nat) : State := { s with choices := x }
def State.setPos (s : State) (x : PositionUnit) : State := { s with pos := x }
def State.setChain (s : State) (x : StationChain) : State := { s with chain := x }
def State.setRecipes (s : State) (x : RecipeTable) : State := { s with recipes := x }
def State.setQueue (s : State) (x : TrackingQueue) : State := { s with queue := x }
def State.setSchedule (s : State) (x : RunSchedule) : State := { s with schedule := x }
def State.setBag (s : State) (x : BagClipUnit) : State := { s with bag := x }
def State.setCrumb (s : State) (x : CrumbUnit) : State := { s with crumb := x }
def State.setLine (s : State) (x : LineUnit) : State := { s with line := x }
def State.setTotals (s : State) (x : TotalsUnit) : State := { s with totals := x }
def State.setStore (s : State) (x : TotalsStore) : State := { s with store := x }
def State.setPorts (s : State) (x : PortStates) : State := { s with ports := x }

/-- A crumb zone of the state. -/
def State.zone (s : State) (z : Zone) : ZoneState := s.crumb.get z

/-- The state with a crumb zone replaced. -/
def State.setZone (s : State) (z : Zone) (x : ZoneState) : State := s.setCrumb (s.crumb.set z x)

/-- A port of the state. -/
def State.port (s : State) (p : Port) : PortState := s.ports.get p

/-- The state with a port replaced. -/
def State.setPort (s : State) (p : Port) (x : PortState) : State := s.setPorts (s.ports.set p x)

/-- The open shift's totals changed. -/
def State.setShift (s : State) (x : ShiftRecord) : State := s.setTotals { s.totals with openShift := x }

/-! ## Recipe slots -/

/-- A slot number of a request, if it is one of 0..15. -/
def slotIndex? (n : Nat) : Option (Fin 16) := if h : n < 16 then some ⟨n, h⟩ else none

/-- A recipe slot. -/
def State.slot (s : State) (i : Fin 16) : Slot := s.recipes.slots.get i

/-- The state with a recipe slot replaced. -/
def State.setSlot (s : State) (i : Fin 16) (x : Slot) : State :=
  s.setRecipes { s.recipes with slots := s.recipes.slots.set i x }

/-- The ACTIVE slot, if there is one (R28: there is at most one). -/
def State.activeSlot (s : State) : Option (Fin 16) :=
  (List.finRange 16).find? fun i => decide ((s.slot i).state = .active)

/-! ## Loaf records -/

/-- The record in the queue that holds a tag (R61: at most one does). -/
def State.record? (s : State) (tag : Nat) : Option LoafRecord :=
  s.queue.records.find? fun r => decide (r.tag = tag)

/-- The records of a list with the one that holds a tag changed. -/
def changeRecord (tag : Nat) (f : LoafRecord → LoafRecord) (rs : List LoafRecord) : List LoafRecord :=
  rs.map fun r => if r.tag = tag then f r else r

/-- A change handed to the queue for the record that holds a tag; it changes nothing when none does (R88). -/
def State.updateRecord (s : State) (tag : Nat) (f : LoafRecord → LoafRecord) : State :=
  s.setQueue { s.queue with records := changeRecord tag f s.queue.records }

/-- The queue count (R61). -/
def State.queueCount (s : State) : Nat := s.queue.records.length

/-- The record's size reasons: UNDERSIZE or OVERSIZE (R49, R50). -/
def Reasons.size (r : Reasons) : Bool := r.undersize || r.oversize

/-- Whether a set of divert reasons has a member. -/
def Reasons.any (r : Reasons) : Bool := r.undersize || r.oversize || r.blade || r.marked

/-- The union of two sets of divert reasons (R46). -/
def Reasons.union (a b : Reasons) : Reasons :=
  { undersize := a.undersize || b.undersize, oversize := a.oversize || b.oversize, blade := a.blade || b.blade
    marked := a.marked || b.marked }

/-- The empty set of divert reasons. -/
def Reasons.empty : Reasons := { undersize := false, oversize := false, blade := false, marked := false }

/-! ## Schedule entries -/

/-- The entry that holds an id (R89: at most one does). -/
def State.entry? (s : State) (id : Nat) : Option Entry :=
  s.schedule.entries.find? fun e => decide (e.id = id)

/-- The ACTIVE entry (R91: at most one). -/
def State.activeEntry (s : State) : Option Entry :=
  s.schedule.entries.find? fun e => decide (e.state = .active)

/-- The first PENDING entry (R89). -/
def State.firstPending (s : State) : Option Entry :=
  s.schedule.entries.find? fun e => decide (e.state = .pending)

/-- The state with the entry that holds an id changed. -/
def State.updateEntry (s : State) (id : Nat) (f : Entry → Entry) : State :=
  s.setSchedule { s.schedule with entries := s.schedule.entries.map fun e => if e.id = id then f e else e }

end Sys2Proof.Machine
end

