-- ==== Sys2Proof/Machine/Flags.lean ====
section
/-! DEFINITION. The flag computations: notice flags, masks and the attention lines (11.4), the hold set and the infeed permit
(09), and the clipping of the tests that other blocks make of them. -/

namespace Sys2Proof.Machine

/-! ## Notices and attention lines -/

/-- The notice kinds of the three ports (11.7). -/
inductive NoticeKind where
  | changeoverTaken | selectSuperseded | lineIdle | holdChanged | bagReady | bagWithdrawn | bagBlind | tyerFault | clipLow
  | recipeFreed | entryClosed | scheduleSuspended | lostLoaf | strayEdge | untrackedLoaf | shiftClosed | storeDone | storeFault
  deriving DecidableEq, Repr

/-- A kind's position in a port's list, if the port has it (11.7). -/
def noticePosition : Port → NoticeKind → Option Nat
  | .slicer, .changeoverTaken => some 0
  | .slicer, .selectSuperseded => some 1
  | .slicer, .lineIdle => some 2
  | .slicer, .holdChanged => some 3
  | .bagger, .bagReady => some 0
  | .bagger, .bagWithdrawn => some 1
  | .bagger, .bagBlind => some 2
  | .bagger, .tyerFault => some 3
  | .bagger, .clipLow => some 4
  | .bagger, .holdChanged => some 5
  | .office, .changeoverTaken => some 0
  | .office, .selectSuperseded => some 1
  | .office, .recipeFreed => some 2
  | .office, .entryClosed => some 3
  | .office, .scheduleSuspended => some 4
  | .office, .lostLoaf => some 5
  | .office, .strayEdge => some 6
  | .office, .untrackedLoaf => some 7
  | .office, .shiftClosed => some 8
  | .office, .storeDone => some 9
  | .office, .storeFault => some 10
  | .office, .holdChanged => some 11
  | _, _ => none

/-- The positions that hold a kind of the port (R175): 4 on the slicer port, 6 on the bagger port, 12 on the office port. -/
def noticePositions : Port → Set16
  | .slicer => 0x000F#16
  | .bagger => 0x003F#16
  | .office => 0x0FFF#16

/-- The attention line as its condition gives it: ASSERTED while a flag is set whose kind is not masked (R174). -/
def attentionOf (flags mask : Set16) : Attention :=
  if flags &&& ~~~mask = 0 then .released else .asserted

/-- A port with its attention line judged (R174). -/
def PortState.judged (x : PortState) : PortState := { x with attention := attentionOf x.flags x.mask }

/-- A port with the flags of a set added, and its attention line judged (R173). -/
def PortState.raiseFlags (x : PortState) (bits : Set16) : PortState := PortState.judged { x with flags := x.flags ||| bits }

/-- The set that names one kind of a port; empty where the port has no such kind. -/
def noticeBit (p : Port) (k : NoticeKind) : Set16 :=
  match noticePosition p k with
  | some i => BitVec.twoPow 16 i
  | none => 0

/-- A notice flag is set at an occurrence of its event (R173). -/
def State.notify (s : State) (p : Port) (k : NoticeKind) : State :=
  s.setPort p ((s.port p).raiseFlags (noticeBit p k))

/-! ## The hold set and the infeed permit -/

/-- A hold reason's code, its bit in the hold set word (11.7). -/
def HoldReason.code : HoldReason → Nat
  | .slicerHold => 0
  | .baggerHold => 1
  | .officeHold => 2
  | .noProduct => 3
  | .bladeMismatch => 4
  | .noDate => 5
  | .queueFull => 6
  | .crumbFull0 => 7
  | .crumbFull1 => 8
  | .clipEmpty => 9
  | .tyerFault => 10
  | .scheduleGap => 11
  | .scheduleStop => 12

/-- The hold reason a code names (11.7). -/
def holdReason? : Nat → Option HoldReason
  | 0 => some .slicerHold
  | 1 => some .baggerHold
  | 2 => some .officeHold
  | 3 => some .noProduct
  | 4 => some .bladeMismatch
  | 5 => some .noDate
  | 6 => some .queueFull
  | 7 => some .crumbFull0
  | 8 => some .crumbFull1
  | 9 => some .clipEmpty
  | 10 => some .tyerFault
  | 11 => some .scheduleGap
  | 12 => some .scheduleStop
  | _ => none

/-- A port's own hold reason (R149). -/
def ownHold : Port → HoldReason
  | .slicer => .slicerHold
  | .bagger => .baggerHold
  | .office => .officeHold

/-- A zone's hold reason (R132). -/
def fullReason : Zone → HoldReason
  | .z0 => .crumbFull0
  | .z1 => .crumbFull1

/-- A hold reason's bit. -/
def HoldReason.bit (r : HoldReason) : Set16 := BitVec.twoPow 16 r.code

/-- Whether a reason is in the hold set (R148). -/
def State.held (s : State) (r : HoldReason) : Bool := s.line.holds.getLsbD r.code

/-- The infeed permit as its condition gives it (R150). -/
def permitOf (l : LineState) (holds : Set16) : Pin :=
  if l ≠ .stopped ∧ holds = 0 then .driven else .released

/-- HOLD_CHANGED set on all three ports (R148). -/
def State.notifyHoldChanged (s : State) : State :=
  ((s.notify .slicer .holdChanged).notify .bagger .holdChanged).notify .office .holdChanged

/-- A change of the hold set: the set, the permit judged, HOLD_CHANGED (R148, R150). -/
def State.changeHolds (s : State) (w : Set16) : State :=
  (s.setLine { s.line with holds := w, permit := permitOf s.line.state w }).notifyHoldChanged

/-- A placing of a hold reason by its owner; of a reason already present it changes nothing (R148). -/
def State.placeHold (s : State) (r : HoldReason) : State :=
  if s.held r then s else s.changeHolds (s.line.holds ||| r.bit)

/-- A release of a hold reason by its owner; of a reason already absent it changes nothing (R148). -/
def State.releaseHold (s : State) (r : HoldReason) : State :=
  if s.held r then s.changeHolds (s.line.holds &&& ~~~r.bit) else s

/-- A reason placed or released as its condition stands. -/
def State.judgeHold (s : State) (r : HoldReason) (condition : Bool) : State :=
  if condition then s.placeHold r else s.releaseHold r

/-- The line state and the idle timer set, and the permit judged (R150). -/
def State.setLineState (s : State) (l : LineState) (timer : Option Nat) : State :=
  s.setLine { s.line with state := l, idleTimer := timer, permit := permitOf l s.line.holds }

end Sys2Proof.Machine
end

