-- ==== Sys2Proof/Machine/Operands.lean ====
section
/-! DEFINITION. The operand forms of the link: how values stand in a body (R170, R172), the codes of the choices (11.7), and the
reading of a descriptor's seven-byte area. -/

namespace Sys2Proof.Machine

/-! ## Values in a body -/

/-- A value of one byte (R170). -/
def u8 (n : Nat) : List Byte := [BitVec.ofNat 8 n]

/-- A value of two bytes, most significant first (R170). -/
def u16 (n : Nat) : List Byte := [BitVec.ofNat 8 (n / 256), BitVec.ofNat 8 n]

/-- A value of four bytes, most significant first (R170). -/
def u32 (n : Nat) : List Byte :=
  [BitVec.ofNat 8 (n / 16777216), BitVec.ofNat 8 (n / 65536), BitVec.ofNat 8 (n / 256), BitVec.ofNat 8 n]

/-- A yes/no value: 0 no, 1 yes (11.7). -/
def yesNo (b : Bool) : List Byte := u8 (if b then 1 else 0)

/-- A 16-bit set in two bytes (11.7). -/
def set16 (w : Set16) : List Byte := u16 w.toNat

/-- A position in four bytes. -/
def posBytes (p : Pos) : List Byte := u32 p.toNat

/-- An optional value that takes `width` bytes: a presence byte, then the value, or zeros when it is absent (R172). -/
def optional (width : Nat) : Option (List Byte) → List Byte
  | some v => u8 1 ++ v
  | none => u8 0 ++ List.replicate width 0

/-- A list: a count byte, then the items (11.7). -/
def listOf (items : List (List Byte)) : List Byte := u8 items.length ++ items.flatten

/-- A value of two bytes, read from them. -/
def read16 (hi lo : Byte) : Nat := hi.toNat * 256 + lo.toNat

/-- A yes/no value of a request; other bytes are no choice (log 13). -/
def yesNo? : Nat → Option Bool
  | 0 => some false
  | 1 => some true
  | _ => none

/-! ## Codes of the choices (11.7) -/

def Pin.code : Pin → Nat
  | .released => 0
  | .driven => 1

def LineState.code : LineState → Nat
  | .stopped => 0
  | .running => 1
  | .idle => 2

def ChainState.code : ChainState → Nat
  | .unvalidated => 0
  | .valid => 1

def Cause.code : Cause → Nat
  | .empty => 0
  | .brokenLink => 1
  | .distanceOrder => 2
  | .kindOrder => 3
  | .zoneRepeated => 4
  | .incomplete => 5

def SlotState.code : SlotState → Nat
  | .empty => 0
  | .loaded => 1
  | .active => 2
  | .retiring => 3

def Source.code : Source → Nat
  | .slicer => 0
  | .office => 1
  | .schedule => 2

def ScheduleState.code : ScheduleState → Nat
  | .idle => 0
  | .active => 1
  | .suspended => 2

def EntryState.code : EntryState → Nat
  | .pending => 0
  | .active => 1
  | .filled => 2
  | .closed => 3

def TyerState.code : TyerState → Nat
  | .ready => 0
  | .firing => 1
  | .fault => 2

def MissCause.code : MissCause → Nat
  | .clipEmpty => 0
  | .tyerBusy => 1
  | .tyerFault => 2

def StoreState.code : StoreState → Nat
  | .empty => 0
  | .ready => 1
  | .writing => 2
  | .faulted => 3

/-- The code of the current bank: 0 none, 1 A, 2 B. -/
def bankCode : Option BankId → Nat
  | none => 0
  | some .a => 1
  | some .b => 2

/-- A stage's code in the loaf view. -/
def Stage.code : Stage → Nat
  | .measuring => 1
  | .toSlicer => 2
  | .diverting => 3
  | .toBag => 4
  | .bagging => 5
  | .tying => 6
  | .exiting => 7

def BagResult.code : BagResult → Nat
  | .ok => 0
  | .fail => 1

/-- The bag result a code names (R112). -/
def bagResult? : Nat → Option BagResult
  | 0 => some .ok
  | 1 => some .fail
  | _ => none

def TieStatus.code : TieStatus → Nat
  | .none => 0
  | .inFlight => 1
  | .tied => 2
  | .missed => 3

/-- The weight of a bit of a byte when its member is present. -/
def bitIf (b : Bool) (weight : Nat) : Nat := if b then weight else 0

/-- The divert reasons byte of the loaf view. -/
def Reasons.code (r : Reasons) : Nat :=
  bitIf r.undersize 1 + bitIf r.oversize 2 + bitIf r.blade 4 + bitIf r.marked 8

/-- The zone a request's zone number names. -/
def zone? : Nat → Option Zone
  | 0 => some .z0
  | 1 => some .z1
  | _ => none

/-- A zone's number. -/
def zoneCode : Zone → Nat
  | .z0 => 0
  | .z1 => 1

/-! ## Descriptors on the link -/

/-- The range checks of the window tolerance, a latency and a gate pulse (02, 2.1). -/
def toleranceOk (n : Nat) : Bool := decide (10 ≤ n ∧ n ≤ 8000)
def latencyOk (n : Nat) : Bool := decide (n ≤ 250)
def gatePulseOk (n : Nat) : Bool := decide (10 ≤ n ∧ n ≤ 1000)

/-- The station that a kind code 1..7 and the seven-byte area of a CHAIN_WRITE give, the kind's own fields standing in the order
of the descriptor table from the area's first byte (11.7); none when a field of that kind lies outside its range or the code is no
kind (R19). Bytes beyond the kind's fields are ignored. -/
def station? (kind : Nat) (a : Vector Byte 7) : Option Station :=
  let w0 := read16 a[0] a[1]
  let w1 := read16 a[1] a[2]
  let w2 := read16 a[2] a[3]
  let w3 := read16 a[3] a[4]
  let w4 := read16 a[4] a[5]
  let w5 := read16 a[5] a[6]
  match kind with
  | 1 => if toleranceOk w0 then some (.eyeSliced w0) else none
  | 2 => if latencyOk a[0].toNat && gatePulseOk w1 then some (.gateReject a[0].toNat w1) else none
  | 3 =>
    match zone? a[0].toNat with
    | some z =>
      if decide (w1 ≤ 20000) && decide (10 ≤ w3 ∧ w3 ≤ 2000) && decide (1 ≤ w5 ∧ w5 ≤ 256) then some (.crumbBar z w1 w3 w5)
      else none
    | none => none
  | 4 => if toleranceOk w0 then some (.eyeBag w0) else none
  | 5 =>
    if toleranceOk w0 && decide (w2 ≤ 20000) && decide (w4 ≤ 4000) && latencyOk a[6].toNat then
      some (.eyeClip w0 w2 w4 a[6].toNat)
    else none
  | 6 => if toleranceOk w0 then some (.eyeExit w0) else none
  | 7 => if latencyOk a[0].toNat && gatePulseOk w1 then some (.gateExit a[0].toNat w1) else none
  | _ => none

/-- A station's kind code (11.7). -/
def Station.code : Station → Nat
  | .eyeSliced _ => 1
  | .gateReject _ _ => 2
  | .crumbBar _ _ _ _ => 3
  | .eyeBag _ => 4
  | .eyeClip _ _ _ _ => 5
  | .eyeExit _ => 6
  | .gateExit _ _ => 7

/-- A station's own fields in the seven-byte area, zeros after them. -/
def Station.area : Station → List Byte
  | .eyeSliced t => u16 t ++ List.replicate 5 0
  | .gateReject l p => u8 l ++ u16 p ++ List.replicate 4 0
  | .crumbBar z w b y => u8 (zoneCode z) ++ u16 w ++ u16 b ++ u16 y
  | .eyeBag t => u16 t ++ List.replicate 5 0
  | .eyeClip t o n l => u16 t ++ u16 o ++ u16 n ++ u8 l
  | .eyeExit t => u16 t ++ List.replicate 5 0
  | .gateExit l p => u8 l ++ u16 p ++ List.replicate 4 0

/-- A descriptor place in a response: kind, distance, next and area; the mark ABSENT is kind 0 with zeros (log 10). -/
def placeBytes : Option Descriptor → List Byte
  | some d => u8 d.station.code ++ u32 d.distance ++ u8 d.next ++ d.station.area
  | none => List.replicate 13 0

end Sys2Proof.Machine
end

