-- ==== Sys2Proof/Machine/Requests.lean ====
section
/-! DEFINITION. What every request has in common: the forty kinds, who may send them, their body lengths, the result codes, and
the answering of a request (11.2, 11.3, 11.7). -/

namespace Sys2Proof.Machine

/-- The result codes (11.3). -/
inductive ResultCode where
  | ok | noResponse | badLength | badKind | notPermitted | outOfRange | lineState | chainInvalid | slotState | activeSlot
  | duplicateCode | slotScheduled | scheduleState | listFull | noSuchTag | notExpected | tooLate | notFound | storeBusy
  deriving DecidableEq, Repr

/-- A result's number on the link (11.3). -/
def ResultCode.code : ResultCode → Nat
  | .ok => 0
  | .noResponse => 1
  | .badLength => 2
  | .badKind => 3
  | .notPermitted => 4
  | .outOfRange => 5
  | .lineState => 6
  | .chainInvalid => 7
  | .slotState => 8
  | .activeSlot => 9
  | .duplicateCode => 10
  | .slotScheduled => 11
  | .scheduleState => 12
  | .listFull => 13
  | .noSuchTag => 14
  | .notExpected => 15
  | .tooLate => 16
  | .notFound => 17
  | .storeBusy => 18

/-- The request kinds (11.7). -/
inductive RequestKind where
  | statusRead | lineStart | lineStop | lineReset | lineConfig | holdSet | holdRelease | chainWrite | chainHead | chainRead
  | recipeLoad | recipeRetire | recipeRead | select | bladeReport | markDivert | trackRead | scheduleAppend | scheduleStart
  | scheduleResume | scheduleCancel | scheduleReap | scheduleRead | bagNext | bagResult | dateSet | colourTable | clipReload
  | clipConfig | tyerReset | crumbConfig | crumbClear | crumbRead | shiftClose | storeFormat | totalsRead | storeRead
  | noticeRead | noticeAck | noticeMask
  deriving DecidableEq, Repr

/-- The kind a kind byte names (11.7). -/
def requestKind? : Nat → Option RequestKind
  | 1 => some .statusRead
  | 2 => some .lineStart
  | 3 => some .lineStop
  | 4 => some .lineReset
  | 5 => some .lineConfig
  | 6 => some .holdSet
  | 7 => some .holdRelease
  | 8 => some .chainWrite
  | 9 => some .chainHead
  | 10 => some .chainRead
  | 11 => some .recipeLoad
  | 12 => some .recipeRetire
  | 13 => some .recipeRead
  | 14 => some .select
  | 15 => some .bladeReport
  | 16 => some .markDivert
  | 17 => some .trackRead
  | 18 => some .scheduleAppend
  | 19 => some .scheduleStart
  | 20 => some .scheduleResume
  | 21 => some .scheduleCancel
  | 22 => some .scheduleReap
  | 23 => some .scheduleRead
  | 24 => some .bagNext
  | 25 => some .bagResult
  | 26 => some .dateSet
  | 27 => some .colourTable
  | 28 => some .clipReload
  | 29 => some .clipConfig
  | 30 => some .tyerReset
  | 31 => some .crumbConfig
  | 32 => some .crumbClear
  | 33 => some .crumbRead
  | 34 => some .shiftClose
  | 35 => some .storeFormat
  | 36 => some .totalsRead
  | 37 => some .storeRead
  | 38 => some .noticeRead
  | 39 => some .noticeAck
  | 40 => some .noticeMask
  | _ => none

/-- A kind's number (11.7). -/
def RequestKind.code : RequestKind → Nat
  | .statusRead => 1
  | .lineStart => 2
  | .lineStop => 3
  | .lineReset => 4
  | .lineConfig => 5
  | .holdSet => 6
  | .holdRelease => 7
  | .chainWrite => 8
  | .chainHead => 9
  | .chainRead => 10
  | .recipeLoad => 11
  | .recipeRetire => 12
  | .recipeRead => 13
  | .select => 14
  | .bladeReport => 15
  | .markDivert => 16
  | .trackRead => 17
  | .scheduleAppend => 18
  | .scheduleStart => 19
  | .scheduleResume => 20
  | .scheduleCancel => 21
  | .scheduleReap => 22
  | .scheduleRead => 23
  | .bagNext => 24
  | .bagResult => 25
  | .dateSet => 26
  | .colourTable => 27
  | .clipReload => 28
  | .clipConfig => 29
  | .tyerReset => 30
  | .crumbConfig => 31
  | .crumbClear => 32
  | .crumbRead => 33
  | .shiftClose => 34
  | .storeFormat => 35
  | .totalsRead => 36
  | .storeRead => 37
  | .noticeRead => 38
  | .noticeAck => 39
  | .noticeMask => 40

/-- The body length of a kind (11.7). -/
def RequestKind.bodyLength : RequestKind → Nat
  | .statusRead => 0
  | .lineStart => 0
  | .lineStop => 0
  | .lineReset => 0
  | .lineConfig => 6
  | .holdSet => 1
  | .holdRelease => 1
  | .chainWrite => 14
  | .chainHead => 1
  | .chainRead => 1
  | .recipeLoad => 16
  | .recipeRetire => 1
  | .recipeRead => 1
  | .select => 1
  | .bladeReport => 2
  | .markDivert => 1
  | .trackRead => 2
  | .scheduleAppend => 6
  | .scheduleStart => 0
  | .scheduleResume => 0
  | .scheduleCancel => 1
  | .scheduleReap => 0
  | .scheduleRead => 2
  | .bagNext => 0
  | .bagResult => 2
  | .dateSet => 5
  | .colourTable => 7
  | .clipReload => 2
  | .clipConfig => 4
  | .tyerReset => 0
  | .crumbConfig => 5
  | .crumbClear => 1
  | .crumbRead => 0
  | .shiftClose => 0
  | .storeFormat => 0
  | .totalsRead => 2
  | .storeRead => 3
  | .noticeRead => 0
  | .noticeAck => 2
  | .noticeMask => 2

/-- The senders of a kind, as the request-kind table has them (11.7). -/
inductive Senders where
  | any | slicerOffice | slicer | bagger | baggerOffice | office
  deriving DecidableEq, Repr

/-- Whether a port is among the senders. -/
def Senders.has : Senders → Port → Bool
  | .any, _ => true
  | .slicerOffice, .slicer => true
  | .slicerOffice, .office => true
  | .slicerOffice, .bagger => false
  | .slicer, .slicer => true
  | .slicer, .bagger => false
  | .slicer, .office => false
  | .bagger, .bagger => true
  | .bagger, .slicer => false
  | .bagger, .office => false
  | .baggerOffice, .bagger => true
  | .baggerOffice, .office => true
  | .baggerOffice, .slicer => false
  | .office, .office => true
  | .office, .slicer => false
  | .office, .bagger => false

/-- Who may send a kind (11.7). -/
def RequestKind.senders : RequestKind → Senders
  | .statusRead => .any
  | .lineStart => .slicerOffice
  | .lineStop => .slicerOffice
  | .lineReset => .slicerOffice
  | .lineConfig => .office
  | .holdSet => .any
  | .holdRelease => .any
  | .chainWrite => .office
  | .chainHead => .office
  | .chainRead => .any
  | .recipeLoad => .office
  | .recipeRetire => .office
  | .recipeRead => .any
  | .select => .slicerOffice
  | .bladeReport => .slicer
  | .markDivert => .slicerOffice
  | .trackRead => .any
  | .scheduleAppend => .office
  | .scheduleStart => .office
  | .scheduleResume => .office
  | .scheduleCancel => .office
  | .scheduleReap => .office
  | .scheduleRead => .office
  | .bagNext => .bagger
  | .bagResult => .bagger
  | .dateSet => .office
  | .colourTable => .office
  | .clipReload => .bagger
  | .clipConfig => .office
  | .tyerReset => .bagger
  | .crumbConfig => .office
  | .crumbClear => .baggerOffice
  | .crumbRead => .any
  | .shiftClose => .office
  | .storeFormat => .office
  | .totalsRead => .slicerOffice
  | .storeRead => .office
  | .noticeRead => .any
  | .noticeAck => .any
  | .noticeMask => .any

/-- Whether a kind is permitted on a port (R171). -/
def RequestKind.permitted (k : RequestKind) (p : Port) : Bool := k.senders.has p

/-- What the owning block makes of a taken request: the state after it, its result and the response's body. -/
structure Reply where
  state : State
  result : ResultCode
  body : List Byte
  deriving DecidableEq, Repr

/-- What a port drives while n bytes of a request transaction are clocked: the filler value 0 for each (R169). -/
def filler (n : Nat) : List Byte := List.replicate n 0

/-- A port at the judgement of a request of whose transaction n bytes have been clocked: the slot takes the response and the frame state
returns to IDLE (R171, R172). -/
def PortState.answered (x : PortState) (r : Response) (n : Nat) : PortState :=
  { x with frame := .idle, response := some r, dataOut := filler n }

/-- The bytes of a request frame of a kind: kind, sequence number, length, and the kind's body (R170). -/
def requestLength (kind : Byte) : Nat := 3 + (requestKind? kind.toNat).elim 0 RequestKind.bodyLength

/-- The answer to a request command, which stands for a whole transaction with the rise of select at its end (log 7). -/
def State.respond (s : State) (p : Port) (kind seq : Byte) (result : ResultCode) (body : List Byte) : State :=
  s.setPort p
    { (s.port p).answered { kind := kind, seq := seq, result := BitVec.ofNat 8 result.code, body := body } (requestLength kind) with
      link := .listening }

/-- The state after a request of kind k: on a permitted port it is taken, so the block's reply stands and is answered; on another
it reaches no block and is refused NOT_PERMITTED with an empty body (R171). -/
def State.answer (s : State) (k : RequestKind) (p : Port) (seq : Byte) (r : Reply) : State :=
  if k.permitted p then r.state.respond p (BitVec.ofNat 8 k.code) seq r.result r.body
  else s.respond p (BitVec.ofNat 8 k.code) seq .notPermitted []

/-! ## The request commands as frames -/

/-- Which request a command is: its kind, the port it arrives on, its sequence number. -/
structure RequestHeader where
  kind : RequestKind
  port : Port
  seq : Byte
  deriving DecidableEq, Repr

/-- A command's request, if it is one. -/
def requestOf : Instr → Option RequestHeader
  | .powerOnReset _ _ => none
  | .encoderStep _ => none
  | .eyeRawLevelChange _ _ => none
  | .eyeFilterExpiry _ => none
  | .speedSamplerExpiry => none
  | .gatePulseEnd _ => none
  | .firePulseEnd => none
  | .tyerDone => none
  | .tieTimeoutExpiry => none
  | .blastEnd _ => none
  | .idleTimerExpiry => none
  | .secondsAccumulatorFull _ => none
  | .storeEraseDone => none
  | .storeProgramDone => none
  | .storeVerifyDone _ => none
  | .storeStateWordDone => none
  | .portReset _ => none
  | .frameRefused _ _ _ => none
  | .fetch _ _ => none
  | .statusRead p seq => some ⟨.statusRead, p, seq⟩
  | .lineStart p seq => some ⟨.lineStart, p, seq⟩
  | .lineStop p seq => some ⟨.lineStop, p, seq⟩
  | .lineReset p seq => some ⟨.lineReset, p, seq⟩
  | .lineConfig p seq _ _ _ _ => some ⟨.lineConfig, p, seq⟩
  | .holdSet p seq _ => some ⟨.holdSet, p, seq⟩
  | .holdRelease p seq _ => some ⟨.holdRelease, p, seq⟩
  | .chainWrite p seq _ _ _ _ _ => some ⟨.chainWrite, p, seq⟩
  | .chainHead p seq _ => some ⟨.chainHead, p, seq⟩
  | .chainRead p seq _ => some ⟨.chainRead, p, seq⟩
  | .recipeLoad p seq _ _ _ _ _ _ _ _ _ _ => some ⟨.recipeLoad, p, seq⟩
  | .recipeRetire p seq _ => some ⟨.recipeRetire, p, seq⟩
  | .recipeRead p seq _ => some ⟨.recipeRead, p, seq⟩
  | .select p seq _ => some ⟨.select, p, seq⟩
  | .bladeReport p seq _ => some ⟨.bladeReport, p, seq⟩
  | .markDivert p seq _ => some ⟨.markDivert, p, seq⟩
  | .trackRead p seq _ _ => some ⟨.trackRead, p, seq⟩
  | .scheduleAppend p seq _ _ _ _ => some ⟨.scheduleAppend, p, seq⟩
  | .scheduleStart p seq => some ⟨.scheduleStart, p, seq⟩
  | .scheduleResume p seq => some ⟨.scheduleResume, p, seq⟩
  | .scheduleCancel p seq _ => some ⟨.scheduleCancel, p, seq⟩
  | .scheduleReap p seq => some ⟨.scheduleReap, p, seq⟩
  | .scheduleRead p seq _ _ => some ⟨.scheduleRead, p, seq⟩
  | .bagNext p seq => some ⟨.bagNext, p, seq⟩
  | .bagResult p seq _ _ => some ⟨.bagResult, p, seq⟩
  | .dateSet p seq _ _ _ _ => some ⟨.dateSet, p, seq⟩
  | .colourTable p seq _ _ _ _ _ _ _ => some ⟨.colourTable, p, seq⟩
  | .clipReload p seq _ => some ⟨.clipReload, p, seq⟩
  | .clipConfig p seq _ _ => some ⟨.clipConfig, p, seq⟩
  | .tyerReset p seq => some ⟨.tyerReset, p, seq⟩
  | .crumbConfig p seq _ _ _ => some ⟨.crumbConfig, p, seq⟩
  | .crumbClear p seq _ => some ⟨.crumbClear, p, seq⟩
  | .crumbRead p seq => some ⟨.crumbRead, p, seq⟩
  | .shiftClose p seq => some ⟨.shiftClose, p, seq⟩
  | .storeFormat p seq => some ⟨.storeFormat, p, seq⟩
  | .totalsRead p seq _ _ => some ⟨.totalsRead, p, seq⟩
  | .storeRead p seq _ _ => some ⟨.storeRead, p, seq⟩
  | .noticeRead p seq => some ⟨.noticeRead, p, seq⟩
  | .noticeAck p seq _ => some ⟨.noticeAck, p, seq⟩
  | .noticeMask p seq _ => some ⟨.noticeMask, p, seq⟩

/-- A request's body (R170): its values in the order of its definition, each in the bytes its range gives. -/
def bodyOf : Instr → List Byte
  | .powerOnReset _ _ => []
  | .encoderStep _ => []
  | .eyeRawLevelChange _ _ => []
  | .eyeFilterExpiry _ => []
  | .speedSamplerExpiry => []
  | .gatePulseEnd _ => []
  | .firePulseEnd => []
  | .tyerDone => []
  | .tieTimeoutExpiry => []
  | .blastEnd _ => []
  | .idleTimerExpiry => []
  | .secondsAccumulatorFull _ => []
  | .storeEraseDone => []
  | .storeProgramDone => []
  | .storeVerifyDone _ => []
  | .storeStateWordDone => []
  | .portReset _ => []
  | .frameRefused _ _ _ => []
  | .fetch _ _ => []
  | .statusRead _ _ => []
  | .lineStart _ _ => []
  | .lineStop _ _ => []
  | .lineReset _ _ => []
  | .lineConfig _ _ pitch offset filterTime idleTime => u16 pitch ++ u8 offset ++ u8 filterTime ++ u16 idleTime
  | .holdSet _ _ reason => u8 reason
  | .holdRelease _ _ reason => u8 reason
  | .chainWrite _ _ index kind distance nextIndex area => u8 index ++ u8 kind ++ u32 distance ++ u8 nextIndex ++ area.toList
  | .chainHead _ _ index => u8 index
  | .chainRead _ _ index => u8 index
  | .recipeLoad _ _ slot code thickness heel minLen maxLen shortMax regularMax crumb shelf => u8 slot ++ u16 code ++ u8 thickness ++ u16 heel ++ u16 minLen ++ u16 maxLen ++ u16 shortMax ++ u16 regularMax ++ u8 crumb ++ u8 shelf
  | .recipeRetire _ _ slot => u8 slot
  | .recipeRead _ _ slot => u8 slot
  | .select _ _ slot => u8 slot
  | .bladeReport _ _ pitch => u16 pitch
  | .markDivert _ _ tag => u8 tag
  | .trackRead _ _ selector value => u8 selector ++ u8 value
  | .scheduleAppend _ _ slot target gap stopAfter => u8 slot ++ u16 target ++ u16 gap ++ u8 stopAfter
  | .scheduleStart _ _ => []
  | .scheduleResume _ _ => []
  | .scheduleCancel _ _ id => u8 id
  | .scheduleReap _ _ => []
  | .scheduleRead _ _ selector value => u8 selector ++ u8 value
  | .bagNext _ _ => []
  | .bagResult _ _ tag result => u8 tag ++ u8 result
  | .dateSet _ _ day yearDigit weekday leap => u16 day ++ u8 yearDigit ++ u8 weekday ++ u8 leap
  | .colourTable _ _ c0 c1 c2 c3 c4 c5 c6 => u8 c0 ++ u8 c1 ++ u8 c2 ++ u8 c3 ++ u8 c4 ++ u8 c5 ++ u8 c6
  | .clipReload _ _ count => u16 count
  | .clipConfig _ _ threshold timeout => u16 threshold ++ u16 timeout
  | .tyerReset _ _ => []
  | .crumbConfig _ _ zone soft hard => u8 zone ++ u16 soft ++ u16 hard
  | .crumbClear _ _ zone => u8 zone
  | .crumbRead _ _ => []
  | .shiftClose _ _ => []
  | .storeFormat _ _ => []
  | .totalsRead _ _ selector page => u8 selector ++ u8 page
  | .storeRead _ _ shift page => u16 shift ++ u8 page
  | .noticeRead _ _ => []
  | .noticeAck _ _ kinds => set16 kinds
  | .noticeMask _ _ kinds => set16 kinds

/-- A request's frame (11.7): kind, sequence number, body length, body. -/
def requestFrame (h : RequestHeader) (body : List Byte) : List Byte :=
  [BitVec.ofNat 8 h.kind.code, h.seq, BitVec.ofNat 8 body.length] ++ body

end Sys2Proof.Machine
end

