-- ==== Sys2Proof/Machine/TotalsOps.lean ====
section
/-! DEFINITION. The Totals Unit's shared operations (10): the counting of a leave and of the shift-level events, and the passing of
time into the seconds accumulators. -/

namespace Sys2Proof.Machine

/-! ## Leaves -/

/-- The count of an outcome raised by 1 (R154). -/
def ProductEntry.countOutcome (e : ProductEntry) : LeaveOutcome → ProductEntry
  | .good => { e with good := raise e.good }
  | .diverted => { e with diverted := raise e.diverted }
  | .lost => { e with lost := raise e.lost }
  | .bagFail => { e with bagFail := raise e.bagFail }
  | .untied => { e with untied := raise e.untied }
  | .unconfirmed => { e with unconfirmed := raise e.unconfirmed }
  | .flushed => { e with flushed := raise e.flushed }

/-- Slices, shortest and longest at a GOOD leave of a planned record (R154). -/
def ProductEntry.countGood (e : ProductEntry) (pl : Plan) : ProductEntry :=
  { e with
    slices := raiseBy e.slices pl.n
    shortest := match e.shortest with
      | none => some pl.lt
      | some m => if pl.lt < m then some pl.lt else some m
    longest := match e.longest with
      | none => some pl.lt
      | some m => if m < pl.lt then some pl.lt else some m }

/-- Late and blind, whatever the outcome (R154). -/
def ProductEntry.countFlags (e : ProductEntry) (late blind : Bool) : ProductEntry :=
  { e with late := if late then raise e.late else e.late, blind := if blind then raise e.blind else e.blind }

/-- An entry that counts one leave (R154). -/
def ProductEntry.countLeave (e : ProductEntry) (r : LoafRecord) (o : LeaveOutcome) : ProductEntry :=
  let counted := (e.countOutcome o).countFlags r.late r.blind
  match o, r.plan with
  | .good, some pl => counted.countGood pl
  | _, _ => counted

/-- The product entries a shift may hold (10). -/
def productLimit : Nat := 24

/-- A shift record that counts one leave of a product code (R154): in the code's entry, in a new one at the end, or in OTHER. A
leave whose slot holds no code counts in OTHER (log 21). -/
def ShiftRecord.countLeave (t : ShiftRecord) (code : Option Nat) (r : LoafRecord) (o : LeaveOutcome) : ShiftRecord :=
  match code with
  | none => { t with other := t.other.countLeave r o }
  | some c =>
    if t.products.any (fun e => decide (e.code = c)) then
      { t with products := t.products.map fun e => if e.code = c then e.countLeave r o else e }
    else if t.products.length < productLimit then
      { t with products := t.products ++ [(ProductEntry.zero c).countLeave r o] }
    else { t with other := t.other.countLeave r o }

/-- The product code of a slot (R43). -/
def State.productCode (s : State) (i : Fin 16) : Option Nat := (s.slot i).product.map Product.code

/-- A leave counted in the open shift (R154). -/
def State.countLeave (s : State) (r : LoafRecord) (o : LeaveOutcome) : State :=
  s.setShift (s.totals.openShift.countLeave (s.productCode r.slot) r o)

/-! ## Shift-level counts (R155) -/

def State.countCreated (s : State) : State :=
  s.setShift { s.totals.openShift with created := raise s.totals.openShift.created }

def State.countUntracked (s : State) : State :=
  s.setShift { s.totals.openShift with untracked := raise s.totals.openShift.untracked }

def State.countStray (s : State) : State :=
  s.setShift { s.totals.openShift with strays := raise s.totals.openShift.strays }

def State.countClip (s : State) : State :=
  s.setShift { s.totals.openShift with clipsUsed := raise s.totals.openShift.clipsUsed }

def State.countBlast (s : State) : Zone → State
  | .z0 => s.setShift { s.totals.openShift with blasts0 := raise s.totals.openShift.blasts0 }
  | .z1 => s.setShift { s.totals.openShift with blasts1 := raise s.totals.openShift.blasts1 }

/-! ## Time (R156) -/

/-- Whether time passes into an accumulator as the line state and the hold set stand (R156). -/
def State.feeds (s : State) : TimeCount → Bool
  | .run => decide (s.line.state = .running)
  | .idle => decide (s.line.state = .idle)
  | .stopped => decide (s.line.state = .stopped)
  | .held => decide (s.line.state ≠ .stopped ∧ s.line.holds ≠ 0)

/-- An accumulator. -/
def TotalsUnit.accumulator (t : TotalsUnit) : TimeCount → Nat
  | .run => t.runMs
  | .idle => t.idleMs
  | .stopped => t.stoppedMs
  | .held => t.heldMs

/-- A total of d more milliseconds in one accumulator: each 1000 ms raises its count by 1 (R156). -/
def TotalsUnit.pass (t : TotalsUnit) (d : Nat) : TimeCount → TotalsUnit
  | .run =>
    { t with
      runMs := (t.runMs + d) % 1000
      openShift := { t.openShift with runSeconds := raiseBy t.openShift.runSeconds ((t.runMs + d) / 1000) } }
  | .idle =>
    { t with
      idleMs := (t.idleMs + d) % 1000
      openShift := { t.openShift with idleSeconds := raiseBy t.openShift.idleSeconds ((t.idleMs + d) / 1000) } }
  | .stopped =>
    { t with
      stoppedMs := (t.stoppedMs + d) % 1000
      openShift := { t.openShift with stoppedSeconds := raiseBy t.openShift.stoppedSeconds ((t.stoppedMs + d) / 1000) } }
  | .held =>
    { t with
      heldMs := (t.heldMs + d) % 1000
      openShift := { t.openShift with heldSeconds := raiseBy t.openShift.heldSeconds ((t.heldMs + d) / 1000) } }

/-- Time passed into one accumulator if it is fed. -/
def State.passInto (s : State) (d : Nat) (a : TimeCount) : State :=
  if s.feeds a then s.setTotals (s.totals.pass d a) else s

/-- d milliseconds pass (R156; log 1). -/
def State.elapse (s : State) (d : Nat) : State :=
  ((((s.setNow (s.now + d)).passInto d .run).passInto d .idle).passInto d .stopped).passInto d .held

/-- The time of an expiry is reached: the time up to it passes, if any remains (log 2). -/
def State.reach (s : State) (t : Nat) : State := if s.now < t then s.elapse (t - s.now) else s

end Sys2Proof.Machine
end

