-- ==== Sys2Proof/Machine/BagOps.lean ====
section
/-! DEFINITION. The Bag and Clip Unit's shared operations (07): the magazine's judgements, the fire of a tie, pending ties, the
print code and the bag instruction. -/

namespace Sys2Proof.Machine

/-- Whether a magazine count is low against a threshold (R118). -/
def magazineLow (count threshold : Nat) : Bool := decide (count ≤ threshold)

/-- CLIP_EMPTY and CLIP_LOW judged after an event that found the magazine low or not (R118). -/
def State.judgeClips (s : State) (wasLow : Bool) : State :=
  let t := s.judgeHold .clipEmpty (decide (s.bag.magazine = 0))
  if magazineLow s.bag.magazine s.bag.lowThreshold && !wasLow then t.notify .bagger .clipLow else t

/-- The magazine count and low threshold replaced, with the judgements of R118. -/
def State.setMagazine (s : State) (count threshold : Nat) : State :=
  (s.setBag { s.bag with magazine := count, lowThreshold := threshold }).judgeClips
    (magazineLow s.bag.magazine s.bag.lowThreshold)

/-- A record's tie status written (R88). -/
def State.setTieStatus (s : State) (tag : Nat) (t : TieStatus) : State := s.updateRecord tag fun r => { r with tie := t }

/-- A missed tie: the tie status and the last miss (R122). -/
def State.missTie (s : State) (tag : Nat) (cause : MissCause) : State :=
  (s.setBag { s.bag with lastMiss := some (tag, cause) }).setTieStatus tag .missed

/-- The length of the fire pulse, ms (R122). -/
def firePulse : Nat := 10

/-- A fired tie (R122). -/
def State.fireTyer (s : State) (tag : Nat) : State :=
  ((((s.setBag
    { s.bag with
      fireLine := .driven (s.now + firePulse)
      tyer := .firing
      tieInFlight := some { tag := tag, present := true, expiry := s.now + s.bag.tieTimeout } }).setMagazine
        (s.bag.magazine - 1) s.bag.lowThreshold).countClip).setTieStatus tag .inFlight)

/-- The fire of a tie taken for a record, as the tyer state and the magazine count stand (R122). -/
def State.takeTieFire (s : State) (tag : Nat) : State :=
  match s.bag.tyer with
  | .ready => if s.bag.magazine = 0 then s.missTie tag .clipEmpty else s.fireTyer tag
  | .firing => s.missTie tag .tyerBusy
  | .fault => s.missTie tag .tyerFault

/-- The pending ties with those of a tag taken out (R121). -/
def dropTies (tag : Nat) (ties : List PendingTie) : List PendingTie := ties.filter fun t => decide (t.tag ≠ tag)

/-- The tags of the records of the queue that are behind a record, in queue order. -/
def tagsBehind (tag : Nat) (records : List LoafRecord) : List Nat :=
  ((records.dropWhile fun r => decide (r.tag ≠ tag)).drop 1).map LoafRecord.tag

/-- A tie entered among the pending ties, which stand in the order of their records in the queue (R121): before the first tie of a
record that stands behind. -/
def insertTie (behind : List Nat) (t : PendingTie) (ties : List PendingTie) : List PendingTie :=
  ties.takeWhile (fun x => !behind.contains x.tag) ++ t :: ties.dropWhile (fun x => !behind.contains x.tag)

/-- A tie fire position handed over at an E3 match joins the pending ties (R121). -/
def State.enterTie (s : State) (tag : Nat) (q : Pos) : State :=
  s.setBag
    { s.bag with pendingTies := insertTie (tagsBehind tag s.queue.records) { tag := tag, position := q } s.bag.pendingTies }

/-- A record has left: its pending tie is withdrawn, and a tie in flight for it no longer has a record (R127, R123). -/
def State.withdrawTie (s : State) (tag : Nat) : State :=
  s.setBag
    { s.bag with
      pendingTies := dropTies tag s.bag.pendingTies
      tieInFlight := s.bag.tieInFlight.map fun f => if f.tag = tag then { f with present := false } else f }

/-- The tie status written to the record a tie in flight was fired for, if it is still in the queue (R123, R124). -/
def State.endTie (s : State) (f : TieInFlight) (t : TieStatus) : State :=
  if f.present then s.setTieStatus f.tag t else s

/-! ## Bag instructions -/

/-- The year length at a fetch (R117). -/
def yearLength (leap : Bool) : Nat := if leap then 366 else 365

/-- Best-before day and whether it falls in the following year (R117). -/
def bestBefore (day shelf : Nat) (leap : Bool) : Nat × Bool :=
  if yearLength leap < day + shelf then (day + shelf - yearLength leap, true) else (day + shelf, false)

/-- The best-before year digit (R117). -/
def bestBeforeDigit (digit : Nat) (following : Bool) : Nat := if following then (digit + 1) % 10 else digit

/-- The bake-day colour of a weekday (R117). -/
def BagClipUnit.colour (b : BagClipUnit) (weekday : Nat) : Nat := b.colours.toList.getD weekday 0

/-- The print code word: day in bits 15–7, year digit in bits 6–3, colour in bits 2–0 (11.7). -/
def printWord (day digit colour : Nat) : Nat := day * 128 + digit * 8 + colour

/-- The print code of a record's instruction, computed at the fetch (R117). -/
def printCode (b : BagClipUnit) (r : LoafRecord) (shelf : Nat) : Nat :=
  let bb := bestBefore r.day shelf b.date.leap
  printWord bb.1 (bestBeforeDigit b.date.yearDigit bb.2) (b.colour r.weekday)

/-- A bag instruction as sent: tag, product code, bag class, slice count, print code word (R108, 11.7). -/
def bagInstruction (b : BagClipUnit) (r : LoafRecord) (pl : Plan) (q : Product) : List Byte :=
  u8 r.tag ++ u16 q.code ++ u8 pl.bagClass ++ u8 pl.n ++ u16 (printCode b r q.shelf)

/-- Whether BAG_NEXT offers a record (R109). -/
def LoafRecord.offered (r : LoafRecord) : Bool :=
  r.plan.isSome && decide (r.stage = .toSlicer ∨ r.stage = .toBag) && !r.fetched

end Sys2Proof.Machine
end

