-- ==== Sys2Proof/Config.lean ====
section
/-! DEFINITION. What the spec leaves open to a choice, as constants without a body. -/

namespace Sys2Proof

/-- FREE VALUE (log 15). When one advance of H both reaches a pending tie's position and makes the tie's own record leave the
queue, R121 gives both ends of the entry (its fire, its withdrawal) and no order. This says, for the n-th such meeting, whether
the leave is taken first. Nothing is known of it. -/
opaque Config.leaveBeforeTie : Nat → Bool

end Sys2Proof
end

