-- ==== Sys2Proof/Machine/Stations.lean ====
section
/-! DEFINITION. The station chain as a map of the line: validation (R22 to R24), the descriptors in force (R25), and where each
eye, gate and bar stands (R26). -/

namespace Sys2Proof.Machine

/-! ## Validation -/

/-- The stage the walk carries (R23). -/
inductive WalkStage where
  | beforeE1 | afterE1 | afterReject | afterE2 | afterE3 | afterE4 | afterExitGate
  deriving DecidableEq, Repr

/-- The stage and the zones seen (R23). -/
structure WalkState where
  stage : WalkStage
  seen0 : Bool
  seen1 : Bool
  deriving DecidableEq, Repr

/-- Whether a zone's bar has been seen. -/
def WalkState.seen (w : WalkState) : Zone → Bool
  | .z0 => w.seen0
  | .z1 => w.seen1

/-- The walk with a zone noted as seen. -/
def WalkState.note (w : WalkState) : Zone → WalkState
  | .z0 => { w with seen0 := true }
  | .z1 => { w with seen1 := true }

/-- Whether a stage admits a crumb bar (R23). -/
def WalkStage.admitsBar : WalkStage → Bool
  | .beforeE1 => true
  | .afterE1 => true
  | .afterReject => true
  | .afterE2 => true
  | .afterE3 => true
  | .afterE4 => false
  | .afterExitGate => false

/-- A station admitted only in one stage (R23). -/
def WalkState.admitIn (w : WalkState) (found after : WalkStage) : WalkState ⊕ Cause :=
  if w.stage = found then .inl { w with stage := after } else .inr .kindOrder

/-- The order of kinds at one visit: the walk after an admitted station, or the cause of its refusal (R23). -/
def WalkState.accept (w : WalkState) : Station → WalkState ⊕ Cause
  | .eyeSliced _ => w.admitIn .beforeE1 .afterE1
  | .gateReject _ _ => w.admitIn .afterE1 .afterReject
  | .eyeBag _ => w.admitIn .afterReject .afterE2
  | .eyeClip _ _ _ _ => w.admitIn .afterE2 .afterE3
  | .eyeExit _ => w.admitIn .afterE3 .afterE4
  | .gateExit _ _ => w.admitIn .afterE4 .afterExitGate
  | .crumbBar z _ _ _ =>
    if w.stage.admitsBar then (if w.seen z then .inr .zoneRepeated else .inl (w.note z)) else .inr .kindOrder

/-- Whether the list is complete in a stage (R23). -/
def WalkStage.complete : WalkStage → Bool
  | .afterE4 => true
  | .afterExitGate => true
  | .beforeE1 => false
  | .afterE1 => false
  | .afterReject => false
  | .afterE2 => false
  | .afterE3 => false

/-- What validation finds: the descriptors walked, or an offending index and a cause (R22). -/
inductive Walk where
  | complete (visited : List Descriptor)
  | fails (index : Nat) (cause : Cause)
  deriving DecidableEq, Repr

/-- A walk with one more descriptor at its front. -/
def Walk.after (d : Descriptor) : Walk → Walk
  | .complete ds => .complete (d :: ds)
  | .fails i c => .fails i c

/-- A place number 1..8 as an index of `places`. -/
def placeIndex? (i : Nat) : Option (Fin 8) := if h : 1 ≤ i ∧ i ≤ 8 then some ⟨i - 1, by omega⟩ else none

/-- The descriptor at a place, if the place exists and is present (R17). -/
def StationChain.place (c : StationChain) (i : Nat) : Option Descriptor :=
  match placeIndex? i with
  | some k => c.places.get k
  | none => none

/-- The walk from place `i`, the descriptor before it standing at distance `before`; `visits` is how many visits remain of the nine
(R22). The bound is never the cause of a failure; when none remains the walk has returned to a place already visited. -/
def StationChain.walk (c : StationChain) : Nat → Nat → Nat → WalkState → Walk
  | 0, i, _, _ => .fails i .distanceOrder
  | visits + 1, i, before, w =>
    match c.place i with
    | none => .fails i .brokenLink
    | some d =>
      if d.distance ≤ before then .fails i .distanceOrder
      else
        match w.accept d.station with
        | .inr cause => .fails i cause
        | .inl w' =>
          if d.next = 0 then (if w'.stage.complete then .complete [d] else .fails i .incomplete)
          else (c.walk visits d.next d.distance w').after d

/-- Validation of the list as it stands (R22). -/
def StationChain.validate (c : StationChain) : Walk :=
  if c.head = 0 then .fails 0 .empty
  else c.walk 9 c.head 0 { stage := .beforeE1, seen0 := false, seen1 := false }

/-! ## The chain in force -/

/-- The descriptors in force: those the successful walk visits while the chain is VALID (R25). -/
def StationChain.inForce (c : StationChain) : List Descriptor :=
  match c.state, c.validate with
  | .valid, .complete ds => ds
  | _, _ => []

/-- An eye in force: distance and window tolerance (R26). -/
structure EyeStation where
  distance : Nat
  tolerance : Nat
  deriving DecidableEq, Repr

/-- A descriptor read as the station of a downstream eye. -/
def Descriptor.asEye (e : Eye) (d : Descriptor) : Option EyeStation :=
  match e, d.station with
  | .e1, .eyeSliced t => some ⟨d.distance, t⟩
  | .e2, .eyeBag t => some ⟨d.distance, t⟩
  | .e3, .eyeClip t _ _ _ => some ⟨d.distance, t⟩
  | .e4, .eyeExit t => some ⟨d.distance, t⟩
  | _, _ => none

/-- The station of a downstream eye in force. -/
def State.eyeStation (s : State) (e : Eye) : Option EyeStation := s.chain.inForce.findSome? (Descriptor.asEye e)

/-- A gate in force: distance, latency and pulse. -/
structure GateStation where
  distance : Nat
  latency : Nat
  pulse : Nat
  deriving DecidableEq, Repr

/-- A descriptor read as a gate. -/
def Descriptor.asGate (g : Gate) (d : Descriptor) : Option GateStation :=
  match g, d.station with
  | .reject, .gateReject l p => some ⟨d.distance, l, p⟩
  | .exit, .gateExit l p => some ⟨d.distance, l, p⟩
  | _, _ => none

/-- A gate in force (R25: the exit gate is fitted exactly when one is). -/
def State.gateStation (s : State) (g : Gate) : Option GateStation := s.chain.inForce.findSome? (Descriptor.asGate g)

/-- The tyer's fields of the EYE_CLIP descriptor. -/
structure TyerStation where
  offset : Nat
  neck : Nat
  latency : Nat
  deriving DecidableEq, Repr

/-- A descriptor read as the tyer's. -/
def Descriptor.asTyer (d : Descriptor) : Option TyerStation :=
  match d.station with
  | .eyeClip _ o n l => some ⟨o, n, l⟩
  | _ => none

/-- The tyer's fields in force. -/
def State.tyerStation (s : State) : Option TyerStation := s.chain.inForce.findSome? Descriptor.asTyer

/-- A crumb bar in force: distance, half-span, blast time and yield. -/
structure Bar where
  distance : Nat
  halfSpan : Nat
  blastTime : Nat
  yield : Nat
  deriving DecidableEq, Repr

/-- A descriptor read as the bar of a zone. -/
def Descriptor.asBar (z : Zone) (d : Descriptor) : Option Bar :=
  match d.station with
  | .crumbBar z' w b y => if z' = z then some ⟨d.distance, w, b, y⟩ else none
  | _ => none

/-- The bar of a zone in force. -/
def State.bar (s : State) (z : Zone) : Option Bar := s.chain.inForce.findSome? (Descriptor.asBar z)

/-! ## Expected positions, windows and deadlines -/

/-- The eye a stage awaits (R63). -/
def Stage.awaited : Stage → Option Eye
  | .measuring => some .e1
  | .toSlicer => some .e1
  | .diverting => none
  | .toBag => some .e2
  | .bagging => some .e3
  | .tying => some .e4
  | .exiting => none

/-- The stage whose records are candidates at an eye (R69). -/
def candidateStage : Eye → Option Stage
  | .e0 => none
  | .e1 => some .toSlicer
  | .e2 => some .toBag
  | .e3 => some .bagging
  | .e4 => some .tying

/-- A record's loss deadline: its reference plus the awaited eye's distance plus its tolerance (R26, R72). -/
def State.deadline (s : State) (r : LoafRecord) : Option Pos :=
  match r.stage.awaited with
  | none => none
  | some e =>
    match s.eyeStation e with
    | none => none
    | some st => some (forwardBy r.reference (st.distance + st.tolerance))

end Sys2Proof.Machine
end

