-- ==== Sys2Proof/Machine/PlanUnit.lean ====
section
/-! DEFINITION. The Plan Unit's arithmetic (04): the plan of a loaf, leads and fire positions, blast counts and the crumb
reduction. It keeps no state (R45). -/

namespace Sys2Proof.Machine

/-- An integer clamped to lo..hi, as a count. -/
def clampInt (lo hi : Nat) (a : Int) : Nat :=
  if a < (lo : Int) then lo else if (hi : Int) < a then hi else a.toNat

/-- Lc: the trailing edge less the reference, clamped to 1..65535 (R47). -/
def darkLength (reference trailing : Pos) : Nat := clampInt 1 65535 (posDiff trailing reference)

/-- Lraw in tenths (R48). -/
def rawLength (lc pitch : Nat) : Nat := roundNat (lc * pitch) 100

/-- The unclamped length: Lraw less the eye offset (R48). -/
def unclampedLength (lc : Nat) (c : LineConfig) : Int := (rawLength lc c.pitch : Int) - (c.offset : Int)

/-- Lt: the unclamped length clamped to 0..9999 (R48). -/
def lengthTenths (unclamped : Int) : Nat := clampInt 0 9999 unclamped

/-- The usable length: Lt less twice the heel allowance (R50). -/
def usableLength (lt : Nat) (q : Product) : Int := (lt : Int) - 2 * (q.heel : Int)

/-- The slice count N (R50). -/
def sliceCount (lt : Nat) (q : Product) : Nat :=
  if usableLength lt q ≤ 0 then 2 else clampInt 2 63 (roundInt (usableLength lt q) q.thickness + 2)

/-- The bag class (R51). -/
def bagClassOf (lt : Nat) (q : Product) : Nat := if lt ≤ q.shortMax then 1 else if lt ≤ q.regularMax then 2 else 3

/-- The divert reasons the plan gives: the size check (R49), the slice count's UNDERSIZE (R50), BLADE (R41). -/
def planReasons (unclamped : Int) (lt : Nat) (q : Product) (bladeMismatch : Bool) : Reasons :=
  { undersize := decide (unclamped < (q.minLen : Int)) || decide (usableLength lt q ≤ 0)
    oversize := decide ((q.maxLen : Int) < unclamped)
    blade := bladeMismatch
    marked := false }

/-- The plan of a loaf (R46): the plan fields and the reasons. -/
def makePlan (reference trailing : Pos) (c : LineConfig) (q : Product) (bladeMismatch : Bool) : Plan × Reasons :=
  let lc := darkLength reference trailing
  let u := unclampedLength lc c
  let lt := lengthTenths u
  let n := sliceCount lt q
  ({ lc := lc, lt := lt, n := n, bagClass := bagClassOf lt q, crumb := n * q.crumb }, planReasons u lt q bladeMismatch)

/-- The bag-zone charge: C / 4 with convergent rounding (R52). -/
def bagZoneCharge (c : Nat) : Nat := roundNat c 4

/-- The lead of an actuator of latency t at speed v (R53). -/
def lead (v t : Nat) : Nat := roundNat (v * t) 256

/-- A fire position from the match position p: the nominal travel less the lead, the lead clamped to the travel (R54). -/
def firePosition (p : Pos) (travel leadCounts : Nat) : Pos := forwardBy p (travel - min leadCounts travel)

/-- The reject-gate fire position from an E1 match position (R55). -/
def State.rejectPosition (s : State) (p : Pos) : Option Pos :=
  match s.gateStation .reject, s.eyeStation .e1 with
  | some g, some e => some (firePosition p (g.distance - e.distance) (lead s.pos.v g.latency))
  | _, _ => none

/-- The tie fire position of a record from its E3 match position (R56). -/
def State.tiePosition (s : State) (p : Pos) (lc : Nat) : Option Pos :=
  match s.tyerStation with
  | some t => some (firePosition p (t.offset + lc + t.neck) (lead s.pos.v t.latency))
  | none => none

/-- The exit-gate fire position from an E4 match position, while the exit gate is fitted (R57). -/
def State.exitPosition (s : State) (p : Pos) : Option Pos :=
  match s.gateStation .exit, s.eyeStation .e4 with
  | some g, some e => some (firePosition p (g.distance - e.distance) (lead s.pos.v g.latency))
  | _, _ => none

/-- The blast counts B (R59). -/
def blastCounts (v blastTime : Nat) : Nat := roundNat (v * blastTime) 256

/-- A zone's load after the crumb reduction (R60). -/
def reducedLoad (load yield : Nat) : Nat := load - roundNat (load * yield) 256

end Sys2Proof.Machine
end

