-- ==== Sys2Proof/Machine/CrumbOps.lean ====
section
/-! DEFINITION. The Crumb Unit's shared operations (08): occupancy, the start of a blast, charges, CRUMB_FULL, fitting, the idle
purge. -/

namespace Sys2Proof.Machine

/-- A record's nose location in counts from E0 (R133). -/
def noseOf (h : Pos) (r : LoafRecord) : Int := posDiff h r.reference

/-- A record's tail location; 0 while it has no Lc (R133). -/
def tailOf (h : Pos) (r : LoafRecord) : Int :=
  match r.plan with
  | some pl => noseOf h r - (pl.lc : Int)
  | none => 0

/-- Whether a record occupies the stretch of a bar widened by the blast counts (R134). -/
def occupies (h : Pos) (v : Nat) (b : Bar) (r : LoafRecord) : Bool :=
  decide ((b.distance : Int) - b.halfSpan - blastCounts v b.blastTime ≤ noseOf h r) &&
    decide (tailOf h r ≤ (b.distance : Int) + b.halfSpan)

/-- The oldest record that occupies a zone; an unfitted zone is not occupied (R134). -/
def State.occupant (s : State) (z : Zone) : Option LoafRecord :=
  if (s.zone z).fitted then
    match s.bar z with
    | some b => s.queue.records.find? (occupies s.pos.h s.pos.v b)
    | none => none
  else none

/-- Whether a blast of the zone is wanted (R136). -/
def ZoneState.wanted (x : ZoneState) : Bool := decide (x.soft ≤ x.load) || x.manualClear || x.purgeOwed

/-- A blast that starts at time t and lasts the bar's blast time (R136). -/
def ZoneState.startBlast (x : ZoneState) (t : Nat) (b : Bar) : ZoneState :=
  { x with blastEnd := some (t + b.blastTime), valve := .driven, purgeOwed := false }

/-- Whether every condition of a blast's start holds (R136). -/
def State.blastStarts (s : State) (z : Zone) : Bool :=
  (s.zone z).fitted && (s.zone z).blastEnd.isNone && (s.occupant z).isNone && (s.zone z).wanted

/-- The start of a zone's blast judged (R135, R136). -/
def State.judgeBlast (s : State) (z : Zone) : State :=
  match s.bar z with
  | some b => if s.blastStarts z then s.setZone z ((s.zone z).startBlast s.now b) else s
  | none => s

/-- The start of a blast judged for both zones (R135). -/
def State.judgeBlasts (s : State) : State := (s.judgeBlast .z0).judgeBlast .z1

/-- CRUMB_FULL of a zone judged: placed at or above hard, released below soft (R132). -/
def State.judgeFull (s : State) (z : Zone) : State :=
  if (s.zone z).hard ≤ (s.zone z).load then s.placeHold (fullReason z)
  else if (s.zone z).load < (s.zone z).soft then s.releaseHold (fullReason z)
  else s

/-- The largest load (R128). -/
def loadLimit : Nat := 65535

/-- A charge to a zone's load; one to an unfitted zone is discarded (R130). -/
def State.charge (s : State) (z : Zone) (c : Nat) : State :=
  if (s.zone z).fitted then
    ((s.setZone z { s.zone z with load := min ((s.zone z).load + c) loadLimit }).judgeFull z).judgeBlast z
  else s

/-- A zone at rest: no blast end time, valve RELEASED. -/
def ZoneState.rest (x : ZoneState) : ZoneState := { x with blastEnd := none, valve := .released }

/-- A fitted zone becomes unfitted (R129). -/
def State.unfitZone (s : State) (z : Zone) : State :=
  if (s.zone z).fitted then
    (s.setZone z { (s.zone z).rest with fitted := false, load := 0, manualClear := false, purgeOwed := false }).releaseHold
      (fullReason z)
  else s

/-- A zone's fitted status after a validation that succeeded (R129): a zone already fitted is left as it stands, and one newly
fitted has the start of a blast judged (R135). -/
def State.fitZone (s : State) (z : Zone) : State :=
  if (s.zone z).fitted then s
  else if (s.bar z).isSome then (s.setZone z { s.zone z with fitted := true }).judgeBlast z
  else s

/-- The line has left IDLE: no idle purge is owed any longer (R138). -/
def State.dropPurges (s : State) : State :=
  s.setCrumb { z0 := { s.crumb.z0 with purgeOwed := false }, z1 := { s.crumb.z1 with purgeOwed := false } }

/-- A zone owed an idle purge if it is fitted and its load is above 0 (R138). -/
def ZoneState.owePurge (x : ZoneState) : ZoneState :=
  if x.fitted && decide (0 < x.load) then { x with purgeOwed := true } else x

/-- The line has entered IDLE: purges are owed, and the start of a blast is judged (R138). -/
def State.enterIdlePurge (s : State) : State :=
  (s.setCrumb { z0 := s.crumb.z0.owePurge, z1 := s.crumb.z1.owePurge }).judgeBlasts

/-- A running blast ended by a line reset, without reduction and uncounted; a new start is judged at its end (R141, R135). -/
def State.cutBlast (s : State) (z : Zone) : State :=
  match (s.zone z).blastEnd with
  | some _ => (s.setZone z (s.zone z).rest).judgeBlast z
  | none => s

end Sys2Proof.Machine
end

