-- ==== Sys2Proof/Machine/RecipeOps.lean ====
section
/-! DEFINITION. The Recipe Table's shared operations (03): in-flight counts, the blade interlock, the changeover, the pending
selection. -/

namespace Sys2Proof.Machine

/-- A slot's in-flight count rises by 1 (R31). -/
def State.raiseInFlight (s : State) (i : Fin 16) : State :=
  s.setSlot i { s.slot i with inFlight := (s.slot i).inFlight + 1 }

/-- A slot that has become EMPTY: its code and parameters are discarded (R27). -/
def Slot.emptied (x : Slot) : Slot := { x with state := .empty, product := none }

/-- A slot's in-flight count falls by 1; a RETIRING slot whose count reaches 0 becomes EMPTY, with RECIPE_FREED (R31). -/
def State.lowerInFlight (s : State) (i : Fin 16) : State :=
  let x := { s.slot i with inFlight := (s.slot i).inFlight - 1 }
  if x.state = .retiring ∧ x.inFlight = 0 then (s.setSlot i x.emptied).notify .office .recipeFreed
  else s.setSlot i x

/-- Whether a thickness and a blade pitch differ by more than 2 tenths, in either direction (R39). -/
def pitchDiffers (thickness pitch : Nat) : Bool := decide (pitch + 2 < thickness) || decide (thickness + 2 < pitch)

/-- The condition of BLADE_MISMATCH: a slot is ACTIVE and its thickness does not suit the installed pitch (R39). -/
def State.bladeDiffers (s : State) : Bool :=
  match s.activeSlot with
  | some i =>
    match (s.slot i).product with
    | some q => pitchDiffers q.thickness s.recipes.pitch
    | none => false
  | none => false

/-- BLADE_MISMATCH judged (R39). -/
def State.judgeBlade (s : State) : State := s.judgeHold .bladeMismatch s.bladeDiffers

/-- The pending selection replaced. -/
def State.setSelection (s : State) (x : Option Selection) : State := s.setRecipes { s.recipes with selection := x }

/-- A slot's state replaced. -/
def State.setSlotState (s : State) (i : Fin 16) (x : SlotState) : State := s.setSlot i { s.slot i with state := x }

/-- The ACTIVE slot, if there is one, returned to LOADED (R36). -/
def State.unloadActive (s : State) : State :=
  match s.activeSlot with
  | some i => s.setSlotState i .loaded
  | none => s

/-- A changeover to a slot (R35, R36): the old ACTIVE slot returns to LOADED, the selected slot becomes ACTIVE, the pending selection
is cleared, CHANGEOVER_TAKEN is set on the slicer and office ports, NO_PRODUCT leaves the hold set (R40) and BLADE_MISMATCH is
judged. -/
def State.changeover (s : State) (i : Fin 16) : State :=
  (((((s.unloadActive.setSlotState i .active).setSelection none).notify .slicer .changeoverTaken).notify .office
    .changeoverTaken).releaseHold .noProduct).judgeBlade

/-- The notice to a displaced selection's source (R33). -/
def State.notifyDisplaced (s : State) (writer : Source) : State :=
  match s.recipes.selection with
  | some sel =>
    if sel.source = writer then s
    else
      match sel.source with
      | .slicer => s.notify .slicer .selectSuperseded
      | .office => s.notify .office .selectSuperseded
      | .schedule => s
  | none => s

/-- The pending selection written by a source for a slot (R33, R34, R37): a LOADED slot becomes pending, or is taken as the changeover
at once when no slot is ACTIVE (R35); an ACTIVE slot clears the selection. Of a slot in another state no write is made. -/
def State.writeSelection (s : State) (i : Fin 16) (source : Source) : State :=
  match (s.slot i).state with
  | .loaded =>
    match (s.notifyDisplaced source).activeSlot with
    | none => (s.notifyDisplaced source).changeover i
    | some _ => (s.notifyDisplaced source).setSelection (some { slot := i, source := source })
  | .active => (s.notifyDisplaced source).setSelection none
  | .empty => s
  | .retiring => s

/-- The changeover at a creating leading edge, if a selection is pending (R36). -/
def State.takePending (s : State) : State :=
  match s.recipes.selection with
  | some sel => s.changeover sel.slot
  | none => s

end Sys2Proof.Machine
end

