-- ==== Sys2Proof/Machine/ScheduleOps.lean ====
section
/-! DEFINITION. The Run Schedule's shared operations (06): suspension, the id given to a new record, the fill of an entry, the
gap and the stop, the counting of a leave, the closing of an entry. -/

namespace Sys2Proof.Machine

/-- The schedule state replaced. -/
def State.setScheduleState (s : State) (x : ScheduleState) : State := s.setSchedule { s.schedule with state := x }

/-- An ACTIVE schedule becomes SUSPENDED, with SCHEDULE_SUSPENDED; in another state nothing changes (R103). -/
def State.suspendSchedule (s : State) : State :=
  if s.schedule.state = .active then (s.setScheduleState .suspended).notify .office .scheduleSuspended else s

/-- The id an ACTIVE schedule gives to a new record (R98). -/
def State.entryIdForRecord (s : State) : Option Nat :=
  if s.schedule.state = .active then s.activeEntry.map Entry.id else none

/-- The carried count of the entry whose id a new record takes rises by 1 (R98). -/
def State.raiseCarried (s : State) : Option Nat → State
  | some id => s.updateEntry id fun e => { e with carried := e.carried + 1 }
  | none => s

/-- A FILLED entry whose carried count is 0 becomes CLOSED, with ENTRY_CLOSED (R105). -/
def State.closeEntry (s : State) (id : Nat) : State :=
  match s.entry? id with
  | some e =>
    if e.state = .filled ∧ e.carried = 0 then
      (s.updateEntry id fun e => { e with state := .closed }).notify .office .entryClosed
    else s
  | none => s

/-- The counts of an entry at the leave of a record that carries its id (R104). -/
def Entry.countLeave (e : Entry) (r : LoafRecord) (o : LeaveOutcome) : Entry :=
  match r.plan with
  | none => { e with unmeasured := raise e.unmeasured }
  | some _ =>
    match o with
    | .diverted =>
      if r.reasons.size then
        (if e.diverted < countLimit then { e with diverted := raise e.diverted, sizeDiverted := raise e.sizeDiverted } else e)
      else { e with diverted := raise e.diverted }
    | .lost => if r.reasons.size then { e with sizeLost := raise e.sizeLost } else { e with lost := raise e.lost }
    | .flushed => if r.reasons.size then { e with sizeLost := raise e.sizeLost } else { e with flushed := raise e.flushed }
    | .good => { e with good := raise e.good }
    | .bagFail => { e with bagFail := raise e.bagFail }
    | .untied => { e with untied := raise e.untied }
    | .unconfirmed => { e with unconfirmed := raise e.unconfirmed }

/-- A leave counted in the entry whose id the record carries (R104), and the entry closed if it is done (R105). -/
def State.countInEntry (s : State) (r : LoafRecord) (o : LeaveOutcome) : State :=
  match r.entry with
  | some id =>
    (s.updateEntry id fun e => { e.countLeave r o with carried := e.carried - 1 }).closeEntry id
  | none => s

/-- The gap of an entry that fills by admission, the filling loaf's trailing edge captured at `p` (R101). -/
def State.judgeGap (s : State) (p : Pos) (gap : Nat) : State :=
  if gap = 0 then s
  else
    let release := forwardBy p gap
    if reached release s.pos.h then s
    else
      let kept := match s.schedule.gapRelease with
        | none => release
        | some held => if ahead release held then release else held
      (s.placeHold .scheduleGap).setSchedule { (s.placeHold .scheduleGap).schedule with gapRelease := some kept }

/-- Steps 3 and 4 of a fill (R100): the next PENDING entry becomes ACTIVE, or the schedule becomes IDLE; `stop` says that the fill is by
admission with the stop-after flag set. -/
def State.activateNext (s : State) (stop : Bool) : State :=
  match s.firstPending with
  | some next =>
    let t := s.updateEntry next.id fun e => { e with state := .active }
    if stop then (t.placeHold .scheduleStop).suspendSchedule
    else if t.schedule.state = .active then t.writeSelection next.slot .schedule
    else t
  | none =>
    let t := s.setScheduleState .idle
    if stop then t.placeHold .scheduleStop else t

/-- The fill of an entry by admission (R100), its loaf's trailing edge captured at `p`. -/
def State.fillByAdmission (s : State) (e : Entry) (p : Pos) : State :=
  ((((s.updateEntry e.id fun x => { x with state := .filled }).judgeGap p e.gap).activateNext e.stopAfter)).closeEntry e.id

/-- The fill of an entry by a cancel (R95, R100): the target becomes the admitted count, and neither gap nor stop-after applies. -/
def State.fillByCancel (s : State) (e : Entry) : State :=
  ((s.updateEntry e.id fun x => { x with target := x.admitted, state := .filled }).activateNext false).closeEntry e.id

/-- Admission of a planned record (R99): `reasons` are those the plan has just given, `p` the trailing edge's captured position. -/
def State.judgeAdmission (s : State) (r : LoafRecord) (reasons : Reasons) (p : Pos) : State :=
  match r.entry with
  | none => s
  | some id =>
    if reasons.size then s
    else
      match s.entry? id with
      | none => s
      | some e =>
        if e.state = .active then
          let t := s.updateEntry id fun x => { x with admitted := x.admitted + 1 }
          if e.target ≤ e.admitted + 1 then t.fillByAdmission { e with admitted := e.admitted + 1 } p else t
        else
          ((s.updateRecord r.tag fun x => { x with entry := none }).updateEntry id
            fun x => { x with carried := x.carried - 1 }).closeEntry id

/-- SCHEDULE_GAP is released when H reaches the gap release position (R101). -/
def State.watchGap (s : State) : State :=
  match s.schedule.gapRelease with
  | some q =>
    if reached q s.pos.h then
      (s.releaseHold .scheduleGap).setSchedule { (s.releaseHold .scheduleGap).schedule with gapRelease := none }
    else s
  | none => s

/-- Whether an entry in PENDING or ACTIVE names a slot (R30). -/
def State.slotScheduled (s : State) (i : Fin 16) : Bool :=
  s.schedule.entries.any fun e => decide (e.slot = i ∧ (e.state = .pending ∨ e.state = .active))

end Sys2Proof.Machine
end

