-- ==== Sys2Proof/Machine/QueueOps.lean ====
section
/-! DEFINITION. The Tracking Queue's shared operations (05): creation, planning, matching, the gates, loss and leaving; and what an
advance of H reaches. -/

namespace Sys2Proof.Machine

/-! ## Leaving -/

/-- The records of a list without the one that holds a tag. -/
def dropRecord (tag : Nat) (rs : List LoafRecord) : List LoafRecord := rs.filter fun r => decide (r.tag ≠ tag)

/-- The queue with a record removed, and QUEUE_FULL released when the count falls to 40 (R82, R84). -/
def State.removeRecord (s : State) (tag : Nat) : State :=
  let t := s.setQueue { s.queue with records := dropRecord tag s.queue.records }
  if t.queueCount = 40 then t.releaseHold .queueFull else t

/-- A record leaves with an outcome (R82): it is counted in the shift and in its entry, its slot's in-flight count falls, it is
removed, its tie is withdrawn, and the start of blasts is judged (R135). -/
def State.leave (s : State) (r : LoafRecord) (o : LeaveOutcome) : State :=
  (((((s.countLeave r o).countInEntry r o).lowerInFlight r.slot).removeRecord r.tag).withdrawTie r.tag).judgeBlasts

/-- BAG_WITHDRAWN judged for a fetched record that becomes DIVERTING, or leaves LOST, from TO_SLICER or TO_BAG (R74). -/
def State.judgeWithdrawn (s : State) (r : LoafRecord) : State :=
  if r.fetched ∧ (r.stage = .toSlicer ∨ r.stage = .toBag) then s.notify .bagger .bagWithdrawn else s

/-- A record leaves LOST, with LOST_LOAF and BAG_WITHDRAWN judged (R72, R74). -/
def State.lose (s : State) (r : LoafRecord) : State :=
  ((s.leave r .lost).notify .office .lostLoaf).judgeWithdrawn r

/-- The outcome of a record that leaves at the exit (R81). -/
def LoafRecord.exitOutcome (r : LoafRecord) : LeaveOutcome :=
  if r.result = some .fail then .bagFail
  else if r.tie ≠ .tied then .untied
  else if r.result = none then .unconfirmed
  else .good

/-! ## Gates -/

/-- A gate's output. -/
def TrackingQueue.gate (q : TrackingQueue) : Gate → Pulse
  | .reject => q.rejectGate
  | .exit => q.exitGate

/-- A gate's output replaced. -/
def State.setGate (s : State) (g : Gate) (x : Pulse) : State :=
  match g with
  | .reject => s.setQueue { s.queue with rejectGate := x }
  | .exit => s.setQueue { s.queue with exitGate := x }

/-- A gate driven for the pulse of its descriptor in force; a running pulse is restarted (R76, R80). -/
def State.driveGate (s : State) (g : Gate) : State :=
  match s.gateStation g with
  | some st => s.setGate g (.driven (s.now + st.pulse))
  | none => s

/-- The reject gate acts for a DIVERTING record, which leaves DIVERTED (R76). -/
def State.rejectFire (s : State) (r : LoafRecord) : State := (s.driveGate .reject).leave r .diverted

/-- The exit-gate position of a record: its outcome is judged, the gate is driven unless it is GOOD, and it leaves (R80). -/
def State.exitFire (s : State) (r : LoafRecord) : State :=
  (if r.exitOutcome = .good then s else s.driveGate .exit).leave r r.exitOutcome

/-! ## Creation and planning -/

/-- The capacity of the queue (R61). -/
def queueCapacity : Nat := 48

/-- The tag a new record takes (R64). -/
def State.nextTag (s : State) : Nat := firstFree (s.queue.records.map LoafRecord.tag) 255 s.queue.tagCounter

/-- A new record's contents (R66). -/
def newRecord (tag : Nat) (slot : Fin 16) (entry : Option Nat) (d : Date) (p : Pos) : LoafRecord :=
  { tag := tag, slot := slot, entry := entry, day := d.day, weekday := d.weekday, reference := p, plan := none
    stage := .measuring, reasons := Reasons.empty, lastMatch := none, gateFire := none, tieFire := none, fetched := false
    result := none, tie := .none, late := false, blind := false }

/-- A record joins the tail of the queue, the tag counter moves past its tag, and QUEUE_FULL is placed when the count rises to 44
(R64, R84). -/
def State.joinRecord (s : State) (r : LoafRecord) : State :=
  let t := s.setQueue { s.queue with records := s.queue.records ++ [r], tagCounter := after255 r.tag }
  if t.queueCount = 44 then t.placeHold .queueFull else t

/-- The creation of a record under a slot at a captured position (R66). -/
def State.createRecord (s : State) (slot : Fin 16) (p : Pos) : State :=
  (((((s.joinRecord (newRecord s.nextTag slot s.entryIdForRecord s.bag.date p)).raiseInFlight slot).raiseCarried
    s.entryIdForRecord).countCreated).judgeBlasts)

/-- The MEASURING record, if one is present (R61). -/
def State.measuring? (s : State) : Option LoafRecord :=
  s.queue.records.find? fun r => decide (r.stage = .measuring)

/-- Steps 2 to 5 of a delivered E0 leading edge (R65). -/
def State.enterLoaf (s : State) (p : Pos) : State :=
  match s.chain.state with
  | .unvalidated => s
  | .valid =>
    if queueCapacity ≤ s.queueCount then (s.countUntracked).notify .office .untrackedLoaf
    else
      match s.takePending.activeSlot with
      | none => s.takePending
      | some i => s.takePending.createRecord i p

/-- A delivered E0 leading edge captured at p (R65). -/
def State.infeedLeading (s : State) (p : Pos) : State :=
  match s.measuring? with
  | some r => (s.lose r).enterLoaf p
  | none => s.enterLoaf p

/-- BAG_READY at a planning that leaves the record without a divert reason (R110). -/
def State.judgeBagReady (s : State) (reasons : Reasons) : State :=
  if reasons.any then s else s.notify .bagger .bagReady

/-- A MEASURING record planned from its trailing edge captured at p (R68, R46, R99, R110). -/
def State.planRecord (s : State) (r : LoafRecord) (q : Product) (p : Pos) : State :=
  let made := makePlan r.reference p s.pos.config q (s.held .bladeMismatch)
  let t := s.updateRecord r.tag fun x =>
    { x with plan := some made.1, reasons := x.reasons.union made.2, stage := .toSlicer }
  ((t.judgeAdmission r made.2 p).judgeBagReady (r.reasons.union made.2)).judgeBlasts

/-- A delivered E0 trailing edge captured at p (R68). -/
def State.infeedTrailing (s : State) (p : Pos) : State :=
  match s.measuring? with
  | none => s
  | some r =>
    match (s.slot r.slot).product with
    | some q => s.planRecord r q p
    | none => s

/-! ## Matching -/

/-- A stray edge (R71). -/
def State.strayEdge (s : State) : State := (s.countStray).notify .office .strayEdge

/-- The re-basing of a matched record: the reference becomes p less the eye's distance, the last match position p (R70). -/
def LoafRecord.rebase (r : LoafRecord) (p : Pos) (st : EyeStation) : LoafRecord :=
  { r with reference := backBy p st.distance, lastMatch := some p }

/-- A record written back in the place of the one that holds its tag (R88). -/
def State.putRecord (s : State) (r : LoafRecord) : State := s.updateRecord r.tag fun _ => r

/-- The effects of an E1 match on a re-based record (R75): zone 0 charged; TO_BAG with no reason; DIVERTING with any, and the gate at
once when the position is late (R58). -/
def State.matchE1 (s : State) (r : LoafRecord) (p : Pos) : State :=
  let t := (s.putRecord r).charge .z0 (r.plan.elim 0 Plan.crumb)
  if r.reasons.any then
    match t.rejectPosition p with
    | none => t
    | some q =>
      let d := { r with stage := .diverting, gateFire := some q, late := r.late || reached q t.pos.h }
      let u := (t.putRecord d).judgeWithdrawn r
      if reached q t.pos.h then u.rejectFire d else u.judgeBlasts
  else (t.putRecord { r with stage := .toBag }).judgeBlasts

/-- The effects of an E2 match (R77): zone 1 charged; BLIND and BAG_BLIND when the record was not fetched; BAGGING. -/
def State.matchE2 (s : State) (r : LoafRecord) (p : Pos) : State :=
  let _ := p
  let t := (s.putRecord r).charge .z1 (bagZoneCharge (r.plan.elim 0 Plan.crumb))
  let u := t.putRecord { r with stage := .bagging, blind := r.blind || !r.fetched }
  (if r.fetched then u else u.notify .bagger .bagBlind).judgeBlasts

/-- The effects of an E3 match (R78): no tie after FAIL; otherwise the tie fire position is stored, and entered among the pending
ties, or its fire taken at once when it is late (R58); TYING. -/
def State.matchE3 (s : State) (r : LoafRecord) (p : Pos) : State :=
  if r.result = some .fail then (s.putRecord { r with stage := .tying }).judgeBlasts
  else
    match s.tiePosition p (r.plan.elim 0 Plan.lc) with
    | none => (s.putRecord { r with stage := .tying }).judgeBlasts
    | some q =>
      let t := s.putRecord { r with stage := .tying, tieFire := some q, late := r.late || reached q s.pos.h }
      (if reached q s.pos.h then t.takeTieFire r.tag else t.enterTie r.tag q).judgeBlasts

/-- The effects of an E4 match (R79): a leave when no exit gate is fitted; otherwise EXITING, and the exit position at once when it is
late (R58). -/
def State.matchE4 (s : State) (r : LoafRecord) (p : Pos) : State :=
  match s.exitPosition p with
  | none => (s.putRecord r).leave r r.exitOutcome
  | some q =>
    let x := { r with stage := .exiting, gateFire := some q, late := r.late || reached q s.pos.h }
    if reached q s.pos.h then (s.putRecord x).exitFire x else (s.putRecord x).judgeBlasts

/-- A match at an eye of a re-based record (R70). -/
def State.matchAt (s : State) (e : Eye) (r : LoafRecord) (p : Pos) : State :=
  match e with
  | .e0 => s
  | .e1 => s.matchE1 r p
  | .e2 => s.matchE2 r p
  | .e3 => s.matchE3 r p
  | .e4 => s.matchE4 r p

/-- The difference d between an edge's captured position and a record's expected position at an eye (R70). -/
def edgeDeviation (r : LoafRecord) (st : EyeStation) (p : Pos) : Int := posDiff p (forwardBy r.reference st.distance)

/-- An edge tried against the candidates in turn, oldest first (R70): it matches, is a stray, or the candidate leaves LOST and the
next is tried. -/
def State.tryCandidates (s : State) (e : Eye) (st : EyeStation) (p : Pos) : List LoafRecord → State
  | [] => s.strayEdge
  | r :: rest =>
    if edgeDeviation r st p < -(st.tolerance : Int) then s.strayEdge
    else if (st.tolerance : Int) < edgeDeviation r st p then (s.lose r).tryCandidates e st p rest
    else s.matchAt e (r.rebase p st) p

/-- The candidates at a downstream eye, oldest first (R69). -/
def State.candidates (s : State) (e : Eye) : List LoafRecord :=
  match candidateStage e with
  | none => []
  | some g => s.queue.records.filter fun r => decide (r.stage = g)

/-- A delivered leading edge of a downstream eye (R69, R70, R71). -/
def State.downstreamLeading (s : State) (e : Eye) (p : Pos) : State :=
  match s.eyeStation e with
  | none => s.strayEdge
  | some st => s.tryCandidates e st p (s.candidates e)

/-- A delivered edge taken by the queue (R12, R65, R68, R69). -/
def State.takeEdge (s : State) (e : Eye) (l : Level) (p : Pos) : State :=
  match e, l with
  | .e0, .dark => s.infeedLeading p
  | .e0, .clear => s.infeedTrailing p
  | .e1, .dark => s.downstreamLeading .e1 p
  | .e2, .dark => s.downstreamLeading .e2 p
  | .e3, .dark => s.downstreamLeading .e3 p
  | .e4, .dark => s.downstreamLeading .e4 p
  | .e1, .clear => s
  | .e2, .clear => s
  | .e3, .clear => s
  | .e4, .clear => s

/-! ## What an advance of H reaches -/

/-- What H as it stands makes of a record: nothing, the loss at a passed deadline (R72), the reject gate (R76) or the exit-gate
position (R80). -/
inductive Due where
  | nothing | loss | reject | exit
  deriving DecidableEq, Repr

/-- What is due for a record at the present H. -/
def State.due (s : State) (r : LoafRecord) : Due :=
  match r.stage with
  | .diverting =>
    match r.gateFire with
    | some q => if reached q s.pos.h then .reject else .nothing
    | none => .nothing
  | .exiting =>
    match r.gateFire with
    | some q => if reached q s.pos.h then .exit else .nothing
    | none => .nothing
  | _ =>
    match s.deadline r with
    | some q => if ahead s.pos.h q then .loss else .nothing
    | none => .nothing

/-- What is due for the record that holds a tag, taken. -/
def State.takeDue (s : State) (tag : Nat) : State :=
  match s.record? tag with
  | none => s
  | some r =>
    match s.due r with
    | .nothing => s
    | .loss => s.lose r
    | .reject => s.rejectFire r
    | .exit => s.exitFire r

/-- Every record that H makes leave leaves, in queue order (R72, R76, R80, R82). -/
def State.watchRecords (s : State) : State := (s.queue.records.map LoafRecord.tag).foldl State.takeDue s

/-- Whether the record that holds a tag leaves at the present H. -/
def State.leavesNow (s : State) (tag : Nat) : Bool :=
  match s.record? tag with
  | none => false
  | some r => decide (s.due r ≠ .nothing)

/-- A pending tie whose position H has reached: it leaves the list and its fire is taken (R121). Where its own record leaves at the
same advance, the order is a free choice (log 15): the leave first leaves the entry to be withdrawn. -/
def State.watchTie (s : State) (t : PendingTie) : State :=
  if reached t.position s.pos.h then
    if s.leavesNow t.tag then
      let u := s.setChoices (s.choices + 1)
      if Config.leaveBeforeTie s.choices then u
      else (u.setBag { u.bag with pendingTies := dropTies t.tag u.bag.pendingTies }).takeTieFire t.tag
    else (s.setBag { s.bag with pendingTies := dropTies t.tag s.bag.pendingTies }).takeTieFire t.tag
  else s

/-- The pending ties H has reached, in queue order (R121). -/
def State.watchTies (s : State) : State := s.bag.pendingTies.foldl State.watchTie s

end Sys2Proof.Machine
end

