-- ==== Sys2Proof/Machine/Queue.lean ====
section
/-! DEFINITION. The meanings of the Tracking Queue's requests (05). -/

namespace Sys2Proof.Machine

/-! ## MARK_DIVERT -/

/-- MARKED added to a record's divert reasons (R62, R83). -/
def LoafRecord.mark (r : LoafRecord) : LoafRecord := { r with reasons := { r.reasons with marked := true } }

/-- The tag, and a record's stage and divert reasons, or no record (R83). -/
def State.markBytes (s : State) (tag : Nat) : List Byte :=
  u8 tag ++ optional 2 ((s.record? tag).map fun r => u8 r.stage.code ++ u8 r.reasons.code)

/-- The reject-gate position a mark computes now for a TO_BAG record, from its last match position, if it lies ahead of H (R55,
R83). -/
def State.markPosition (s : State) (r : LoafRecord) : Option Pos :=
  match r.lastMatch with
  | none => none
  | some p =>
    match s.rejectPosition p with
    | none => none
    | some q => if ahead q s.pos.h then some q else none

/-- A marked TO_BAG record becomes DIVERTING, and BAG_WITHDRAWN is judged (R83, R74). -/
def State.divertMarked (s : State) (r : LoafRecord) (q : Pos) : State :=
  (s.putRecord { r.mark with stage := .diverting, gateFire := some q }).judgeWithdrawn r

/-- What a mark does with a record, and its result (R83). -/
def State.markRecord (s : State) (r : LoafRecord) : State × ResultCode :=
  match r.stage with
  | .measuring => (s.putRecord r.mark, .ok)
  | .toSlicer => (s.putRecord r.mark, .ok)
  | .toBag =>
    match s.markPosition r with
    | some q => (s.divertMarked r q, .ok)
    | none => (s, .tooLate)
  | .diverting => (s, .ok)
  | .bagging => (s, .tooLate)
  | .tying => (s, .tooLate)
  | .exiting => (s, .tooLate)

/-- Whether a number is a tag or an id: 1..255 (05, 06). -/
def isTag (n : Nat) : Bool := decide (1 ≤ n ∧ n ≤ 255)

/-- MARK_DIVERT as the Tracking Queue answers it (R83). -/
def markDivertReply (tag : Nat) (s : State) : Reply :=
  if !isTag tag then { state := s, result := .outOfRange, body := u8 tag ++ optional 2 none }
  else
    match s.record? tag with
    | none => { state := s, result := .noSuchTag, body := s.markBytes tag }
    | some r =>
      { state := (s.markRecord r).1, result := (s.markRecord r).2, body := (s.markRecord r).1.markBytes tag }

/-- MARK_DIVERT. -/
def execMarkDivert (p : Port) (seq : Byte) (tag : Nat) (s : State) : Host.Outcome State Fault Refusal :=
  .next (s.answer .markDivert p seq (markDivertReply tag s))

/-! ## TRACK_READ -/

/-- The presence set of the loaf view (11.7). -/
def LoafRecord.presence (r : LoafRecord) : Nat :=
  bitIf r.plan.isSome 1 + bitIf r.lastMatch.isSome 2 + bitIf r.gateFire.isSome 4 + bitIf r.tieFire.isSome 8
    + bitIf r.result.isSome 16

/-- The plan fields in the loaf view: Lc, Lt, N, bag class, C; zeros while absent (11.7). -/
def planBytes : Option Plan → List Byte
  | some x => u16 x.lc ++ u16 x.lt ++ u8 x.n ++ u8 x.bagClass ++ u16 x.crumb
  | none => List.replicate 8 0

/-- An optional position in the loaf view: zeros while absent. -/
def positionBytes : Option Pos → List Byte
  | some q => posBytes q
  | none => List.replicate 4 0

/-- The loaf view (R85, 11.7). -/
def loafView (count position : Nat) (r : LoafRecord) : List Byte :=
  u8 count ++ u8 position ++ u8 r.tag ++ u8 r.slot.val ++ u8 (r.entry.getD 0) ++ u16 r.day ++ u8 r.weekday ++ posBytes r.reference
    ++ u8 r.stage.code ++ u8 r.presence ++ planBytes r.plan ++ u8 r.reasons.code ++ u8 (bitIf r.late 1 + bitIf r.blind 2)
    ++ positionBytes r.lastMatch ++ positionBytes r.gateFire ++ positionBytes r.tieFire ++ yesNo r.fetched
    ++ u8 ((r.result.map BagResult.code).getD 0) ++ u8 r.tie.code

/-- The position from the head of the record that holds a tag. -/
def State.recordPosition (s : State) (tag : Nat) : Nat := s.queue.records.findIdx fun r => decide (r.tag = tag)

/-- A TRACK_READ by tag (R85). -/
def trackReadTag (tag : Nat) (s : State) : Reply :=
  if !isTag tag then { state := s, result := .outOfRange, body := u8 s.queueCount }
  else
    match s.record? tag with
    | none => { state := s, result := .noSuchTag, body := u8 s.queueCount }
    | some r => { state := s, result := .ok, body := loafView s.queueCount (s.recordPosition tag) r }

/-- A TRACK_READ by position (R85). -/
def trackReadPosition (position : Nat) (s : State) : Reply :=
  if 47 < position then { state := s, result := .outOfRange, body := u8 s.queueCount }
  else
    match s.queue.records[position]? with
    | none => { state := s, result := .notFound, body := u8 s.queueCount }
    | some r => { state := s, result := .ok, body := loafView s.queueCount position r }

/-- TRACK_READ as the Tracking Queue answers it (R85); another selector is no choice (log 13). -/
def trackReadReply (selector value : Nat) (s : State) : Reply :=
  match selector with
  | 0 => trackReadTag value s
  | 1 => trackReadPosition value s
  | _ => { state := s, result := .outOfRange, body := u8 s.queueCount }

/-- TRACK_READ. -/
def execTrackRead (p : Port) (seq : Byte) (selector value : Nat) (s : State) : Host.Outcome State Fault Refusal :=
  .next (s.answer .trackRead p seq (trackReadReply selector value s))

end Sys2Proof.Machine
end

