-- ==== Sys2Proof/Machine/Bag.lean ====
section
/-! DEFINITION. The meanings of the Bag and Clip Unit's requests (07). -/

namespace Sys2Proof.Machine

/-! ## BAG_NEXT -/

/-- The record BAG_NEXT offers: the oldest of those it may (R109). -/
def State.nextOffered (s : State) : Option LoafRecord := s.queue.records.find? LoafRecord.offered

/-- A record's instruction, formed at the fetch (R108). A slot that a record names holds a product (R43); with none, or without a plan,
there is no instruction. -/
def State.instruction (s : State) (r : LoafRecord) : Option (List Byte) :=
  match r.plan, (s.slot r.slot).product with
  | some pl, some q => some (bagInstruction s.bag r pl q)
  | _, _ => none

/-- A record's fetched mark set (R109). -/
def State.markFetched (s : State) (tag : Nat) : State := s.updateRecord tag fun r => { r with fetched := true }

/-- BAG_NEXT as the Bag and Clip Unit answers it (R109). -/
def bagNextReply (s : State) : Reply :=
  match s.nextOffered with
  | none => { state := s, result := .notFound, body := u8 s.queueCount }
  | some r =>
    match s.instruction r with
    | none => { state := s, result := .notFound, body := u8 s.queueCount }
    | some b => { state := s.markFetched r.tag, result := .ok, body := b }

/-- BAG_NEXT. -/
def execBagNext (p : Port) (seq : Byte) (s : State) : Host.Outcome State Fault Refusal :=
  .next (s.answer .bagNext p seq (bagNextReply s))

/-! ## BAG_RESULT -/

/-- A record's bag result written (R88, R112). -/
def State.setResult (s : State) (tag : Nat) (x : BagResult) : State := s.updateRecord tag fun r => { r with result := some x }

/-- The tag, and a record's stage and bag result, or no record (R112). One presence byte stands for the record, and one inside it for its
result (log 10). -/
def State.resultBytes (s : State) (tag : Nat) : List Byte :=
  u8 tag ++ optional 3 ((s.record? tag).map fun r =>
    u8 r.stage.code ++ optional 1 (r.result.map fun x => u8 x.code))

/-- Whether a stage takes a bag result (R112). -/
def Stage.takesResult : Stage → Bool
  | .measuring => false
  | .toSlicer => false
  | .diverting => false
  | .toBag => false
  | .bagging => true
  | .tying => true
  | .exiting => true

/-- BAG_RESULT with a tag and a result in range (R112). -/
def bagResultTag (tag : Nat) (x : BagResult) (s : State) : Reply :=
  match s.record? tag with
  | none => { state := s, result := .noSuchTag, body := s.resultBytes tag }
  | some r =>
    if r.stage.takesResult then { state := s.setResult tag x, result := .ok, body := (s.setResult tag x).resultBytes tag }
    else { state := s, result := .notExpected, body := s.resultBytes tag }

/-- BAG_RESULT as the Bag and Clip Unit answers it (R112). -/
def bagResultReply (tag result : Nat) (s : State) : Reply :=
  match isTag tag, bagResult? result with
  | true, some x => bagResultTag tag x s
  | _, _ => { state := s, result := .outOfRange, body := u8 tag ++ optional 3 none }

/-- BAG_RESULT. -/
def execBagResult (p : Port) (seq : Byte) (tag result : Nat) (s : State) : Host.Outcome State Fault Refusal :=
  .next (s.answer .bagResult p seq (bagResultReply tag result s))

/-! ## DATE_SET -/

/-- The date, the date set indicator and whether NO_DATE is placed (R115). -/
def State.dateBytes (s : State) : List Byte :=
  u16 s.bag.date.day ++ u8 s.bag.date.yearDigit ++ u8 s.bag.date.weekday ++ yesNo s.bag.date.leap ++ yesNo s.bag.dateSet
    ++ yesNo (s.held .noDate)

/-- The ranges of a date, and day 366 only in a leap year (R115). -/
def Date.inRange (d : Date) : Bool :=
  decide (1 ≤ d.day ∧ d.day ≤ 366) && decide (d.yearDigit ≤ 9) && decide (d.weekday ≤ 6) && (decide (d.day ≤ 365) || d.leap)

/-- A date taken (R114, R115). -/
def State.takeDate (s : State) (d : Date) : State := (s.setBag { s.bag with date := d, dateSet := true }).releaseHold .noDate

/-- DATE_SET as the Bag and Clip Unit answers it (R115). -/
def dateSetReply (day yearDigit weekday leap : Nat) (s : State) : Reply :=
  match yesNo? leap with
  | none => { state := s, result := .outOfRange, body := s.dateBytes }
  | some l =>
    let d : Date := { day := day, yearDigit := yearDigit, weekday := weekday, leap := l }
    if d.inRange then { state := s.takeDate d, result := .ok, body := (s.takeDate d).dateBytes }
    else { state := s, result := .outOfRange, body := s.dateBytes }

/-- DATE_SET. -/
def execDateSet (p : Port) (seq : Byte) (day yearDigit weekday leap : Nat) (s : State) : Host.Outcome State Fault Refusal :=
  .next (s.answer .dateSet p seq (dateSetReply day yearDigit weekday leap s))

/-! ## COLOUR_TABLE -/

/-- The seven entries on the link (R116). -/
def colourBytes (c : Vector Nat 7) : List Byte := c.toList.flatMap u8

/-- Whether every colour number is one of 0..7 (R116). -/
def coloursInRange (c : Vector Nat 7) : Bool := c.toList.all fun n => decide (n ≤ 7)

/-- The table replaced (R116). -/
def State.setColours (s : State) (c : Vector Nat 7) : State := s.setBag { s.bag with colours := c }

/-- COLOUR_TABLE as the Bag and Clip Unit answers it (R116). -/
def colourTableReply (c : Vector Nat 7) (s : State) : Reply :=
  if coloursInRange c then { state := s.setColours c, result := .ok, body := colourBytes c }
  else { state := s, result := .outOfRange, body := colourBytes s.bag.colours }

/-- COLOUR_TABLE. -/
def execColourTable (p : Port) (seq : Byte) (c0 c1 c2 c3 c4 c5 c6 : Nat) (s : State) : Host.Outcome State Fault Refusal :=
  .next (s.answer .colourTable p seq (colourTableReply #v[c0, c1, c2, c3, c4, c5, c6] s))

/-! ## The tyer view -/

/-- A last miss on the link: tag and cause (11.7). -/
def missBytes (x : Nat × MissCause) : List Byte := u8 x.1 ++ u8 x.2.code

/-- A pending tie on the link: tag and position (R126). -/
def PendingTie.bytes (t : PendingTie) : List Byte := u8 t.tag ++ posBytes t.position

/-- The tyer view (R126). -/
def State.tyerView (s : State) : List Byte :=
  u8 s.bag.tyer.code ++ optional 1 (s.bag.tieInFlight.map fun f => u8 f.tag) ++ u16 s.bag.magazine ++ u16 s.bag.lowThreshold
    ++ u16 s.bag.tieTimeout ++ optional 2 (s.bag.lastMiss.map missBytes) ++ u8 s.bag.pendingTies.length
    ++ optional 5 (s.bag.pendingTies.head?.map PendingTie.bytes) ++ yesNo (s.held .clipEmpty) ++ yesNo (s.held .tyerFault)

/-! ## CLIP_RELOAD -/

/-- CLIP_RELOAD as the Bag and Clip Unit answers it (R119). -/
def clipReloadReply (count : Nat) (s : State) : Reply :=
  if 65535 < count then { state := s, result := .outOfRange, body := s.tyerView }
  else
    { state := s.setMagazine count s.bag.lowThreshold, result := .ok
      body := (s.setMagazine count s.bag.lowThreshold).tyerView }

/-- CLIP_RELOAD. -/
def execClipReload (p : Port) (seq : Byte) (count : Nat) (s : State) : Host.Outcome State Fault Refusal :=
  .next (s.answer .clipReload p seq (clipReloadReply count s))

/-! ## CLIP_CONFIG -/

/-- Both values replaced, and CLIP_LOW judged against the new threshold (R120, R118). -/
def State.configureClips (s : State) (threshold timeout : Nat) : State :=
  (s.setBag { s.bag with tieTimeout := timeout }).setMagazine s.bag.magazine threshold

/-- CLIP_CONFIG as the Bag and Clip Unit answers it (R120). -/
def clipConfigReply (threshold timeout : Nat) (s : State) : Reply :=
  if 65535 < threshold ∨ timeout < 20 ∨ 500 < timeout then { state := s, result := .outOfRange, body := s.tyerView }
  else { state := s.configureClips threshold timeout, result := .ok, body := (s.configureClips threshold timeout).tyerView }

/-- CLIP_CONFIG. -/
def execClipConfig (p : Port) (seq : Byte) (threshold timeout : Nat) (s : State) : Host.Outcome State Fault Refusal :=
  .next (s.answer .clipConfig p seq (clipConfigReply threshold timeout s))

/-! ## TYER_RESET -/

/-- A TYER_RESET (R125): in FAULT the tyer becomes READY and TYER_FAULT is released; otherwise nothing changes. -/
def State.resetTyer (s : State) : State :=
  match s.bag.tyer with
  | .fault => (s.setBag { s.bag with tyer := .ready }).releaseHold .tyerFault
  | .ready => s
  | .firing => s

/-- TYER_RESET as the Bag and Clip Unit answers it (R125). -/
def tyerResetReply (s : State) : Reply := { state := s.resetTyer, result := .ok, body := s.resetTyer.tyerView }

/-- TYER_RESET. -/
def execTyerReset (p : Port) (seq : Byte) (s : State) : Host.Outcome State Fault Refusal :=
  .next (s.answer .tyerReset p seq (tyerResetReply s))

end Sys2Proof.Machine
end

