-- ==== Sys2Proof/Machine/ClockOps.lean ====
section
/-! DEFINITION. Activity on the line, what an advance of H reaches, the sampling of speed, the acceptance of an edge, and the
deadlines that have come due. -/

namespace Sys2Proof.Machine

/-! ## Activity and the advance of H -/

/-- The idle timer's expiry when it starts now: the idle time in force after this moment (R146). -/
def State.idleExpiry (s : State) : Nat := s.now + s.pos.config.idleTime * 1000

/-- An advance of H or an accepted E0 edge meets the Line and Hold Unit: RUNNING restarts the timer (R146), IDLE becomes RUNNING and
owed purges are dropped (R147, R138), STOPPED stays. -/
def State.activity (s : State) : State :=
  match s.line.state with
  | .stopped => s
  | .running => s.setLine { s.line with idleTimer := some s.idleExpiry }
  | .idle => (s.setLineState .running (some s.idleExpiry)).dropPurges

/-- What the watchers of H make of an advance (R5; order: log 14). -/
def State.advanced (s : State) : State := s.activity.watchTies.watchRecords.watchGap.judgeBlasts

/-! ## The encoder -/

/-- The next state of the forward cycle (R1). -/
def nextQuad : Quad → Quad
  | .q00 => .q10
  | .q10 => .q11
  | .q11 => .q01
  | .q01 => .q00

/-- The limit of the reverse excursion (R4). -/
def excursionLimit : Nat := 2147483647

/-- A forward step (R2, R3, R5). -/
def State.stepForward (s : State) : State :=
  if s.pos.x = 0 then (s.setPos { s.pos with p := s.pos.p + 1, h := s.pos.p + 1 }).advanced
  else s.setPos { s.pos with p := s.pos.p + 1, x := s.pos.x - 1 }

/-- A reverse step (R2, R3, R4). At the excursion limit H falls, which is no advance of H: no watcher is told (R5), and the start of a blast
is not judged, though the locations move: the model's choice, since R135 lists only an advance (log 27). -/
def State.stepReverse (s : State) : State :=
  if s.pos.x < excursionLimit then s.setPos { s.pos with p := s.pos.p - 1, x := s.pos.x + 1 }
  else s.setPos { s.pos with p := s.pos.p - 1, h := s.pos.h - 1 }

/-! ## The speed sampler -/

/-- The period of the speed sampler, ms (R6). -/
def samplePeriod : Nat := 4

/-- The raw speed of the window that closes (R6). -/
def PositionUnit.rawSpeed (u : PositionUnit) : Nat := 64 * clampInt 0 4095 (posDiff u.h u.windowStart)

/-- The speed after the filter update (R7). -/
def filteredSpeed (v raw : Nat) : Nat := ((v : Int) + roundInt ((raw : Int) - (v : Int)) 4).toNat

/-- The filter update and the start of the next window (R6, R7). -/
def PositionUnit.sample (u : PositionUnit) : PositionUnit :=
  { u with v := filteredSpeed u.v u.rawSpeed, windowStart := u.h, nextSample := u.nextSample + samplePeriod }

/-! ## The eyes -/

/-- The other level. -/
def otherLevel : Level → Level
  | .clear => .dark
  | .dark => .clear

/-- The raw level that a filter stands at: a change is pending exactly while it differs from the accepted level (R9). -/
def EyeFilter.raw (f : EyeFilter) : Level :=
  match f.change with
  | none => f.accepted
  | some _ => otherLevel f.accepted

/-- The state with one eye's filter replaced. -/
def State.setFilter (s : State) (e : Eye) (f : EyeFilter) : State :=
  s.setPos { s.pos with filters := s.pos.filters.set e f }

/-- The activity an accepted edge of an eye reports: only E0's does (R12). -/
def State.edgeActivity (s : State) : Eye → State
  | .e0 => s.activity
  | .e1 => s
  | .e2 => s
  | .e3 => s
  | .e4 => s

/-- The acceptance of a pending change to a level (R10): the accepted level changes, E0 activity is reported (R12), and the edge is
delivered unless it was captured behind H (R11). That the activity is told before the delivery is the model's choice: R12, R65 and R147
give no order (log 14). -/
def State.acceptEdge (s : State) (e : Eye) (l : Level) (c : PendingChange) : State :=
  let t := (s.setFilter e { accepted := l, change := none }).edgeActivity e
  if c.atH then t.takeEdge e l c.captured else t

/-- A raw level that differs from the accepted level opens a pending change (R9). -/
def State.openChange (s : State) : PendingChange :=
  { captured := s.pos.p, atH := decide (s.pos.x = 0), filterTime := s.pos.config.filterTime
    expiry := s.now + s.pos.config.filterTime }

/-! ## What has come due -/

/-- A command whose time has come, when a deadline stands at or before t. -/
def dueAt (t : Nat) (deadline : Option Nat) (c : Instr) : List Instr :=
  match deadline with
  | some d => if d ≤ t then [c] else []
  | none => []

/-- A pulse's end time. -/
def Pulse.endTime? : Pulse → Option Nat
  | .released => none
  | .driven t => some t

/-- The commands of every deadline that has come, in the model's order (log 3). -/
def State.dueCommands (s : State) : List Instr :=
  dueAt s.now s.queue.rejectGate.endTime? (.gatePulseEnd .reject)
    ++ dueAt s.now s.queue.exitGate.endTime? (.gatePulseEnd .exit)
    ++ dueAt s.now s.bag.fireLine.endTime? .firePulseEnd
    ++ dueAt s.now (s.bag.tieInFlight.map TieInFlight.expiry) .tieTimeoutExpiry
    ++ dueAt s.now s.crumb.z0.blastEnd (.blastEnd .z0)
    ++ dueAt s.now s.crumb.z1.blastEnd (.blastEnd .z1)
    ++ dueAt s.now s.line.idleTimer .idleTimerExpiry
    ++ dueAt s.now (some s.pos.nextSample) .speedSamplerExpiry
    ++ dueAt s.now (s.pos.filters.e0.change.map PendingChange.expiry) (.eyeFilterExpiry .e0)
    ++ dueAt s.now (s.pos.filters.e1.change.map PendingChange.expiry) (.eyeFilterExpiry .e1)
    ++ dueAt s.now (s.pos.filters.e2.change.map PendingChange.expiry) (.eyeFilterExpiry .e2)
    ++ dueAt s.now (s.pos.filters.e3.change.map PendingChange.expiry) (.eyeFilterExpiry .e3)
    ++ dueAt s.now (s.pos.filters.e4.change.map PendingChange.expiry) (.eyeFilterExpiry .e4)

/-- A millisecond with nothing waiting: it passes, and the commands of the deadlines it reaches wait (log 1). -/
def State.tick (s : State) : State := (s.elapse 1).setPending (s.elapse 1).dueCommands

end Sys2Proof.Machine
end

