-- ==== Sys2Proof/Machine/Line.lean ====
section
/-! DEFINITION. The meanings of the line and hold requests (09) and of LINE_CONFIG (R14). -/

namespace Sys2Proof.Machine

/-- The hold set on the link (11.7). -/
def State.holdBytes (s : State) : List Byte := set16 s.line.holds

/-! ## STATUS_READ -/

/-- A pending selection on the link: slot and source (11.7). -/
def Selection.bytes (x : Selection) : List Byte := u8 x.slot.val ++ u8 x.source.code

/-- The ACTIVE slot, or the mark that none is ACTIVE, and the pending selection with its source, or absent (R34, R152). -/
def State.productBytes (s : State) : List Byte :=
  optional 1 (s.activeSlot.map fun i => u8 i.val) ++ optional 2 (s.recipes.selection.map Selection.bytes)

/-- The summary of STATUS_READ (R152). -/
def State.statusBytes (s : State) : List Byte :=
  u8 s.line.state.code ++ u8 s.line.permit.code ++ s.holdBytes ++ u8 s.queueCount ++ s.productBytes ++ u32 s.pos.v
    ++ posBytes s.pos.h ++ u8 s.schedule.state.code ++ u16 s.crumb.z0.load ++ u16 s.crumb.z1.load ++ u16 s.bag.magazine
    ++ u8 s.bag.tyer.code ++ u8 s.store.state.code

/-- STATUS_READ as the Line and Hold Unit answers it (R152). -/
def statusReadReply (s : State) : Reply := { state := s, result := .ok, body := s.statusBytes }

/-- STATUS_READ. -/
def execStatusRead (p : Port) (seq : Byte) (s : State) : Host.Outcome State Fault Refusal :=
  .next (s.answer .statusRead p seq (statusReadReply s))

/-! ## LINE_START -/

/-- The hold set and the infeed permit, with which the answers of the line and hold requests end (R149, R150; the permit's place: log 10). -/
def State.holdReplyBytes (s : State) : List Byte := s.holdBytes ++ u8 s.line.permit.code

/-- What a successful LINE_START and one in a started line answer (R144, R150). -/
def State.startBytes (s : State) : List Byte := u8 s.line.state.code ++ u8 s.chain.state.code ++ s.holdReplyBytes

/-- The chain found complete (R24): VALID, no last failure, the zones of its bars fitted (R129). -/
def State.chainPassed (s : State) : State :=
  ((s.setChain { s.chain with state := .valid, lastFailure := none }).fitZone .z0).fitZone .z1

/-- The chain found invalid (R24). -/
def State.chainFailed (s : State) (index : Nat) (cause : Cause) : State :=
  s.setChain { s.chain with state := .unvalidated, lastFailure := some (index, cause) }

/-- The line becomes RUNNING and the idle timer starts (R144, R146). -/
def State.startLine (s : State) : State := s.setLineState .running (some s.idleExpiry)

/-- LINE_START in STOPPED: validation, and the start if it passes (R144, R24). -/
def lineStartStopped (s : State) : Reply :=
  match s.chain.validate with
  | .complete _ =>
    { state := s.chainPassed.startLine, result := .ok, body := s.chainPassed.startLine.startBytes }
  | .fails index cause =>
    { state := s.chainFailed index cause
      result := .chainInvalid
      body := u8 index ++ u8 cause.code ++ (s.chainFailed index cause).startBytes }

/-- LINE_START as the Line and Hold Unit answers it (R144). -/
def lineStartReply (s : State) : Reply :=
  match s.line.state with
  | .stopped => lineStartStopped s
  | .running => { state := s, result := .ok, body := s.startBytes }
  | .idle => { state := s, result := .ok, body := s.startBytes }

/-- LINE_START. -/
def execLineStart (p : Port) (seq : Byte) (s : State) : Host.Outcome State Fault Refusal :=
  .next (s.answer .lineStart p seq (lineStartReply s))

/-! ## LINE_STOP -/

/-- The line becomes STOPPED: the timer stops, the permit is judged, and a purge owed is dropped (R145, R138). -/
def State.stopLine (s : State) : State := (s.setLineState .stopped none).dropPurges

/-- A taken LINE_STOP (R145). -/
def State.lineStopped (s : State) : State :=
  match s.line.state with
  | .stopped => s
  | .running => s.stopLine
  | .idle => s.stopLine

/-- LINE_STOP as the Line and Hold Unit answers it (R145, R150). -/
def lineStopReply (s : State) : Reply :=
  { state := s.lineStopped, result := .ok, body := u8 s.lineStopped.line.state.code ++ s.lineStopped.holdReplyBytes }

/-- LINE_STOP. -/
def execLineStop (p : Port) (seq : Byte) (s : State) : Host.Outcome State Fault Refusal :=
  .next (s.answer .lineStop p seq (lineStopReply s))

/-! ## LINE_RESET -/

/-- Every record leaves FLUSHED, oldest first, and the gates are released (R86). -/
def State.flushQueue (s : State) : State :=
  ((s.queue.records.foldl (fun t r => t.leave r .flushed) s).setGate .reject .released).setGate .exit .released

/-- The Bag and Clip Unit's line-reset part (R127). -/
def BagClipUnit.lineReset (b : BagClipUnit) : BagClipUnit :=
  { b with
    pendingTies := []
    tyer := match b.tyer with
      | .firing => .ready
      | .ready => .ready
      | .fault => .fault
    tieInFlight := none
    fireLine := .released }

/-- Every block's line-reset part (R151): the line, the queue (R86), the pending selection (R42), the schedule (R106), the tyer (R127),
the zones (R141). -/
def State.resetLine (s : State) : State :=
  let t := (s.stopLine.flushQueue.setSelection none).suspendSchedule
  ((t.setBag t.bag.lineReset).cutBlast .z0).cutBlast .z1

/-- LINE_RESET as the Line and Hold Unit answers it (R151, R150). -/
def lineResetReply (s : State) : Reply :=
  { state := s.resetLine
    result := .ok
    body := u8 s.resetLine.line.state.code ++ u8 s.resetLine.queueCount ++ s.resetLine.holdReplyBytes }

/-- LINE_RESET. -/
def execLineReset (p : Port) (seq : Byte) (s : State) : Host.Outcome State Fault Refusal :=
  .next (s.answer .lineReset p seq (lineResetReply s))

/-! ## LINE_CONFIG -/

/-- The four values in force (R14). -/
def LineConfig.bytes (c : LineConfig) : List Byte := u16 c.pitch ++ u8 c.offset ++ u8 c.filterTime ++ u16 c.idleTime

/-- The ranges of the four values (01, 1.5). -/
def LineConfig.inRange (c : LineConfig) : Bool :=
  decide (20 ≤ c.pitch ∧ c.pitch ≤ 2000) && decide (c.offset ≤ 50) && decide (c.filterTime ≤ 20)
    && decide (10 ≤ c.idleTime ∧ c.idleTime ≤ 3600)

/-- The four values replaced. -/
def State.setConfig (s : State) (c : LineConfig) : State := s.setPos { s.pos with config := c }

/-- The condition of LINE_CONFIG and of the chain's edits: the line STOPPED and the queue empty (R14, R19, R20). -/
def State.editable (s : State) : Bool := decide (s.line.state = .stopped) && decide (s.queueCount = 0)

/-- LINE_CONFIG as the Position Unit answers it (R14). -/
def lineConfigReply (c : LineConfig) (s : State) : Reply :=
  if !s.editable then { state := s, result := .lineState, body := s.pos.config.bytes }
  else if !c.inRange then { state := s, result := .outOfRange, body := s.pos.config.bytes }
  else { state := s.setConfig c, result := .ok, body := c.bytes }

/-- LINE_CONFIG. -/
def execLineConfig (p : Port) (seq : Byte) (pitch offset filterTime idleTime : Nat) (s : State) :
    Host.Outcome State Fault Refusal :=
  .next (s.answer .lineConfig p seq
    (lineConfigReply { pitch := pitch, offset := offset, filterTime := filterTime, idleTime := idleTime } s))

/-! ## HOLD_SET and HOLD_RELEASE -/

/-- Why a master's hold request is refused, if it is (R149). -/
def holdRefusal (p : Port) (reason : Nat) : Option ResultCode :=
  match holdReason? reason with
  | none => some .outOfRange
  | some r => if r = ownHold p then none else some .notPermitted

/-- HOLD_SET as the Line and Hold Unit answers it (R149). -/
def holdSetReply (p : Port) (reason : Nat) (s : State) : Reply :=
  match holdRefusal p reason with
  | some result => { state := s, result := result, body := s.holdReplyBytes }
  | none =>
    { state := s.placeHold (ownHold p), result := .ok, body := (s.placeHold (ownHold p)).holdReplyBytes }

/-- HOLD_SET. -/
def execHoldSet (p : Port) (seq : Byte) (reason : Nat) (s : State) : Host.Outcome State Fault Refusal :=
  .next (s.answer .holdSet p seq (holdSetReply p reason s))

/-- HOLD_RELEASE as the Line and Hold Unit answers it (R149). -/
def holdReleaseReply (p : Port) (reason : Nat) (s : State) : Reply :=
  match holdRefusal p reason with
  | some result => { state := s, result := result, body := s.holdReplyBytes }
  | none =>
    { state := s.releaseHold (ownHold p), result := .ok, body := (s.releaseHold (ownHold p)).holdReplyBytes }

/-- HOLD_RELEASE. -/
def execHoldRelease (p : Port) (seq : Byte) (reason : Nat) (s : State) : Host.Outcome State Fault Refusal :=
  .next (s.answer .holdRelease p seq (holdReleaseReply p reason s))

end Sys2Proof.Machine
end

