-- ==== Sys2Proof/Machine/Chain.lean ====
section
/-! DEFINITION. The meanings of the station chain's requests (02). -/

namespace Sys2Proof.Machine

/-! ## CHAIN_WRITE -/

/-- A chain edited: UNVALIDATED (R18), and both zones unfitted (R129). -/
def State.chainEdited (s : State) (c : StationChain) : State :=
  ((s.setChain { c with state := .unvalidated }).unfitZone .z0).unfitZone .z1

/-- The content a CHAIN_WRITE carries: none for kind ABSENT, or a descriptor whose fields are all in range (R19, R17). The outer option
is absent when the kind or a field is out of range. -/
def carriedPlace (kind distance next : Nat) (area : Vector Byte 7) : Option (Option Descriptor) :=
  if kind = 0 then some none
  else if 1 ≤ distance ∧ distance ≤ 1000000 ∧ next ≤ 8 then
    (station? kind area).map fun st => some { station := st, distance := distance, next := next }
  else none

/-- A descriptor place replaced. -/
def StationChain.write (c : StationChain) (i : Fin 8) (d : Option Descriptor) : StationChain :=
  { c with places := c.places.set i d }

/-- The descriptor at a named index as it stands, or no descriptor when the index was out of range, with the chain state (R19). -/
def State.placeReply (s : State) (index : Nat) : List Byte :=
  optional 13 ((placeIndex? index).map fun i => placeBytes (s.chain.places.get i)) ++ u8 s.chain.state.code

/-- CHAIN_WRITE as the Station Chain answers it (R19). -/
def chainWriteReply (index kind distance next : Nat) (area : Vector Byte 7) (s : State) : Reply :=
  if !s.editable then { state := s, result := .lineState, body := s.placeReply index }
  else
    match placeIndex? index, carriedPlace kind distance next area with
    | some i, some d =>
      { state := s.chainEdited (s.chain.write i d), result := .ok
        body := (s.chainEdited (s.chain.write i d)).placeReply index }
    | _, _ => { state := s, result := .outOfRange, body := s.placeReply index }

/-- CHAIN_WRITE. -/
def execChainWrite (p : Port) (seq : Byte) (index kind distance next : Nat) (area : Vector Byte 7) (s : State) :
    Host.Outcome State Fault Refusal :=
  .next (s.answer .chainWrite p seq (chainWriteReply index kind distance next area s))

/-! ## CHAIN_HEAD -/

/-- The head index and the chain state (R20). -/
def State.headReply (s : State) : List Byte := u8 s.chain.head ++ u8 s.chain.state.code

/-- The chain with its head index set. -/
def StationChain.setHead (c : StationChain) (index : Nat) : StationChain := { c with head := index }

/-- CHAIN_HEAD as the Station Chain answers it (R20). -/
def chainHeadReply (index : Nat) (s : State) : Reply :=
  if !s.editable then { state := s, result := .lineState, body := s.headReply }
  else if 8 < index then { state := s, result := .outOfRange, body := s.headReply }
  else
    { state := s.chainEdited (s.chain.setHead index), result := .ok, body := (s.chainEdited (s.chain.setHead index)).headReply }

/-- CHAIN_HEAD. -/
def execChainHead (p : Port) (seq : Byte) (index : Nat) (s : State) : Host.Outcome State Fault Refusal :=
  .next (s.answer .chainHead p seq (chainHeadReply index s))

/-! ## CHAIN_READ -/

/-- The last failure on the link: index and cause (11.7). -/
def failureBytes (x : Nat × Cause) : List Byte := u8 x.1 ++ u8 x.2.code

/-- What CHAIN_READ carries (R21): head, chain state, last failure, and the place's descriptor or no descriptor. -/
def State.chainReadBytes (s : State) (index : Nat) : List Byte :=
  s.headReply ++ optional 2 (s.chain.lastFailure.map failureBytes)
    ++ optional 13 ((placeIndex? index).map fun i => placeBytes (s.chain.places.get i))

/-- CHAIN_READ as the Station Chain answers it (R21). -/
def chainReadReply (index : Nat) (s : State) : Reply :=
  { state := s, result := if 8 < index then .outOfRange else .ok, body := s.chainReadBytes index }

/-- CHAIN_READ. -/
def execChainRead (p : Port) (seq : Byte) (index : Nat) (s : State) : Host.Outcome State Fault Refusal :=
  .next (s.answer .chainRead p seq (chainReadReply index s))

end Sys2Proof.Machine
end

