-- ==== Sys2Proof/Machine/Crumb.lean ====
section
/-! DEFINITION. The meanings of the Crumb Unit's requests (08). -/

namespace Sys2Proof.Machine

/-! ## The zone view -/

/-- A bar's distance, half-span, blast time and yield (R140). -/
def Bar.bytes (b : Bar) : List Byte := u32 b.distance ++ u16 b.halfSpan ++ u16 b.blastTime ++ u16 b.yield

/-- The bar of a fitted zone (R140). -/
def State.fittedBar (s : State) (z : Zone) : Option Bar := if (s.zone z).fitted then s.bar z else none

/-- The blast state, and the ms remaining to the blast end while BLASTING (R140). -/
def blastBytes (now : Nat) : Option Nat → List Byte
  | some t => u8 1 ++ optional 2 (some (u16 (t - now)))
  | none => u8 0 ++ optional 2 none

/-- B at v as it stands (R59); zero for a zone with no bar in force (log 12). -/
def State.zoneBlastCounts (s : State) (z : Zone) : Nat :=
  match s.fittedBar z with
  | some b => blastCounts s.pos.v b.blastTime
  | none => 0

/-- The zone view (R140). Whether the zone is fitted is told by the presence byte before the bar's four fields and has no byte of its own;
the blast state and whether the zone is occupied have one each (log 10). -/
def State.zoneView (s : State) (z : Zone) : List Byte :=
  optional 10 ((s.fittedBar z).map Bar.bytes) ++ u16 (s.zone z).load ++ u16 (s.zone z).soft ++ u16 (s.zone z).hard
    ++ blastBytes s.now (s.zone z).blastEnd ++ yesNo (s.zone z).manualClear ++ yesNo (s.zone z).purgeOwed
    ++ yesNo (s.held (fullReason z)) ++ u32 (s.zoneBlastCounts z) ++ yesNo (s.occupant z).isSome
    ++ optional 1 ((s.occupant z).map fun r => u8 r.tag)

/-! ## CRUMB_CONFIG -/

/-- Thresholds replaced, CRUMB_FULL judged and the start of a blast judged (R131). -/
def State.setThresholds (s : State) (z : Zone) (soft hard : Nat) : State :=
  ((s.setZone z { s.zone z with soft := soft, hard := hard }).judgeFull z).judgeBlast z

/-- Whether a pair of thresholds may be set (R131). -/
def thresholdsOk (soft hard : Nat) : Bool :=
  decide (1 ≤ soft ∧ soft ≤ 65534) && decide (2 ≤ hard ∧ hard ≤ 65535) && decide (soft < hard)

/-- CRUMB_CONFIG as the Crumb Unit answers it (R131); there is no zone view of a zone that is neither 0 nor 1 (log 11). -/
def crumbConfigReply (zone soft hard : Nat) (s : State) : Reply :=
  match zone? zone with
  | none => { state := s, result := .outOfRange, body := [] }
  | some z =>
    if thresholdsOk soft hard then
      { state := s.setThresholds z soft hard, result := .ok, body := (s.setThresholds z soft hard).zoneView z }
    else { state := s, result := .outOfRange, body := s.zoneView z }

/-- CRUMB_CONFIG. -/
def execCrumbConfig (p : Port) (seq : Byte) (zone soft hard : Nat) (s : State) : Host.Outcome State Fault Refusal :=
  .next (s.answer .crumbConfig p seq (crumbConfigReply zone soft hard s))

/-! ## CRUMB_CLEAR -/

/-- A blast asked for, and its start judged (R139). A zone that has been asked already changes nothing. -/
def State.askClear (s : State) (z : Zone) : State :=
  if (s.zone z).manualClear then s else (s.setZone z { s.zone z with manualClear := true }).judgeBlast z

/-- CRUMB_CLEAR as the Crumb Unit answers it (R139). -/
def crumbClearReply (zone : Nat) (s : State) : Reply :=
  match zone? zone with
  | none => { state := s, result := .outOfRange, body := [] }
  | some z =>
    if (s.zone z).fitted then { state := s.askClear z, result := .ok, body := (s.askClear z).zoneView z }
    else { state := s, result := .notFound, body := s.zoneView z }

/-- CRUMB_CLEAR. -/
def execCrumbClear (p : Port) (seq : Byte) (zone : Nat) (s : State) : Host.Outcome State Fault Refusal :=
  .next (s.answer .crumbClear p seq (crumbClearReply zone s))

/-! ## CRUMB_READ -/

/-- CRUMB_READ as the Crumb Unit answers it (R140). -/
def crumbReadReply (s : State) : Reply := { state := s, result := .ok, body := s.zoneView .z0 ++ s.zoneView .z1 }

/-- CRUMB_READ. -/
def execCrumbRead (p : Port) (seq : Byte) (s : State) : Host.Outcome State Fault Refusal :=
  .next (s.answer .crumbRead p seq (crumbReadReply s))

end Sys2Proof.Machine
end

