-- ==== Sys2Proof/Machine/Link.lean ====
section
/-! DEFINITION. The meanings of the link's own commands (11): port reset, a fetch, and the three notice requests. The bytes of a
frame are in Frames.lean. -/

namespace Sys2Proof.Machine

/-! ## PORT_RESET -/

/-- A port after a port reset (R178): what is clocked before select rises is ignored, and what the port last drove on its data out is
past, and stays as it is (log 9). -/
def PortState.reset (x : PortState) : PortState :=
  { frame := .idle, link := .wasReset, response := none, flags := 0, mask := 0, attention := attentionOf 0 0, dataOut := x.dataOut }

/-- PORT_RESET (R178). -/
def execPortReset (p : Port) (s : State) : Host.Outcome State Fault Refusal := .next (s.setPort p (s.port p).reset)

/-! ## Fetches, and the rise of select -/

/-- A response's frame on the link (R172). -/
def Response.frame (r : Response) : List Byte := [r.kind, r.seq, r.result, BitVec.ofNat 8 r.body.length] ++ r.body

/-- The frame a fetch finds: the slot's, or NO_RESPONSE with zeros (R172). -/
def PortState.frameToFetch (x : PortState) : List Byte :=
  match x.response with
  | some r => r.frame
  | none => [0, 0, BitVec.ofNat 8 ResultCode.noResponse.code, 0]

/-- The bytes driven in a fetch of n bytes: the filler, the frame, and filler after its end (R172). -/
def driven (frame : List Byte) (n : Nat) : List Byte := (0 :: frame ++ filler n).take n

/-- A port after the bytes of a fetch so far, its transaction still in progress (R172). -/
def PortState.fetching (x : PortState) (bytes : List Byte) : PortState :=
  { x with frame := .receiving bytes, dataOut := driven x.frameToFetch bytes.length }

/-- A port after a fetch of n bytes has ended (R172): complete when every byte of the frame has been clocked, and the slot then
EMPTY. -/
def PortState.fetchEnded (x : PortState) (n : Nat) : PortState :=
  { x with frame := .idle, response := if x.frameToFetch.length < n then none else x.response }

/-- The response to a request frame that its port refuses: the kind and sequence received are echoed, 0 for one that did not arrive, and
the body is empty (R171). -/
def refusal (bytes : List Byte) (result : ResultCode) : Response :=
  { kind := bytes.getD 0 0, seq := bytes.getD 1 0, result := BitVec.ofNat 8 result.code, body := [] }

/-- Whether the bytes of a transaction begin a fetch: a first byte of 0 (R169). -/
def beginsFetch (bytes : List Byte) : Bool := decide (bytes.head? = some 0)

/-- The rise of select ends a transaction in progress: a fetch ends (R172), and a request frame is cut short and refused (R171). -/
def PortState.endTransaction (x : PortState) : PortState :=
  match x.frame with
  | .idle => x
  | .receiving bytes =>
    if beginsFetch bytes then x.fetchEnded bytes.length else x.answered (refusal bytes .badLength) bytes.length

/-- A port at the rise of select: the transaction ends and the port listens again (R169, R171, R178). -/
def PortState.released (x : PortState) : PortState := { x.endTransaction with link := .listening }

/-! ## FETCH -/

/-- A port after a whole fetch transaction of n bytes (R172): a transaction of the port's that was in progress has ended before it
(log 7), and a fetch of no whole byte is ignored (R169). -/
def PortState.fetched (x : PortState) (n : Nat) : PortState :=
  if n = 0 then x.released else ((x.released.fetching (filler n)).fetchEnded n)

/-- FETCH (R172). -/
def execFetch (p : Port) (clocked : Nat) (s : State) : Host.Outcome State Fault Refusal :=
  .next (s.setPort p ((s.port p).fetched clocked))

/-! ## Notice requests -/

/-- The flags and the mask of a port, as the three notice requests answer them (R175, R176, R177). -/
def State.noticeBody (s : State) (p : Port) : List Byte := set16 (s.port p).flags ++ set16 (s.port p).mask

/-- NOTICE_READ as the port answers it (R177). -/
def noticeReadReply (p : Port) (s : State) : Reply := { state := s, result := .ok, body := s.noticeBody p }

/-- NOTICE_READ. -/
def execNoticeRead (p : Port) (seq : Byte) (s : State) : Host.Outcome State Fault Refusal :=
  .next (s.answer .noticeRead p seq (noticeReadReply p s))

/-- Whether a set names only positions that hold a kind of the port (R175). -/
def namesKinds (p : Port) (kinds : Set16) : Bool := decide (kinds &&& ~~~(noticePositions p) = 0)

/-- A port with the named flags cleared (R175). -/
def PortState.acknowledge (x : PortState) (kinds : Set16) : PortState := PortState.judged { x with flags := x.flags &&& ~~~kinds }

/-- NOTICE_ACK as the port answers it (R175). -/
def noticeAckReply (p : Port) (kinds : Set16) (s : State) : Reply :=
  if namesKinds p kinds then
    { state := s.setPort p ((s.port p).acknowledge kinds), result := .ok
      body := (s.setPort p ((s.port p).acknowledge kinds)).noticeBody p }
  else { state := s, result := .outOfRange, body := s.noticeBody p }

/-- NOTICE_ACK. -/
def execNoticeAck (p : Port) (seq : Byte) (kinds : Set16) (s : State) : Host.Outcome State Fault Refusal :=
  .next (s.answer .noticeAck p seq (noticeAckReply p kinds s))

/-- A port with its mask replaced (R176). -/
def PortState.setMask (x : PortState) (kinds : Set16) : PortState := PortState.judged { x with mask := kinds }

/-- NOTICE_MASK as the port answers it (R176). -/
def noticeMaskReply (p : Port) (kinds : Set16) (s : State) : Reply :=
  if namesKinds p kinds then
    { state := s.setPort p ((s.port p).setMask kinds), result := .ok
      body := (s.setPort p ((s.port p).setMask kinds)).noticeBody p }
  else { state := s, result := .outOfRange, body := s.noticeBody p }

/-- NOTICE_MASK. -/
def execNoticeMask (p : Port) (seq : Byte) (kinds : Set16) (s : State) : Host.Outcome State Fault Refusal :=
  .next (s.answer .noticeMask p seq (noticeMaskReply p kinds s))

end Sys2Proof.Machine
end

