-- ==== Sys2Proof/Machine/Recipes.lean ====
section
/-! DEFINITION. The meanings of the Recipe Table's requests (03). -/

namespace Sys2Proof.Machine

/-! ## The recipe view -/

/-- A product code and its eight parameters on the link, in the order of chapter 3's table (R32). -/
def Product.bytes (q : Product) : List Byte :=
  u16 q.code ++ u8 q.thickness ++ u16 q.heel ++ u16 q.minLen ++ u16 q.maxLen ++ u16 q.shortMax ++ u16 q.regularMax ++ u8 q.crumb
    ++ u8 q.shelf

/-- The source of the pending selection, if it names the slot (R32). -/
def State.selectionSource (s : State) (i : Fin 16) : Option Source :=
  match s.recipes.selection with
  | some x => if x.slot = i then some x.source else none
  | none => none

/-- The installed blade pitch and whether BLADE_MISMATCH is in the hold set (R32, R38). -/
def State.bladeBytes (s : State) : List Byte := u16 s.recipes.pitch ++ yesNo (s.held .bladeMismatch)

/-- A slot as RECIPE_READ returns it (R32). One presence byte says whether it is the pending selection, and the source follows it: the
model's choice (log 10). -/
def State.slotBytes (s : State) (i : Fin 16) : List Byte :=
  u8 (s.slot i).state.code ++ u8 (s.slot i).inFlight ++ optional 15 ((s.slot i).product.map Product.bytes)
    ++ optional 1 ((s.selectionSource i).map fun x => u8 x.code) ++ s.bladeBytes

/-- The bytes a slot takes on the link. -/
def slotWidth : Nat := 23

/-- A slot as it stands, or no slot (R29, R30). -/
def State.slotReply (s : State) (i : Fin 16) : List Byte := optional slotWidth (some (s.slotBytes i))

/-- No slot, when the number was out of range (R29, R30). -/
def noSlot : List Byte := optional slotWidth none

/-! ## RECIPE_LOAD -/

/-- The ranges of a product code and its parameters, and the relations between them (R29). -/
def Product.inRange (q : Product) : Bool :=
  decide (1 ≤ q.code ∧ q.code ≤ 65534) && decide (60 ≤ q.thickness ∧ q.thickness ≤ 250) && decide (q.heel ≤ 400)
    && decide (300 ≤ q.minLen ∧ q.minLen ≤ 9999) && decide (300 ≤ q.maxLen ∧ q.maxLen ≤ 9999) && decide (q.shortMax ≤ 9999)
    && decide (q.regularMax ≤ 9999) && decide (q.crumb ≤ 255) && decide (1 ≤ q.shelf ∧ q.shelf ≤ 30)
    && decide (q.minLen < q.maxLen) && decide (q.shortMax ≤ q.regularMax)

/-- Whether a slot is LOADED or ACTIVE. -/
def SlotState.inUse : SlotState → Bool
  | .empty => false
  | .loaded => true
  | .active => true
  | .retiring => false

/-- Whether a LOADED or ACTIVE slot holds a product code (R28, R29). -/
def State.codeHeld (s : State) (code : Nat) : Bool :=
  (List.finRange 16).any fun i => (s.slot i).state.inUse && decide ((s.slot i).product.map Product.code = some code)

/-- A slot that takes a product: LOADED (R29). -/
def Slot.load (x : Slot) (q : Product) : Slot := { x with state := .loaded, product := some q }

/-- RECIPE_LOAD of a slot that exists (R29). -/
def recipeLoadSlot (i : Fin 16) (q : Product) (s : State) : Reply :=
  if (s.slot i).state ≠ .empty then { state := s, result := .slotState, body := s.slotReply i }
  else if !q.inRange then { state := s, result := .outOfRange, body := s.slotReply i }
  else if s.codeHeld q.code then { state := s, result := .duplicateCode, body := s.slotReply i }
  else
    { state := s.setSlot i ((s.slot i).load q), result := .ok, body := (s.setSlot i ((s.slot i).load q)).slotReply i }

/-- RECIPE_LOAD as the Recipe Table answers it (R29). -/
def recipeLoadReply (slot : Nat) (q : Product) (s : State) : Reply :=
  match slotIndex? slot with
  | none => { state := s, result := .outOfRange, body := noSlot }
  | some i => recipeLoadSlot i q s

/-- RECIPE_LOAD. -/
def execRecipeLoad (p : Port) (seq : Byte) (slot code thickness heel minLen maxLen shortMax regularMax crumb shelf : Nat)
    (s : State) : Host.Outcome State Fault Refusal :=
  .next (s.answer .recipeLoad p seq
    (recipeLoadReply slot
      { code := code, thickness := thickness, heel := heel, minLen := minLen, maxLen := maxLen, shortMax := shortMax
        regularMax := regularMax, crumb := crumb, shelf := shelf } s))

/-! ## RECIPE_RETIRE -/

/-- A LOADED slot retired (R30): EMPTY at once with no record in flight, otherwise RETIRING. -/
def Slot.retire (x : Slot) : Slot := if x.inFlight = 0 then x.emptied else { x with state := .retiring }

/-- Why a retire of a slot is refused, if it is (R30). -/
def State.retireRefusal (s : State) (i : Fin 16) : Option ResultCode :=
  match (s.slot i).state with
  | .active => some .activeSlot
  | .empty => some .slotState
  | .retiring => some .slotState
  | .loaded =>
    if (s.selectionSource i).isSome then some .slotState
    else if s.slotScheduled i then some .slotScheduled
    else none

/-- RECIPE_RETIRE of a slot that exists (R30). -/
def recipeRetireSlot (i : Fin 16) (s : State) : Reply :=
  match s.retireRefusal i with
  | some result => { state := s, result := result, body := s.slotReply i }
  | none =>
    { state := s.setSlot i (s.slot i).retire, result := .ok, body := (s.setSlot i (s.slot i).retire).slotReply i }

/-- RECIPE_RETIRE as the Recipe Table answers it (R30). -/
def recipeRetireReply (slot : Nat) (s : State) : Reply :=
  match slotIndex? slot with
  | none => { state := s, result := .outOfRange, body := noSlot }
  | some i => recipeRetireSlot i s

/-- RECIPE_RETIRE. -/
def execRecipeRetire (p : Port) (seq : Byte) (slot : Nat) (s : State) : Host.Outcome State Fault Refusal :=
  .next (s.answer .recipeRetire p seq (recipeRetireReply slot s))

/-! ## RECIPE_READ -/

/-- RECIPE_READ as the Recipe Table answers it (R32). -/
def recipeReadReply (slot : Nat) (s : State) : Reply :=
  match slotIndex? slot with
  | none => { state := s, result := .outOfRange, body := [] }
  | some i => { state := s, result := .ok, body := s.slotBytes i }

/-- RECIPE_READ. -/
def execRecipeRead (p : Port) (seq : Byte) (slot : Nat) (s : State) : Host.Outcome State Fault Refusal :=
  .next (s.answer .recipeRead p seq (recipeReadReply slot s))

/-! ## SELECT -/

/-- The source a port's SELECT writes; the bagger port may not send one (R33, R34). -/
def sourceOf : Port → Source
  | .slicer => .slicer
  | .office => .office
  | .bagger => .office

/-- A SELECT answered OK (R34, R35): the write, and the suspension of an ACTIVE schedule (R103). -/
def State.selectSlot (s : State) (i : Fin 16) (source : Source) : State := (s.writeSelection i source).suspendSchedule

/-- SELECT as the Recipe Table answers it (R34). -/
def selectReply (source : Source) (slot : Nat) (s : State) : Reply :=
  match slotIndex? slot with
  | none => { state := s, result := .outOfRange, body := s.productBytes }
  | some i =>
    if (s.slot i).state.inUse then
      { state := s.selectSlot i source, result := .ok, body := (s.selectSlot i source).productBytes }
    else { state := s, result := .slotState, body := s.productBytes }

/-- SELECT. -/
def execSelect (p : Port) (seq : Byte) (slot : Nat) (s : State) : Host.Outcome State Fault Refusal :=
  .next (s.answer .select p seq (selectReply (sourceOf p) slot s))

/-! ## BLADE_REPORT -/

/-- The installed blade pitch reported, and BLADE_MISMATCH judged (R38, R39). -/
def State.reportBlade (s : State) (pitch : Nat) : State := (s.setRecipes { s.recipes with pitch := pitch }).judgeBlade

/-- BLADE_REPORT as the Recipe Table answers it (R38). -/
def bladeReportReply (pitch : Nat) (s : State) : Reply :=
  if 300 < pitch then { state := s, result := .outOfRange, body := s.bladeBytes }
  else { state := s.reportBlade pitch, result := .ok, body := (s.reportBlade pitch).bladeBytes }

/-- BLADE_REPORT. -/
def execBladeReport (p : Port) (seq : Byte) (pitch : Nat) (s : State) : Host.Outcome State Fault Refusal :=
  .next (s.answer .bladeReport p seq (bladeReportReply pitch s))

end Sys2Proof.Machine
end

