-- ==== Sys2Proof/Machine/Schedule.lean ====
section
/-! DEFINITION. The meanings of the Run Schedule's requests (06). -/

namespace Sys2Proof.Machine

/-! ## What the responses carry -/

/-- The schedule state and the list count (R95, R97). -/
def State.scheduleStanding (s : State) : List Byte := u8 s.schedule.state.code ++ u8 s.schedule.entries.length

/-- The id of the ACTIVE entry, or the mark that none is ACTIVE (R93, R94). -/
def State.activeIdBytes (s : State) : List Byte := optional 1 (s.activeEntry.map fun e => u8 e.id)

/-- An entry under its position in the list (R97). -/
def Entry.bytes (position : Nat) (e : Entry) : List Byte :=
  u8 position ++ u8 e.id ++ u8 e.slot.val ++ u16 e.target ++ u16 e.gap ++ yesNo e.stopAfter ++ u8 e.state.code ++ u16 e.admitted
    ++ u8 e.carried ++ u32 e.good ++ u32 e.diverted ++ u32 e.sizeDiverted ++ u32 e.sizeLost ++ u32 e.lost ++ u32 e.bagFail
    ++ u32 e.untied ++ u32 e.unconfirmed ++ u32 e.flushed ++ u32 e.unmeasured

/-- A SCHEDULE_READ's response (R97). -/
def State.scheduleView (s : State) (position : Nat) (e : Entry) : List Byte :=
  s.scheduleStanding ++ u8 s.schedule.idCounter ++ yesNo (s.held .scheduleGap)
    ++ optional 4 (s.schedule.gapRelease.map posBytes) ++ yesNo (s.held .scheduleStop) ++ e.bytes position

/-- The position from the head of the entry that holds an id. -/
def State.entryPosition (s : State) (id : Nat) : Nat := s.schedule.entries.findIdx fun e => decide (e.id = id)

/-! ## SCHEDULE_APPEND -/

/-- The id a new entry takes (R90). -/
def State.nextEntryId (s : State) : Nat := firstFree (s.schedule.entries.map Entry.id) 255 s.schedule.idCounter

/-- A new entry (R92). -/
def newEntry (id : Nat) (slot : Fin 16) (target gap : Nat) (stopAfter : Bool) : Entry :=
  { id := id, slot := slot, target := target, gap := gap, stopAfter := stopAfter, state := .pending, admitted := 0, carried := 0
    good := 0, bagFail := 0, untied := 0, unconfirmed := 0, lost := 0, flushed := 0, diverted := 0, sizeDiverted := 0
    sizeLost := 0, unmeasured := 0 }

/-- An entry joins the tail of the list and the id counter moves past its id (R90, R92). -/
def State.appendEntry (s : State) (e : Entry) : State :=
  s.setSchedule { s.schedule with entries := s.schedule.entries ++ [e], idCounter := after255 e.id }

/-- The capacity of the list (R89). -/
def scheduleCapacity : Nat := 12

/-- A refused append carries the list count alone (R92). -/
def appendRefused (result : ResultCode) (s : State) : Reply :=
  { state := s, result := result, body := u8 s.schedule.entries.length }

/-- A taken append (R92). -/
def State.takeAppend (s : State) (slot : Fin 16) (target gap : Nat) (stopAfter : Bool) : State :=
  s.appendEntry (newEntry s.nextEntryId slot target gap stopAfter)

/-- SCHEDULE_APPEND as the Run Schedule answers it (R92). -/
def scheduleAppendReply (slot target gap stopAfter : Nat) (s : State) : Reply :=
  match slotIndex? slot, yesNo? stopAfter with
  | some i, some stop =>
    if target < 1 ∨ 65535 < target ∨ 60000 < gap then appendRefused .outOfRange s
    else if scheduleCapacity ≤ s.schedule.entries.length then appendRefused .listFull s
    else if !(s.slot i).state.inUse then appendRefused .slotState s
    else
      { state := s.takeAppend i target gap stop, result := .ok
        body := u8 s.nextEntryId ++ u8 (s.takeAppend i target gap stop).schedule.entries.length }
  | _, _ => appendRefused .outOfRange s

/-- SCHEDULE_APPEND. -/
def execScheduleAppend (p : Port) (seq : Byte) (slot target gap stopAfter : Nat) (s : State) :
    Host.Outcome State Fault Refusal :=
  .next (s.answer .scheduleAppend p seq (scheduleAppendReply slot target gap stopAfter s))

/-! ## SCHEDULE_START -/

/-- A START taken in IDLE with a PENDING entry (R93). -/
def State.startSchedule (s : State) (e : Entry) : State :=
  ((((s.updateEntry e.id fun x => { x with state := .active }).setScheduleState .active).releaseHold
    .scheduleStop).writeSelection e.slot .schedule)

/-- The state after a SCHEDULE_START, and its result (R93). -/
def State.takeStart (s : State) : State × ResultCode :=
  match s.schedule.state with
  | .idle =>
    match s.firstPending with
    | some e => (s.startSchedule e, .ok)
    | none => (s, .scheduleState)
  | .active => (s, .ok)
  | .suspended => (s, .scheduleState)

/-- SCHEDULE_START as the Run Schedule answers it (R93). -/
def scheduleStartReply (s : State) : Reply :=
  { state := s.takeStart.1, result := s.takeStart.2
    body := u8 s.takeStart.1.schedule.state.code ++ s.takeStart.1.activeIdBytes }

/-- SCHEDULE_START. -/
def execScheduleStart (p : Port) (seq : Byte) (s : State) : Host.Outcome State Fault Refusal :=
  .next (s.answer .scheduleStart p seq (scheduleStartReply s))

/-! ## SCHEDULE_RESUME -/

/-- A RESUME taken in SUSPENDED (R94). -/
def State.resumeSuspended (s : State) : State :=
  let t := (s.setScheduleState .active).releaseHold .scheduleStop
  match t.activeEntry with
  | some e => t.writeSelection e.slot .schedule
  | none => t

/-- The state after a SCHEDULE_RESUME (R94). -/
def State.takeResume (s : State) : State :=
  match s.schedule.state with
  | .suspended => s.resumeSuspended
  | .idle => s.releaseHold .scheduleStop
  | .active => s

/-- SCHEDULE_RESUME as the Run Schedule answers it (R94). -/
def scheduleResumeReply (s : State) : Reply :=
  { state := s.takeResume, result := .ok
    body := u8 s.takeResume.schedule.state.code ++ s.takeResume.activeIdBytes ++ yesNo (s.takeResume.held .scheduleStop) }

/-- SCHEDULE_RESUME. -/
def execScheduleResume (p : Port) (seq : Byte) (s : State) : Host.Outcome State Fault Refusal :=
  .next (s.answer .scheduleResume p seq (scheduleResumeReply s))

/-! ## SCHEDULE_CANCEL -/

/-- The entry that holds an id taken out of the list (R89). -/
def State.removeEntry (s : State) (id : Nat) : State :=
  s.setSchedule { s.schedule with entries := s.schedule.entries.filter fun e => decide (e.id ≠ id) }

/-- The entry as SCHEDULE_READ returns it, after a cancel (R95): the entry's own bytes, without the schedule's standing that SCHEDULE_READ
puts before them (log 10). -/
def State.cancelledView (s : State) (id : Nat) : List Byte :=
  match s.entry? id with
  | some e => e.bytes (s.entryPosition id)
  | none => s.scheduleStanding

/-- SCHEDULE_CANCEL of an entry in the list (R95). -/
def scheduleCancelEntry (e : Entry) (s : State) : Reply :=
  match e.state with
  | .pending => { state := s.removeEntry e.id, result := .ok, body := (s.removeEntry e.id).scheduleStanding }
  | .active => { state := s.fillByCancel e, result := .ok, body := (s.fillByCancel e).cancelledView e.id }
  | .filled => { state := s, result := .scheduleState, body := s.scheduleStanding }
  | .closed => { state := s, result := .scheduleState, body := s.scheduleStanding }

/-- SCHEDULE_CANCEL as the Run Schedule answers it (R95). -/
def scheduleCancelReply (id : Nat) (s : State) : Reply :=
  if !isTag id then { state := s, result := .outOfRange, body := s.scheduleStanding }
  else
    match s.entry? id with
    | none => { state := s, result := .notFound, body := s.scheduleStanding }
    | some e => scheduleCancelEntry e s

/-- SCHEDULE_CANCEL. -/
def execScheduleCancel (p : Port) (seq : Byte) (id : Nat) (s : State) : Host.Outcome State Fault Refusal :=
  .next (s.answer .scheduleCancel p seq (scheduleCancelReply id s))

/-! ## SCHEDULE_REAP -/

/-- The list without the CLOSED entries at its head (R96). -/
def reaped (entries : List Entry) : List Entry := entries.dropWhile fun e => decide (e.state = .closed)

/-- A taken SCHEDULE_REAP (R96). -/
def State.reap (s : State) : State := s.setSchedule { s.schedule with entries := reaped s.schedule.entries }

/-- SCHEDULE_REAP as the Run Schedule answers it (R96). -/
def scheduleReapReply (s : State) : Reply :=
  { state := s.reap, result := .ok
    body := u8 (s.schedule.entries.length - s.reap.schedule.entries.length) ++ u8 s.reap.schedule.entries.length }

/-- SCHEDULE_REAP. -/
def execScheduleReap (p : Port) (seq : Byte) (s : State) : Host.Outcome State Fault Refusal :=
  .next (s.answer .scheduleReap p seq (scheduleReapReply s))

/-! ## SCHEDULE_READ -/

/-- A SCHEDULE_READ by id (R97). -/
def scheduleReadId (id : Nat) (s : State) : Reply :=
  if !isTag id then { state := s, result := .outOfRange, body := s.scheduleStanding }
  else
    match s.entry? id with
    | none => { state := s, result := .notFound, body := s.scheduleStanding }
    | some e => { state := s, result := .ok, body := s.scheduleView (s.entryPosition id) e }

/-- A SCHEDULE_READ by position (R97). -/
def scheduleReadPosition (position : Nat) (s : State) : Reply :=
  if 11 < position then { state := s, result := .outOfRange, body := s.scheduleStanding }
  else
    match s.schedule.entries[position]? with
    | none => { state := s, result := .notFound, body := s.scheduleStanding }
    | some e => { state := s, result := .ok, body := s.scheduleView position e }

/-- SCHEDULE_READ as the Run Schedule answers it (R97); another selector is no choice (log 13). -/
def scheduleReadReply (selector value : Nat) (s : State) : Reply :=
  match selector with
  | 0 => scheduleReadId value s
  | 1 => scheduleReadPosition value s
  | _ => { state := s, result := .outOfRange, body := s.scheduleStanding }

/-- SCHEDULE_READ. -/
def execScheduleRead (p : Port) (seq : Byte) (selector value : Nat) (s : State) : Host.Outcome State Fault Refusal :=
  .next (s.answer .scheduleRead p seq (scheduleReadReply selector value s))

end Sys2Proof.Machine
end

