-- ==== Sys2Proof/Machine/StoreOps.lean ====
section
/-! DEFINITION. The Totals Store's shared operations (10.3): the choice of the current bank, the mount, the write in progress, and
the pages of a shift record (10.4). -/

namespace Sys2Proof.Machine

/-! ## Banks -/

/-- The sequence number after n: 4294967295 is followed by 1 (R160). -/
def nextSeq (n : Nat) : Nat := if n < countLimit then n + 1 else 1

/-- A bank's sequence number while its state word is valid. -/
def Bank.validSeq (x : Bank) : Option Nat := if x.stateWord then some x.seq else none

/-- A bank erased (R162, R165): no records and an invalid state word. Its sequence number, of which the rules say nothing, stays as it
stands: the model's choice (log 18). -/
def Bank.erase (x : Bank) : Bank := { x with records := [], stateWord := false }

/-- The current bank of two (R160). -/
def currentOf (a b : Bank) : Option BankId :=
  match a.validSeq, b.validSeq with
  | none, none => none
  | some _, none => some .a
  | none, some _ => some .b
  | some m, some n =>
    if m = n then some .a
    else if m = nextSeq n then some .a
    else if n = nextSeq m then some .b
    else if n < m then some .a else some .b

/-- The store after a mount (R161). -/
def TotalsStore.mounted (t : TotalsStore) : TotalsStore :=
  { t with
    current := currentOf t.bankA t.bankB
    state := match currentOf t.bankA t.bankB with
      | none => .empty
      | some _ => .ready
    write := none }

/-- The other bank. -/
def otherBank : BankId → BankId
  | .a => .b
  | .b => .a

/-- The records of the current bank, if there is one. -/
def TotalsStore.currentRecords (t : TotalsStore) : List ShiftRecord :=
  match t.current with
  | some i => (t.bank i).records
  | none => []

/-- The sequence number of the current bank, if there is one. -/
def TotalsStore.currentSeq (t : TotalsStore) : Option Nat :=
  match t.current with
  | some i => some (t.bank i).seq
  | none => none

/-! ## A store write -/

/-- The newest n of a list. -/
def newest (n : Nat) (rs : List ShiftRecord) : List ShiftRecord := rs.drop (rs.length - n)

/-- The records to program (R162). -/
def TotalsStore.chosen (t : TotalsStore) (buffer : ShiftRecord) : List ShiftRecord :=
  newest 5 (t.currentRecords.filter fun r => decide (r.number ≠ buffer.number)) ++ [buffer]

/-- The target bank (R162). -/
def TotalsStore.target (t : TotalsStore) : BankId :=
  match t.current with
  | some i => otherBank i
  | none => .a

/-- The new sequence number (R162). -/
def TotalsStore.newSeq (t : TotalsStore) : Nat :=
  match t.currentSeq with
  | some n => nextSeq n
  | none => 1

/-- A write of a closing buffer starts (R162). -/
def TotalsStore.startWrite (t : TotalsStore) (buffer : ShiftRecord) : TotalsStore :=
  { t with
    state := .writing
    write := some { target := t.target, step := .erase, attempt := 1, chosen := t.chosen buffer, newSeq := t.newSeq } }

/-! ## A shift record on the link -/

/-- The eleven shift-level counts, in the order of chapter 10's table (R166). -/
def ShiftRecord.countBytes (r : ShiftRecord) : List Byte :=
  u32 r.carriedIn ++ u32 r.created ++ u32 r.untracked ++ u32 r.strays ++ u32 r.runSeconds ++ u32 r.idleSeconds
    ++ u32 r.stoppedSeconds ++ u32 r.heldSeconds ++ u32 r.blasts0 ++ u32 r.blasts1 ++ u32 r.clipsUsed

/-- An entry as a page gives it, under its number (R166). Shortest and longest have a presence byte each: the model's choice (log 10). -/
def ProductEntry.bytes (number : Nat) (e : ProductEntry) : List Byte :=
  u8 number ++ u16 e.code ++ u32 e.good ++ u32 e.diverted ++ u32 e.lost ++ u32 e.bagFail ++ u32 e.untied ++ u32 e.unconfirmed
    ++ u32 e.flushed ++ u32 e.slices ++ u32 e.late ++ u32 e.blind ++ optional 2 (e.shortest.map u16)
    ++ optional 2 (e.longest.map u16)

/-- The entries in their numbering: the product entries, then OTHER (10.4). -/
def ShiftRecord.entries (r : ShiftRecord) : List ProductEntry := r.products ++ [r.other]

/-- The last page of a record: two entries to a page (10.4). -/
def ShiftRecord.lastPage (r : ShiftRecord) : Nat := (r.entries.length + 1) / 2

/-- The entries of a page of 1 or more: those numbered 2 * page - 1 and 2 * page (R166). -/
def ShiftRecord.pageBytes (r : ShiftRecord) (page : Nat) : List Byte :=
  (((r.entries.zipIdx 1).drop (2 * (page - 1))).take 2).flatMap fun x => x.1.bytes x.2

/-- The shift numbers of a list of records, as a list on the link (R167). -/
def numberList (rs : List ShiftRecord) : List Byte := listOf (rs.map fun r => u16 r.number)

/-- The largest page number (R166). -/
def pageLimit : Nat := 13

end Sys2Proof.Machine
end

