-- ==== Sys2Proof/Machine/Totals.lean ====
section
/-! DEFINITION. The meanings of the Totals Store's own steps and of the requests of chapter 10. -/

namespace Sys2Proof.Machine

/-! ## The steps of a store write -/

/-- The store replaced, with one bank changed and the write in progress moved on. -/
def State.stepWrite (s : State) (w : StoreWrite) (bank : Bank) (next : StoreWrite) : State :=
  s.setStore { s.store.setBank w.target bank with write := some next }

/-- The erase of the target bank ends (R162). -/
def State.storeEraseDone (s : State) : State :=
  match s.store.write with
  | some w => if w.step = .erase then s.stepWrite w (s.store.bank w.target).erase { w with step := .program } else s
  | none => s

/-- STORE_ERASE_DONE. With no erase under way there is no such event (log 2). -/
def execStoreEraseDone (s : State) : Host.Outcome State Fault Refusal := .next s.storeEraseDone

/-- The programming of the target bank ends (R162). -/
def State.storeProgramDone (s : State) : State :=
  match s.store.write with
  | some w =>
    if w.step = .program then
      s.stepWrite w { s.store.bank w.target with records := w.chosen } { w with step := .verify }
    else s
  | none => s

/-- STORE_PROGRAM_DONE. With no programming under way there is no such event (log 2). -/
def execStoreProgramDone (s : State) : Host.Outcome State Fault Refusal := .next s.storeProgramDone

/-- A verification that failed: attempt 2 on the same bank with the same records, or FAULTED with STORE_FAULT (R163). -/
def State.verifyFailed (s : State) (w : StoreWrite) : State :=
  if w.attempt = 1 then s.setStore { s.store with write := some { w with step := .erase, attempt := 2 } }
  else (s.setStore { s.store with state := .faulted, write := none }).notify .office .storeFault

/-- Verification ends (R162, R163). -/
def State.storeVerifyDone (s : State) (ok : Bool) : State :=
  match s.store.write with
  | some w =>
    if w.step = .verify then
      (if ok then s.setStore { s.store with write := some { w with step := .stateWord } } else s.verifyFailed w)
    else s
  | none => s

/-- STORE_VERIFY_DONE. With no verification under way there is no such event (log 2). -/
def execStoreVerifyDone (ok : Bool) (s : State) : Host.Outcome State Fault Refusal := .next (s.storeVerifyDone ok)

/-- The state word has been written: the target bank is current, the store READY, STORE_DONE (R162). -/
def State.storeStateWordDone (s : State) : State :=
  match s.store.write with
  | some w =>
    if w.step = .stateWord then
      (s.setStore
        { s.store.setBank w.target { s.store.bank w.target with seq := w.newSeq, stateWord := true } with
          current := some w.target, state := .ready, write := none }).notify .office .storeDone
    else s
  | none => s

/-- STORE_STATE_WORD_DONE. With no state word being written there is no such event (log 2). -/
def execStoreStateWordDone (s : State) : Host.Outcome State Fault Refusal := .next s.storeStateWordDone

/-! ## SHIFT_CLOSE -/

/-- The shift number after n: 65535 is followed by 1 (R158). -/
def nextShift (n : Nat) : Nat := if n < 65535 then n + 1 else 1

/-- Steps 1 and 2 of a taken SHIFT_CLOSE (R158): the closing buffer takes the open totals and the next shift opens. -/
def State.openNextShift (s : State) : State :=
  s.setTotals
    { openShift := .opened (nextShift s.totals.openShift.number) s.queueCount
      runMs := 0, idleMs := 0, stoppedMs := 0, heldMs := 0
      buffer := some s.totals.openShift }

/-- Step 3 of a taken SHIFT_CLOSE: the write of the closed shift, unless the store is FAULTED (R158). -/
def State.startStoreWrite (s : State) (closed : ShiftRecord) : State :=
  match s.store.state with
  | .empty => s.setStore (s.store.startWrite closed)
  | .ready => s.setStore (s.store.startWrite closed)
  | .writing => s
  | .faulted => s

/-- A taken SHIFT_CLOSE (R158). -/
def State.closeShift (s : State) : State :=
  (s.openNextShift.startStoreWrite s.totals.openShift).notify .office .shiftClosed

/-- SHIFT_CLOSE as the Totals Unit answers it (R158). -/
def shiftCloseReply (s : State) : Reply :=
  if s.store.state = .writing then { state := s, result := .storeBusy, body := [] }
  else
    { state := s.closeShift
      result := .ok
      body := u16 s.totals.openShift.number ++ u16 s.closeShift.totals.openShift.number
        ++ u32 s.closeShift.totals.openShift.carriedIn ++ u8 s.closeShift.store.state.code }

/-- SHIFT_CLOSE. -/
def execShiftClose (p : Port) (seq : Byte) (s : State) : Host.Outcome State Fault Refusal :=
  .next (s.answer .shiftClose p seq (shiftCloseReply s))

/-! ## STORE_FORMAT -/

/-- The store erased (R165). -/
def State.formatStore (s : State) : State :=
  s.setStore { bankA := s.store.bankA.erase, bankB := s.store.bankB.erase, current := none, state := .empty, write := none }

/-- STORE_FORMAT as the store answers it (R165). -/
def storeFormatReply (s : State) : Reply :=
  if s.store.state = .writing then { state := s, result := .storeBusy, body := u8 s.store.state.code }
  else { state := s.formatStore, result := .ok, body := u8 s.formatStore.store.state.code }

/-- STORE_FORMAT. -/
def execStoreFormat (p : Port) (seq : Byte) (s : State) : Host.Outcome State Fault Refusal :=
  .next (s.answer .storeFormat p seq (storeFormatReply s))

/-! ## TOTALS_READ -/

/-- The record a TOTALS_READ selector chooses: OPEN always stands, BUFFER may be absent (R166). -/
def State.selectedTotals (s : State) (selector : Nat) : Option ShiftRecord :=
  if selector = 0 then some s.totals.openShift else s.totals.buffer

/-- What page 0 adds: the counts, and for OPEN whether the buffer is present and its number (R166), which share one presence byte: the
model's choice (log 10). -/
def State.totalsHeader (s : State) (selector : Nat) (r : ShiftRecord) : List Byte :=
  r.countBytes ++ (if selector = 0 then optional 2 (s.totals.buffer.map fun b => u16 b.number) else [])

/-- A page of a TOTALS_READ (R166). -/
def State.totalsPage (s : State) (selector page : Nat) (r : ShiftRecord) : List Byte :=
  u8 selector ++ u8 page ++ u16 r.number ++ u8 r.products.length ++ u8 s.store.state.code
    ++ (if page = 0 then s.totalsHeader selector r else r.pageBytes page)

/-- TOTALS_READ as the Totals Unit answers it (R166). -/
def totalsReadReply (selector page : Nat) (s : State) : Reply :=
  if 1 < selector ∨ pageLimit < page then { state := s, result := .outOfRange, body := [] }
  else
    match s.selectedTotals selector with
    | none => { state := s, result := .notFound, body := [] }
    | some r =>
      if r.lastPage < page then { state := s, result := .notFound, body := [] }
      else { state := s, result := .ok, body := s.totalsPage selector page r }

/-- TOTALS_READ. -/
def execTotalsRead (p : Port) (seq : Byte) (selector page : Nat) (s : State) : Host.Outcome State Fault Refusal :=
  .next (s.answer .totalsRead p seq (totalsReadReply selector page s))

/-! ## STORE_READ -/

/-- What a refused STORE_READ carries: the store state and the shift numbers held by the current bank, or the mark that there is no
current bank (R167). The mark is a presence byte of 0, and the absent list is sent as one zero byte (log 10). -/
def State.storeListing (s : State) : List Byte :=
  u8 s.store.state.code ++ optional 1 (s.store.current.map fun _ => numberList s.store.currentRecords)

/-- What page 0 of a STORE_READ carries (R167). -/
def State.storeHeader (s : State) (r : ShiftRecord) : List Byte :=
  r.countBytes ++ u8 r.products.length ++ u8 (bankCode s.store.current) ++ u32 (s.store.currentSeq.getD 0)
    ++ u8 s.store.state.code ++ numberList s.store.currentRecords

/-- STORE_READ as the store answers it (R167). -/
def storeReadReply (shift page : Nat) (s : State) : Reply :=
  if shift < 1 ∨ 65535 < shift ∨ pageLimit < page then { state := s, result := .outOfRange, body := s.storeListing }
  else
    match s.store.currentRecords.find? fun r => decide (r.number = shift) with
    | none => { state := s, result := .notFound, body := s.storeListing }
    | some r =>
      if r.lastPage < page then { state := s, result := .notFound, body := s.storeListing }
      else { state := s, result := .ok, body := if page = 0 then s.storeHeader r else r.pageBytes page }

/-- STORE_READ. -/
def execStoreRead (p : Port) (seq : Byte) (shift page : Nat) (s : State) : Host.Outcome State Fault Refusal :=
  .next (s.answer .storeRead p seq (storeReadReply shift page s))

end Sys2Proof.Machine
end

