-- ==== Sys2Proof/Machine/Frames.lean ====
section
/-! DEFINITION. The bytes of a request transaction (11.1, 11.2): the judgement of a frame, the handing of a taken one to its block, and
the meaning of FRAME_REFUSED. -/

namespace Sys2Proof.Machine

/-! ## The values of a body -/

/-- The value of one byte at a place of a body (R170). -/
def at8 (b : List Byte) (i : Nat) : Nat := (b.getD i 0).toNat

/-- The value of two bytes from a place of a body (R170). -/
def at16 (b : List Byte) (i : Nat) : Nat := read16 (b.getD i 0) (b.getD (i + 1) 0)

/-- The value of four bytes from a place of a body (R170). -/
def at32 (b : List Byte) (i : Nat) : Nat := at16 b i * 65536 + at16 b (i + 2)

/-- A 16-bit set from a place of a body (11.7). -/
def set16At (b : List Byte) (i : Nat) : Set16 := BitVec.ofNat 16 (at16 b i)

/-- The seven-byte area of a CHAIN_WRITE's body (11.7). -/
def areaAt (b : List Byte) (i : Nat) : Vector Byte 7 := Vector.ofFn fun k : Fin 7 => b.getD (i + k.val) 0

/-- What the owning block makes of a taken request frame: its kind, its port and its body (R171). -/
def replyTo (k : RequestKind) (p : Port) (b : List Byte) (s : State) : Reply :=
  match k with
  | .statusRead => statusReadReply s
  | .lineStart => lineStartReply s
  | .lineStop => lineStopReply s
  | .lineReset => lineResetReply s
  | .lineConfig => lineConfigReply { pitch := at16 b 0, offset := at8 b 2, filterTime := at8 b 3, idleTime := at16 b 4 } s
  | .holdSet => holdSetReply p (at8 b 0) s
  | .holdRelease => holdReleaseReply p (at8 b 0) s
  | .chainWrite => chainWriteReply (at8 b 0) (at8 b 1) (at32 b 2) (at8 b 6) (areaAt b 7) s
  | .chainHead => chainHeadReply (at8 b 0) s
  | .chainRead => chainReadReply (at8 b 0) s
  | .recipeLoad =>
    recipeLoadReply (at8 b 0)
      { code := at16 b 1, thickness := at8 b 3, heel := at16 b 4, minLen := at16 b 6, maxLen := at16 b 8, shortMax := at16 b 10
        regularMax := at16 b 12, crumb := at8 b 14, shelf := at8 b 15 } s
  | .recipeRetire => recipeRetireReply (at8 b 0) s
  | .recipeRead => recipeReadReply (at8 b 0) s
  | .select => selectReply (sourceOf p) (at8 b 0) s
  | .bladeReport => bladeReportReply (at16 b 0) s
  | .markDivert => markDivertReply (at8 b 0) s
  | .trackRead => trackReadReply (at8 b 0) (at8 b 1) s
  | .scheduleAppend => scheduleAppendReply (at8 b 0) (at16 b 1) (at16 b 3) (at8 b 5) s
  | .scheduleStart => scheduleStartReply s
  | .scheduleResume => scheduleResumeReply s
  | .scheduleCancel => scheduleCancelReply (at8 b 0) s
  | .scheduleReap => scheduleReapReply s
  | .scheduleRead => scheduleReadReply (at8 b 0) (at8 b 1) s
  | .bagNext => bagNextReply s
  | .bagResult => bagResultReply (at8 b 0) (at8 b 1) s
  | .dateSet => dateSetReply (at16 b 0) (at8 b 2) (at8 b 3) (at8 b 4) s
  | .colourTable => colourTableReply #v[at8 b 0, at8 b 1, at8 b 2, at8 b 3, at8 b 4, at8 b 5, at8 b 6] s
  | .clipReload => clipReloadReply (at16 b 0) s
  | .clipConfig => clipConfigReply (at16 b 0) (at16 b 2) s
  | .tyerReset => tyerResetReply s
  | .crumbConfig => crumbConfigReply (at8 b 0) (at16 b 1) (at16 b 3) s
  | .crumbClear => crumbClearReply (at8 b 0) s
  | .crumbRead => crumbReadReply s
  | .shiftClose => shiftCloseReply s
  | .storeFormat => storeFormatReply s
  | .totalsRead => totalsReadReply (at8 b 0) (at8 b 1) s
  | .storeRead => storeReadReply (at16 b 0) (at8 b 2) s
  | .noticeRead => noticeReadReply p s
  | .noticeAck => noticeAckReply p (set16At b 0) s
  | .noticeMask => noticeMaskReply p (set16At b 0) s

/-! ## The judgement of a frame -/

/-- What R169 and R171 make of the bytes of a transaction received so far. -/
inductive FrameJudgement where
  /-- No whole byte: nothing has begun (R169). -/
  | noFrame
  /-- A first byte of 0: a fetch (R169). -/
  | fetch
  /-- The frame goes on; the bytes are kept (R171). -/
  | receiving
  /-- The frame is refused with a result (R171). -/
  | refused (result : ResultCode)
  /-- The frame is complete and taken (R171). -/
  | taken (k : RequestKind)
  deriving DecidableEq, Repr

/-- The largest length byte (R171). -/
def frameLengthLimit : Nat := 60

/-- A frame complete with its body judged: kind, permission, length, in this order (R171). -/
def judgeComplete (p : Port) (kind length : Nat) : FrameJudgement :=
  match requestKind? kind with
  | none => .refused .badKind
  | some k =>
    if !k.permitted p then .refused .notPermitted
    else if k.bodyLength ≠ length then .refused .badLength
    else .taken k

/-- The judgement of the bytes of a transaction while select is low (R169, R171). -/
def judgeFrame (p : Port) (bytes : List Byte) : FrameJudgement :=
  match bytes with
  | [] => .noFrame
  | kind :: rest =>
    if kind = 0 then .fetch
    else
      match rest with
      | _ :: length :: body =>
        if frameLengthLimit < length.toNat then .refused .badLength
        else if body.length < length.toNat then .receiving
        else judgeComplete p kind.toNat length.toNat
      | _ => .receiving

/-- The bytes a port has received of the transaction in progress (R171). -/
def FrameState.received : FrameState → List Byte
  | .idle => []
  | .receiving bytes => bytes

/-- The bytes of a port's transaction with those that arrive now. -/
def State.frameBytes (s : State) (p : Port) (bytes : List Byte) : List Byte := (s.port p).frame.received ++ bytes

/-- A port at the judgement of a frame with select still low: what is clocked until it rises is ignored (R171). -/
def PortState.judgedLow (x : PortState) (r : Response) (n : Nat) : PortState := { x.answered r n with link := .judged }

/-- The response to a taken request, as the block's reply gives it (R171, R172). -/
def takenResponse (k : RequestKind) (seq : Byte) (r : Reply) : Response :=
  { kind := BitVec.ofNat 8 k.code, seq := seq, result := BitVec.ofNat 8 r.result.code, body := r.body }

/-- A taken frame handed to its block and answered within the same event (R171). -/
def State.takeFrame (s : State) (p : Port) (k : RequestKind) (frame : List Byte) : State :=
  let r := replyTo k p ((frame.drop 3).take k.bodyLength) s
  r.state.setPort p ((r.state.port p).judgedLow (takenResponse k (frame.getD 1 0) r) frame.length)

/-- The bytes of a transaction, those that arrive now included, at a port that listens (R169, R171, R172). -/
def State.judgeFrame (s : State) (p : Port) (frame : List Byte) : State :=
  match Machine.judgeFrame p frame with
  | .noFrame => s
  | .fetch => s.setPort p ((s.port p).fetching frame)
  | .receiving => s.setPort p { s.port p with frame := .receiving frame, dataOut := filler frame.length }
  | .refused result => s.setPort p ((s.port p).judgedLow (refusal frame result) frame.length)
  | .taken k => s.takeFrame p k frame

/-- Bytes that arrive at a port while its select is low (R171, R178): received, or ignored since a judgement (the filler is driven still,
R169), or ignored since a port reset (log 26; what is driven then is not recorded, log 9). -/
def State.receiveBytes (s : State) (p : Port) (bytes : List Byte) : State :=
  match (s.port p).link with
  | .listening => s.judgeFrame p (s.frameBytes p bytes)
  | .judged => s.setPort p { s.port p with dataOut := (s.port p).dataOut ++ filler bytes.length }
  | .wasReset => s

/-- The rise of select at a port (R169). -/
def State.releaseSelect (s : State) (p : Port) : State := s.setPort p (s.port p).released

/-- FRAME_REFUSED (R171): bytes of a transaction arrive on a port, and select then rises if `released`. What the bytes are decides, be it a
refusal, a part of a frame, a whole frame or a fetch (log 8). -/
def execFrameRefused (p : Port) (bytes : List Byte) (released : Bool) (s : State) : Host.Outcome State Fault Refusal :=
  .next (if released then (s.receiveBytes p bytes).releaseSelect p else s.receiveBytes p bytes)

end Sys2Proof.Machine
end

