-- ==== Sys2Proof/Machine/Inputs.lean ====
section
/-! DEFINITION. The meanings of the reset input, the encoder, the eyes and the speed sampler (01, R143, R161). -/

namespace Sys2Proof.Machine

/-! ## POWER_ON_RESET -/

/-- The Position Unit at power-on, with the encoder lines and the eyes sampled as they stand (R1, R13). -/
def PositionUnit.atPowerOn (lines : Quad) (eyes : EyeLevels) : PositionUnit :=
  { State.reset.pos with
    lines := lines
    filters := ⟨.sampled eyes.e0, .sampled eyes.e1, .sampled eyes.e2, .sampled eyes.e3, .sampled eyes.e4⟩ }

/-- The part after a power-on reset: every block at its power-on state, the banks kept and the store mounted (R143, R161). The waiting
commands and the counter of choices are the model's own and stay (log 22). -/
def State.powerOn (s : State) (lines : Quad) (eyes : EyeLevels) : State :=
  { State.reset with
    pending := s.pending
    choices := s.choices
    pos := .atPowerOn lines eyes
    store := s.store.mounted }

/-- POWER_ON_RESET. -/
def execPowerOnReset (lines : Quad) (eyes : EyeLevels) (s : State) : Host.Outcome State Fault Refusal :=
  .next (s.powerOn lines eyes)

/-! ## ENCODER_STEP -/

/-- The new state of the lines becomes the reference, in every case (R1). -/
def State.takeLines (s : State) (q : Quad) : State := s.setPos { s.pos with lines := q }

/-- The encoder lines take a state (R1, R3): a forward step, a reverse step, a double change, or no change. -/
def State.encoder (s : State) (q : Quad) : State :=
  if q = nextQuad s.pos.lines then (s.takeLines q).stepForward
  else if s.pos.lines = nextQuad q then (s.takeLines q).stepReverse
  else s.takeLines q

/-- ENCODER_STEP. -/
def execEncoderStep (lines : Quad) (s : State) : Host.Outcome State Fault Refusal := .next (s.encoder lines)

/-! ## The eyes -/

/-- An eye's raw level changes (R9): a pending change is opened, and accepted at once for a filter time of 0, or dropped. A level that
stands already is no change (log 2). -/
def State.rawLevel (s : State) (e : Eye) (l : Level) : State :=
  if (s.pos.filters.get e).raw = l then s
  else
    match (s.pos.filters.get e).change with
    | some _ => s.setFilter e { s.pos.filters.get e with change := none }
    | none =>
      if s.pos.config.filterTime = 0 then s.acceptEdge e l s.openChange
      else s.setFilter e { s.pos.filters.get e with change := some s.openChange }

/-- EYE_RAW_LEVEL_CHANGE. -/
def execEyeRawLevelChange (e : Eye) (l : Level) (s : State) : Host.Outcome State Fault Refusal := .next (s.rawLevel e l)

/-- An eye's pending change has persisted for its filter time (R10). -/
def State.filterExpiry (s : State) (e : Eye) : State :=
  match (s.pos.filters.get e).change with
  | some c => (s.reach c.expiry).acceptEdge e (otherLevel (s.pos.filters.get e).accepted) c
  | none => s

/-- EYE_FILTER_EXPIRY. With no pending change there is no such event (log 2). -/
def execEyeFilterExpiry (e : Eye) (s : State) : Host.Outcome State Fault Refusal := .next (s.filterExpiry e)

/-! ## SPEED_SAMPLER_EXPIRY -/

/-- The 4 ms period expires (R6, R7), and the start of blasts is judged (R135). -/
def State.sampleSpeed (s : State) : State :=
  ((s.reach s.pos.nextSample).setPos s.pos.sample).judgeBlasts

/-- SPEED_SAMPLER_EXPIRY. -/
def execSpeedSamplerExpiry (s : State) : Host.Outcome State Fault Refusal := .next s.sampleSpeed

end Sys2Proof.Machine
end

