-- ==== Sys2Proof/Machine/Timers.lean ====
section
/-! DEFINITION. The meanings of the part's timers and of the tyer's done contact: pulse ends, the tie, blast ends, the idle timer and
the seconds accumulators. A timer's command says that its time is reached; with no such time standing there is no such event
(log 2). -/

namespace Sys2Proof.Machine

/-- The pulse end time of a gate (R76, R80). -/
def State.endGatePulse (s : State) (g : Gate) : State :=
  match s.queue.gate g with
  | .driven t => (s.reach t).setGate g .released
  | .released => s

/-- GATE_PULSE_END. -/
def execGatePulseEnd (g : Gate) (s : State) : Host.Outcome State Fault Refusal := .next (s.endGatePulse g)

/-- The pulse end time of the fire line (R122). -/
def State.endFirePulse (s : State) : State :=
  match s.bag.fireLine with
  | .driven t => (s.reach t).setBag { s.bag with fireLine := .released }
  | .released => s

/-- FIRE_PULSE_END. -/
def execFirePulseEnd (s : State) : Host.Outcome State Fault Refusal := .next s.endFirePulse

/-- A done (R123): in FIRING the tyer becomes READY, the tie in flight ends, and its record, if still in the queue, is TIED; in READY and
in FAULT it is ignored. -/
def State.tyerDone (s : State) : State :=
  match s.bag.tyer, s.bag.tieInFlight with
  | .firing, some f => (s.setBag { s.bag with tyer := .ready, tieInFlight := none }).endTie f .tied
  | _, _ => s

/-- TYER_DONE. -/
def execTyerDone (s : State) : Host.Outcome State Fault Refusal := .next s.tyerDone

/-- The tyer enters FAULT with the tie in flight ended (R124). -/
def BagClipUnit.timedOut (b : BagClipUnit) (f : TieInFlight) : BagClipUnit :=
  { b with tyer := .fault, tieInFlight := none, lastMiss := some (f.tag, .tyerFault) }

/-- The timeout expiry of the tie in flight (R124). -/
def State.tieTimeout (s : State) : State :=
  match s.bag.tyer, s.bag.tieInFlight with
  | .firing, some f =>
    ((((s.reach f.expiry).setBag (s.bag.timedOut f)).placeHold .tyerFault).notify .bagger .tyerFault).endTie f .missed
  | _, _ => s

/-- TIE_TIMEOUT_EXPIRY. -/
def execTieTimeoutExpiry (s : State) : Host.Outcome State Fault Refusal := .next s.tieTimeout

/-- A zone after its blast (R137): the load reduced with the bar's yield, at rest, the manual clear served. -/
def ZoneState.blasted (x : ZoneState) (yield : Nat) : ZoneState :=
  { x.rest with load := reducedLoad x.load yield, manualClear := false }

/-- The blast end time of a zone (R137): the reduction, the count, CRUMB_FULL (R132), the next start (R135). A zone blasts only while
its bar is in force (R129); for a state no run reaches, a yield of 0 stands in (log 21). -/
def State.endBlast (s : State) (z : Zone) : State :=
  match (s.zone z).blastEnd with
  | some t =>
    ((((s.reach t).setZone z ((s.zone z).blasted ((s.bar z).elim 0 Bar.yield))).countBlast z).judgeFull z).judgeBlast z
  | none => s

/-- BLAST_END. -/
def execBlastEnd (z : Zone) (s : State) : Host.Outcome State Fault Refusal := .next (s.endBlast z)

/-- The line becomes IDLE (R146): the timer stops, the permit is judged, LINE_IDLE is set, and purges are owed (R138). -/
def State.enterIdle (s : State) : State := ((s.setLineState .idle none).notify .slicer .lineIdle).enterIdlePurge

/-- The idle timer's expiry while RUNNING (R146). -/
def State.idleExpired (s : State) : State :=
  match s.line.state, s.line.idleTimer with
  | .running, some t => (s.reach t).enterIdle
  | _, _ => s

/-- IDLE_TIMER_EXPIRY. -/
def execIdleTimerExpiry (s : State) : Host.Outcome State Fault Refusal := .next s.idleExpired

/-- An accumulator that time passes into reaches 1000 ms (R156; log 4). -/
def State.fillAccumulator (s : State) (a : TimeCount) : State :=
  if s.feeds a then s.elapse (1000 - s.totals.accumulator a) else s

/-- SECONDS_ACCUMULATOR_FULL. -/
def execSecondsAccumulatorFull (a : TimeCount) (s : State) : Host.Outcome State Fault Refusal := .next (s.fillAccumulator a)

end Sys2Proof.Machine
end

