-- ==== Sys2Proof/Machine/Dispatch.lean ====
section
/-! DEFINITION. exec: each command's meaning, one arm per constructor of Instr. -/

namespace Sys2Proof.Machine

def exec (i : Instr) (s : State) : Host.Outcome State Fault Refusal :=
  match i with
  | .powerOnReset lines eyes => Sys2Proof.Machine.execPowerOnReset lines eyes s
  | .encoderStep lines => Sys2Proof.Machine.execEncoderStep lines s
  | .eyeRawLevelChange e l => Sys2Proof.Machine.execEyeRawLevelChange e l s
  | .eyeFilterExpiry e => Sys2Proof.Machine.execEyeFilterExpiry e s
  | .speedSamplerExpiry => Sys2Proof.Machine.execSpeedSamplerExpiry s
  | .gatePulseEnd g => Sys2Proof.Machine.execGatePulseEnd g s
  | .firePulseEnd => Sys2Proof.Machine.execFirePulseEnd s
  | .tyerDone => Sys2Proof.Machine.execTyerDone s
  | .tieTimeoutExpiry => Sys2Proof.Machine.execTieTimeoutExpiry s
  | .blastEnd z => Sys2Proof.Machine.execBlastEnd z s
  | .idleTimerExpiry => Sys2Proof.Machine.execIdleTimerExpiry s
  | .secondsAccumulatorFull a => Sys2Proof.Machine.execSecondsAccumulatorFull a s
  | .storeEraseDone => Sys2Proof.Machine.execStoreEraseDone s
  | .storeProgramDone => Sys2Proof.Machine.execStoreProgramDone s
  | .storeVerifyDone ok => Sys2Proof.Machine.execStoreVerifyDone ok s
  | .storeStateWordDone => Sys2Proof.Machine.execStoreStateWordDone s
  | .portReset p => Sys2Proof.Machine.execPortReset p s
  | .frameRefused p bytes released => Sys2Proof.Machine.execFrameRefused p bytes released s
  | .fetch p clocked => Sys2Proof.Machine.execFetch p clocked s
  | .statusRead p seq => Sys2Proof.Machine.execStatusRead p seq s
  | .lineStart p seq => Sys2Proof.Machine.execLineStart p seq s
  | .lineStop p seq => Sys2Proof.Machine.execLineStop p seq s
  | .lineReset p seq => Sys2Proof.Machine.execLineReset p seq s
  | .lineConfig p seq pitch offset filterTime idleTime => Sys2Proof.Machine.execLineConfig p seq pitch offset filterTime idleTime s
  | .holdSet p seq reason => Sys2Proof.Machine.execHoldSet p seq reason s
  | .holdRelease p seq reason => Sys2Proof.Machine.execHoldRelease p seq reason s
  | .chainWrite p seq index kind distance nextIndex area => Sys2Proof.Machine.execChainWrite p seq index kind distance nextIndex area s
  | .chainHead p seq index => Sys2Proof.Machine.execChainHead p seq index s
  | .chainRead p seq index => Sys2Proof.Machine.execChainRead p seq index s
  | .recipeLoad p seq slot code thickness heel minLen maxLen shortMax regularMax crumb shelf => Sys2Proof.Machine.execRecipeLoad p seq slot code thickness heel minLen maxLen shortMax regularMax crumb shelf s
  | .recipeRetire p seq slot => Sys2Proof.Machine.execRecipeRetire p seq slot s
  | .recipeRead p seq slot => Sys2Proof.Machine.execRecipeRead p seq slot s
  | .select p seq slot => Sys2Proof.Machine.execSelect p seq slot s
  | .bladeReport p seq pitch => Sys2Proof.Machine.execBladeReport p seq pitch s
  | .markDivert p seq tag => Sys2Proof.Machine.execMarkDivert p seq tag s
  | .trackRead p seq selector value => Sys2Proof.Machine.execTrackRead p seq selector value s
  | .scheduleAppend p seq slot target gap stopAfter => Sys2Proof.Machine.execScheduleAppend p seq slot target gap stopAfter s
  | .scheduleStart p seq => Sys2Proof.Machine.execScheduleStart p seq s
  | .scheduleResume p seq => Sys2Proof.Machine.execScheduleResume p seq s
  | .scheduleCancel p seq id => Sys2Proof.Machine.execScheduleCancel p seq id s
  | .scheduleReap p seq => Sys2Proof.Machine.execScheduleReap p seq s
  | .scheduleRead p seq selector value => Sys2Proof.Machine.execScheduleRead p seq selector value s
  | .bagNext p seq => Sys2Proof.Machine.execBagNext p seq s
  | .bagResult p seq tag result => Sys2Proof.Machine.execBagResult p seq tag result s
  | .dateSet p seq day yearDigit weekday leap => Sys2Proof.Machine.execDateSet p seq day yearDigit weekday leap s
  | .colourTable p seq c0 c1 c2 c3 c4 c5 c6 => Sys2Proof.Machine.execColourTable p seq c0 c1 c2 c3 c4 c5 c6 s
  | .clipReload p seq count => Sys2Proof.Machine.execClipReload p seq count s
  | .clipConfig p seq threshold timeout => Sys2Proof.Machine.execClipConfig p seq threshold timeout s
  | .tyerReset p seq => Sys2Proof.Machine.execTyerReset p seq s
  | .crumbConfig p seq zone soft hard => Sys2Proof.Machine.execCrumbConfig p seq zone soft hard s
  | .crumbClear p seq zone => Sys2Proof.Machine.execCrumbClear p seq zone s
  | .crumbRead p seq => Sys2Proof.Machine.execCrumbRead p seq s
  | .shiftClose p seq => Sys2Proof.Machine.execShiftClose p seq s
  | .storeFormat p seq => Sys2Proof.Machine.execStoreFormat p seq s
  | .totalsRead p seq selector page => Sys2Proof.Machine.execTotalsRead p seq selector page s
  | .storeRead p seq shift page => Sys2Proof.Machine.execStoreRead p seq shift page s
  | .noticeRead p seq => Sys2Proof.Machine.execNoticeRead p seq s
  | .noticeAck p seq kinds => Sys2Proof.Machine.execNoticeAck p seq kinds s
  | .noticeMask p seq kinds => Sys2Proof.Machine.execNoticeMask p seq kinds s

end Sys2Proof.Machine
end

