-- ==== Sys2Proof/Safety.lean ====
section
/-! DEFINITION. What claims about the part are stated with: which parts of the state a command may touch, what a response carries, and
what holds in every state a run reaches. -/

namespace Sys2Proof.Machine

/-! ## Frames -/

/-- The fields of State, by name. -/
inductive Part where
  | pending | now | choices | pos | chain | recipes | queue | schedule | bag | crumb | line | totals | store | ports
  deriving DecidableEq, Repr

/-- Two states agree in a field. -/
def SamePart (s t : State) : Part → Prop
  | .pending => t.pending = s.pending
  | .now => t.now = s.now
  | .choices => t.choices = s.choices
  | .pos => t.pos = s.pos
  | .chain => t.chain = s.chain
  | .recipes => t.recipes = s.recipes
  | .queue => t.queue = s.queue
  | .schedule => t.schedule = s.schedule
  | .bag => t.bag = s.bag
  | .crumb => t.crumb = s.crumb
  | .line => t.line = s.line
  | .totals => t.totals = s.totals
  | .store => t.store = s.store
  | .ports => t.ports = s.ports

/-- From s to t nothing outside the listed fields changes. -/
def OnlyTouches (ps : List Part) (s t : State) : Prop := ∀ x : Part, x ∉ ps → SamePart s t x

/-- What an event of the queue may touch: everything but the waiting commands, the clock, the choices, the Position Unit, the chain and
the store. -/
def queueParts : List Part := [.queue, .totals, .schedule, .recipes, .bag, .crumb, .line, .ports]

/-! ## Responses -/

/-- In t the response slot of port p holds the answer to a request of kind k, the port's frame state is IDLE (R171, R172), and it has
driven the filler 0 for each byte of the request's frame (R169). -/
def Answers (t : State) (p : Port) (k : RequestKind) (seq : Byte) (result : ResultCode) (body : List Byte) : Prop :=
  (t.port p).response =
      some { kind := BitVec.ofNat 8 k.code, seq := seq, result := BitVec.ofNat 8 result.code, body := body }
    ∧ (t.port p).frame = .idle ∧ (t.port p).dataOut = List.replicate (3 + k.bodyLength) 0

/-- s with a request frame of n bytes refused at port p by its bytes: the response echoes kind and sequence and carries an empty body, the
frame state is IDLE, the filler has been driven, and what follows is ignored until select rises (R169, R171). -/
def State.refusedFrame (s : State) (p : Port) (kind seq : Byte) (result : ResultCode) (n : Nat) (released : Bool) : State :=
  s.setPort p { s.port p with
    frame := .idle
    link := if released then .listening else .judged
    response := some { kind := kind, seq := seq, result := BitVec.ofNat 8 result.code, body := [] }
    dataOut := List.replicate n 0 }

/-- A port's flags, mask and attention line are as they were. -/
def SameNotices (s t : State) (p : Port) : Prop :=
  (t.port p).flags = (s.port p).flags ∧ (t.port p).mask = (s.port p).mask ∧ (t.port p).attention = (s.port p).attention

/-- A notice flag of a port is set (R173). -/
def Noticed (t : State) (p : Port) (k : NoticeKind) : Prop :=
  ∃ i, noticePosition p k = some i ∧ (t.port p).flags.getLsbD i = true

/-! ## Words of the rules -/

/-- The raw speed of R6: the advance of H in the window, clamped to 0..4095, times 64. -/
def State.windowSpeed (s : State) : Nat :=
  let d := (s.pos.h - s.pos.windowStart).toInt
  if d < 0 then 0 else if 4095 < d then 262080 else 64 * d.toNat

/-- Whether a descriptor is the crumb bar of a zone. -/
def Descriptor.isBarOf (z : Zone) (d : Descriptor) : Bool := (d.asBar z).isSome

/-- A list of records with the one that holds a tag replaced. -/
def replaced (tag : Nat) (r : LoafRecord) (rs : List LoafRecord) : List LoafRecord := rs.map fun x => if x.tag = tag then r else x

/-- A list of records without the one that holds a tag. -/
def without (tag : Nat) (rs : List LoafRecord) : List LoafRecord := rs.filter fun x => decide (x.tag ≠ tag)

/-- The outcome with which a record leaves when H comes to h: DIVERTED at or past its reject-gate position (R76), by R81 at or past its
exit-gate position (R80), LOST beyond its loss deadline (R72); none while nothing is due. -/
def State.outcomeAt (s : State) (h : Pos) (r : LoafRecord) : Option LeaveOutcome :=
  match r.stage, r.gateFire with
  | .diverting, some g => if (g - h).toInt ≤ 0 then some .diverted else none
  | .exiting, some g => if (g - h).toInt ≤ 0 then some r.exitOutcome else none
  | .diverting, none => none
  | .exiting, none => none
  | _, _ =>
    match r.stage.awaited.bind s.eyeStation with
    | some e => if 0 < (h - (r.reference + BitVec.ofNat 32 (e.distance + e.tolerance))).toInt then some .lost else none
    | none => none

/-- From e to x a leave is counted in a product entry: the count of its outcome, LATE and BLIND by their flags, and for a GOOD leave of a
planned record slices, shortest and longest; a count stays at 4,294,967,295 (R153, R154). -/
def ProductEntry.Counts (e x : ProductEntry) (r : LoafRecord) (o : LeaveOutcome) : Prop :=
  let up := fun (b : Bool) (n : Nat) => if b then min (n + 1) 4294967295 else n
  x.code = e.code
    ∧ x.good = up (o = .good) e.good ∧ x.diverted = up (o = .diverted) e.diverted ∧ x.lost = up (o = .lost) e.lost
    ∧ x.bagFail = up (o = .bagFail) e.bagFail ∧ x.untied = up (o = .untied) e.untied
    ∧ x.unconfirmed = up (o = .unconfirmed) e.unconfirmed ∧ x.flushed = up (o = .flushed) e.flushed
    ∧ x.late = up r.late e.late ∧ x.blind = up r.blind e.blind
    ∧ (∀ pl, o = .good → r.plan = some pl →
        x.slices = min (e.slices + pl.n) 4294967295 ∧ x.shortest = some (min (e.shortest.getD pl.lt) pl.lt)
          ∧ x.longest = some (max (e.longest.getD pl.lt) pl.lt))
    ∧ (o ≠ .good ∨ r.plan = none → x.slices = e.slices ∧ x.shortest = e.shortest ∧ x.longest = e.longest)

/-- From u to t a charge c joined the load of zone z, and no other, and CRUMB_FULL was judged; an unfitted zone discards it (R130, R132). -/
def Charged (u t : State) (z : Zone) (c : Nat) : Prop :=
  (∀ w, w ≠ z → (t.zone w).load = (u.zone w).load) ∧ ((u.zone z).fitted = false → t.zone z = u.zone z)
    ∧ ((u.zone z).fitted = true →
      (t.zone z).load = min ((u.zone z).load + c) 65535
        ∧ ((u.zone z).hard ≤ (t.zone z).load → t.held (fullReason z) = true)
        ∧ ((t.zone z).load < (u.zone z).hard → (t.zone z).load < (u.zone z).soft → t.held (fullReason z) = false)
        ∧ ((t.zone z).load < (u.zone z).hard → (u.zone z).soft ≤ (t.zone z).load →
            t.held (fullReason z) = u.held (fullReason z)))

/-- From s to t a chain edit unfitted the zones: a fitted one is emptied, put to rest and its CRUMB_FULL released, one that was not is as it
was, and the thresholds stay (R129). Nothing else of the line changes, but that the permit may fall with the hold set. -/
def UnfittedByEdit (s t : State) : Prop :=
  (∀ z, (t.zone z).fitted = false ∧ (t.zone z).soft = (s.zone z).soft ∧ (t.zone z).hard = (s.zone z).hard)
    ∧ (∀ z, (s.zone z).fitted = true →
        (t.zone z).load = 0 ∧ (t.zone z).blastEnd = none ∧ (t.zone z).valve = .released ∧ (t.zone z).manualClear = false
          ∧ (t.zone z).purgeOwed = false ∧ t.held (fullReason z) = false)
    ∧ (∀ z, (s.zone z).fitted = false → t.zone z = s.zone z ∧ t.held (fullReason z) = s.held (fullReason z))
    ∧ (∀ r : HoldReason, (∀ z, r ≠ fullReason z) → t.held r = s.held r)
    ∧ t.line.state = s.line.state ∧ t.line.idleTimer = s.line.idleTimer
    ∧ (s.line.state = .stopped → t.line.permit = .driven → s.line.permit = .driven)

/-- From s to t a changeover to slot i was taken: the slot is ACTIVE with its product, no selection is pending, CHANGEOVER_TAKEN is set on
the slicer and office ports, NO_PRODUCT has left the hold set and BLADE_MISMATCH is judged against the slot (R35, R36, R39, R40). -/
def ChangedOver (s t : State) (i : Fin 16) : Prop :=
  (t.slot i).state = .active ∧ (t.slot i).product = (s.slot i).product ∧ t.recipes.selection = none
    ∧ Noticed t .slicer .changeoverTaken ∧ Noticed t .office .changeoverTaken ∧ t.held .noProduct = false
    ∧ ∀ q, (s.slot i).product = some q →
        (t.held .bladeMismatch = true ↔ q.thickness > s.recipes.pitch + 2 ∨ s.recipes.pitch > q.thickness + 2)

/-- From s to t the Run Schedule wrote slot i to the pending selection (R37): a LOADED slot is pending under it, or changed over to at once
when none was ACTIVE (R35); the ACTIVE slot clears the selection; a master whose selection is displaced is told (R33). -/
def ScheduleWrote (s t : State) (i : Fin 16) : Prop :=
  ((s.slot i).state = .active → t.recipes = { s.recipes with selection := none })
    ∧ ((s.slot i).state = .loaded → s.activeSlot ≠ none → t.recipes = { s.recipes with selection := some ⟨i, .schedule⟩ })
    ∧ ((s.slot i).state = .loaded → s.activeSlot = none →
        ChangedOver s t i ∧ (∀ j, j ≠ i → t.slot j = s.slot j) ∧ t.recipes.pitch = s.recipes.pitch)
    ∧ ((s.slot i).state = .loaded ∨ (s.slot i).state = .active →
        (Noticed t .slicer .selectSuperseded ↔
            Noticed s .slicer .selectSuperseded ∨ ∃ x, s.recipes.selection = some x ∧ x.source = .slicer)
          ∧ (Noticed t .office .selectSuperseded ↔
            Noticed s .office .selectSuperseded ∨ ∃ x, s.recipes.selection = some x ∧ x.source = .office))

/-- An event from s to t judged the start of a blast in each zone (R135): a fitted RESTING zone starts one for its bar's blast time exactly
when one is wanted and the zone was clear (R136); every other zone stays as it was. `dropped` says that the purges owed were dropped at the
event (R138), `clear` which zones were clear when judged; what the event does to the loads stands elsewhere. -/
def BlastsJudgedWhere (s t : State) (dropped : Bool) (clear : Zone → Prop) : Prop :=
  ∀ z,
    let kept : ZoneState := { s.zone z with load := (t.zone z).load, purgeOwed := (s.zone z).purgeOwed && !dropped }
    let wanted := kept.soft ≤ kept.load ∨ kept.manualClear = true ∨ kept.purgeOwed = true
    (∀ b, t.bar z = some b → kept.fitted = true → kept.blastEnd = none → wanted → clear z →
        t.zone z = { kept with blastEnd := some (t.now + b.blastTime), valve := .driven, purgeOwed := false })
      ∧ (t.bar z = none ∨ kept.fitted = false ∨ kept.blastEnd ≠ none ∨ ¬wanted ∨ ¬clear z → t.zone z = kept)

/-- The zones are judged on where the loaves are after the event. -/
def BlastsJudged (s t : State) (dropped : Bool) : Prop := BlastsJudgedWhere s t dropped fun z => t.occupant z = none

/-- No charge and no reduction: both loads are as they were. -/
def SameLoads (s t : State) : Prop := ∀ z, (t.zone z).load = (s.zone z).load

/-- No zone changes, but that the purges owed are dropped where the event takes the line out of IDLE (R138). -/
def ZonesKept (s t : State) (dropped : Bool) : Prop :=
  ∀ z, t.zone z = { s.zone z with purgeOwed := (s.zone z).purgeOwed && !dropped }

/-! ## Views on the link -/

/-- A descriptor place: kind, distance, next index and the seven-byte area of 11.7; ABSENT is kind 0 with zeros (log 10). -/
def placeValues : Option Descriptor → List Byte
  | none => List.replicate 13 0
  | some d =>
    let common := fun kind => u8 kind ++ u32 d.distance ++ u8 d.next
    match d.station with
    | .eyeSliced t => common 1 ++ u16 t ++ [0, 0, 0, 0, 0]
    | .gateReject l pulse => common 2 ++ u8 l ++ u16 pulse ++ [0, 0, 0, 0]
    | .crumbBar z w b y => common 3 ++ u8 (match z with | .z0 => 0 | .z1 => 1) ++ u16 w ++ u16 b ++ u16 y
    | .eyeBag t => common 4 ++ u16 t ++ [0, 0, 0, 0, 0]
    | .eyeClip t offset neck l => common 5 ++ u16 t ++ u16 offset ++ u16 neck ++ u8 l
    | .eyeExit t => common 6 ++ u16 t ++ [0, 0, 0, 0, 0]
    | .gateExit l pulse => common 7 ++ u8 l ++ u16 pulse ++ [0, 0, 0, 0]

/-- The tyer view, in the order of R126's list; each optional value behind its presence byte, zeros while absent (R172, log 10). -/
def State.tyerValues (s : State) : List Byte :=
  u8 s.bag.tyer.code
    ++ (match s.bag.tieInFlight with | some f => u8 1 ++ u8 f.tag | none => [0, 0])
    ++ u16 s.bag.magazine ++ u16 s.bag.lowThreshold ++ u16 s.bag.tieTimeout
    ++ (match s.bag.lastMiss with | some (tag, cause) => u8 1 ++ u8 tag ++ u8 cause.code | none => [0, 0, 0])
    ++ u8 s.bag.pendingTies.length
    ++ (match s.bag.pendingTies with | x :: _ => u8 1 ++ u8 x.tag ++ u32 x.position.toNat | [] => [0, 0, 0, 0, 0, 0])
    ++ yesNo (s.held .clipEmpty) ++ yesNo (s.held .tyerFault)

/-- The zone view, in the order of R140's list (layout: log 10; B of an unfitted zone: log 12). -/
def State.zoneValues (s : State) (z : Zone) : List Byte :=
  let bar := if (s.zone z).fitted then s.bar z else none
  (match bar with
    | some b => u8 1 ++ u32 b.distance ++ u16 b.halfSpan ++ u16 b.blastTime ++ u16 b.yield
    | none => List.replicate 11 0)
    ++ u16 (s.zone z).load ++ u16 (s.zone z).soft ++ u16 (s.zone z).hard
    ++ (match (s.zone z).blastEnd with | some d => u8 1 ++ u8 1 ++ u16 (d - s.now) | none => [0, 0, 0, 0])
    ++ yesNo (s.zone z).manualClear ++ yesNo (s.zone z).purgeOwed ++ yesNo (s.held (fullReason z))
    ++ u32 (match bar with | some b => roundNat (s.pos.v * b.blastTime) 256 | none => 0)
    ++ (match s.occupant z with | some r => u8 1 ++ u8 1 ++ u8 r.tag | none => [0, 0, 0])

/-- A slot, in the order of R32's list (layout: log 10). -/
def State.slotValues (s : State) (i : Fin 16) : List Byte :=
  u8 (s.slot i).state.code ++ u8 (s.slot i).inFlight
    ++ (match (s.slot i).product with
      | some q =>
        u8 1 ++ u16 q.code ++ u8 q.thickness ++ u16 q.heel ++ u16 q.minLen ++ u16 q.maxLen ++ u16 q.shortMax ++ u16 q.regularMax
          ++ u8 q.crumb ++ u8 q.shelf
      | none => List.replicate 16 0)
    ++ (match s.recipes.selection with
      | some x => if x.slot = i then u8 1 ++ u8 x.source.code else [0, 0]
      | none => [0, 0])
    ++ u16 s.recipes.pitch ++ yesNo (s.held .bladeMismatch)

/-- An entry under its position, in the order of R97's last two points (layout: log 10). -/
def Entry.values (position : Nat) (e : Entry) : List Byte :=
  u8 position ++ u8 e.id ++ u8 e.slot.val ++ u16 e.target ++ u16 e.gap ++ yesNo e.stopAfter ++ u8 e.state.code
    ++ u16 e.admitted ++ u8 e.carried ++ u32 e.good ++ u32 e.diverted ++ u32 e.sizeDiverted ++ u32 e.sizeLost ++ u32 e.lost
    ++ u32 e.bagFail ++ u32 e.untied ++ u32 e.unconfirmed ++ u32 e.flushed ++ u32 e.unmeasured

/-- The schedule's standing and an entry, in the order of R97's list (layout: log 10). -/
def State.scheduleValues (s : State) (position : Nat) (e : Entry) : List Byte :=
  u8 s.schedule.state.code ++ u8 s.schedule.entries.length ++ u8 s.schedule.idCounter ++ yesNo (s.held .scheduleGap)
    ++ (match s.schedule.gapRelease with | some w => u8 1 ++ u32 w.toNat | none => [0, 0, 0, 0, 0])
    ++ yesNo (s.held .scheduleStop) ++ e.values position

/-- The loaf view of 11.7, byte by byte. -/
def LoafRecord.values (r : LoafRecord) (count position : Nat) : List Byte :=
  let bit := fun (b : Bool) (n : Nat) => if b then n else 0
  let place := fun w : Option Pos => match w with | some q => u32 q.toNat | none => [0, 0, 0, 0]
  u8 count ++ u8 position ++ u8 r.tag ++ u8 r.slot.val ++ u8 (match r.entry with | some id => id | none => 0)
    ++ u16 r.day ++ u8 r.weekday ++ u32 r.reference.toNat ++ u8 r.stage.code
    ++ u8 (bit r.plan.isSome 1 + bit r.lastMatch.isSome 2 + bit r.gateFire.isSome 4 + bit r.tieFire.isSome 8
      + bit r.result.isSome 16)
    ++ (match r.plan with
      | some x => u16 x.lc ++ u16 x.lt ++ u8 x.n ++ u8 x.bagClass ++ u16 x.crumb
      | none => [0, 0, 0, 0, 0, 0, 0, 0])
    ++ u8 (bit r.reasons.undersize 1 + bit r.reasons.oversize 2 + bit r.reasons.blade 4 + bit r.reasons.marked 8)
    ++ u8 (bit r.late 1 + bit r.blind 2) ++ place r.lastMatch ++ place r.gateFire ++ place r.tieFire ++ yesNo r.fetched
    ++ u8 (match r.result with | some .fail => 1 | _ => 0) ++ u8 r.tie.code

/-- A product entry under its number, in the order of R166 (presence bytes: log 10). -/
def ProductEntry.values (number : Nat) (e : ProductEntry) : List Byte :=
  let length := fun w : Option Nat => match w with | some n => u8 1 ++ u16 n | none => [0, 0, 0]
  u8 number ++ u16 e.code ++ u32 e.good ++ u32 e.diverted ++ u32 e.lost ++ u32 e.bagFail ++ u32 e.untied ++ u32 e.unconfirmed
    ++ u32 e.flushed ++ u32 e.slices ++ u32 e.late ++ u32 e.blind ++ length e.shortest ++ length e.longest

/-- The shift-level counts in the order of chapter 10's table. -/
def ShiftRecord.countValues (r : ShiftRecord) : List Byte :=
  u32 r.carriedIn ++ u32 r.created ++ u32 r.untracked ++ u32 r.strays ++ u32 r.runSeconds ++ u32 r.idleSeconds
    ++ u32 r.stoppedSeconds ++ u32 r.heldSeconds ++ u32 r.blasts0 ++ u32 r.blasts1 ++ u32 r.clipsUsed

/-- The entries numbered 2 * page - 1 and 2 * page, where they stand: the product entries from 1 on, OTHER after the last (R166). -/
def ShiftRecord.pageValues (r : ShiftRecord) (page : Nat) : List Byte :=
  let numbered := fun n => match (r.products ++ [r.other])[n - 1]? with | some e => e.values n | none => []
  numbered (2 * page - 1) ++ numbered (2 * page)

/-- The shift numbers of the current bank, oldest first, as a list (R167, 11.7). -/
def State.listedNumbers (s : State) : List Byte :=
  match s.store.current with
  | some i => u8 (s.store.bank i).records.length ++ (s.store.bank i).records.flatMap fun r => u16 r.number
  | none => u8 0

/-! ## The chain as a list -/

/-- From place i the links lead through the descriptors ds to place j (R22). -/
def StationChain.Leads (c : StationChain) : Nat → List Descriptor → Nat → Prop
  | i, [], j => i = j
  | i, d :: ds, j => c.place i = some d ∧ c.Leads d.next ds j

/-- The distance of the descriptor visited last; E0 stands at 0 (R22). -/
def lastDistance (ds : List Descriptor) : Nat := (ds.getLast?.map Descriptor.distance).getD 0

/-- The kinds of a list in order, the crumb bars left out, as codes of 11.7. -/
def kindsInOrder (ds : List Descriptor) : List Nat := (ds.map fun d => d.station.code).filter fun k => decide (k ≠ 3)

/-- The descriptors of a walk may stand in this order (R22, R23): distances rise from E0 on; the kinds are E1, reject gate, E2, E3, E4, exit
gate, as far as the list goes; bars only before E4, and no zone's twice. -/
def Admissible (ds : List Descriptor) : Prop :=
  (0 :: ds.map Descriptor.distance).Pairwise (· < ·) ∧ kindsInOrder ds <+: [1, 2, 4, 5, 6, 7]
    ∧ (∀ z, ds.countP (Descriptor.isBarOf z) ≤ 1)
    ∧ ds.Pairwise fun d e => d.station.code = 6 → e.station.code ≠ 3

/-! ## What every step keeps -/

/-- The infeed permit is driven exactly when the line is RUNNING or IDLE and the hold set is empty (R150); a port's attention line is
asserted exactly while an unmasked flag is set (R174); a valve is DRIVEN exactly while its zone is BLASTING (R128). -/
def OutputsFollow (s : State) : Prop :=
  (s.line.permit = .driven ↔ s.line.state ≠ .stopped ∧ s.line.holds = 0)
    ∧ (∀ p, (s.port p).attention = .asserted ↔ (s.port p).flags &&& ~~~(s.port p).mask ≠ 0)
    ∧ ∀ z, (s.zone z).valve = .driven ↔ (s.zone z).blastEnd ≠ none

/-- A port's flags and mask name only kinds the port has (R175, R176). -/
def NoticesNameKinds (s : State) : Prop :=
  ∀ p, (s.port p).flags &&& ~~~(noticePositions p) = 0 ∧ (s.port p).mask &&& ~~~(noticePositions p) = 0

/-- What is clocked after a judgement or a port reset finds no frame in progress (R171, R178); a transaction in progress holds the bytes
received, and one that is no fetch has had the filler driven for each of them (R169). -/
def LinkFollows (s : State) : Prop :=
  ∀ p, ((s.port p).link ≠ .listening → (s.port p).frame = .idle)
    ∧ ((s.port p).link = .judged → ∀ b ∈ (s.port p).dataOut, b = 0)
    ∧ ∀ bytes, (s.port p).frame = .receiving bytes →
      bytes ≠ [] ∧ (s.port p).dataOut.length = bytes.length ∧ (bytes.head? ≠ some 0 → ∀ b ∈ (s.port p).dataOut, b = 0)

/-- At most one slot is ACTIVE (R28), a pending selection names a LOADED slot (R33), and a slot holds a product unless it is EMPTY
(R27). -/
def RecipeLaw (s : State) : Prop :=
  (∀ i j, (s.slot i).state = .active → (s.slot j).state = .active → i = j)
    ∧ (∀ x, s.recipes.selection = some x → (s.slot x.slot).state = .loaded)
    ∧ ∀ i, (s.slot i).state = .empty ↔ (s.slot i).product = none

/-- CLIP_EMPTY stands exactly at a magazine count of 0 (R118), TYER_FAULT exactly while the tyer is FAULT, and FIRING exactly while a tie
is in flight (R124), NO_DATE exactly before the first DATE_SET (R114). -/
def TyerHoldsFollow (s : State) : Prop :=
  (s.held .clipEmpty = true ↔ s.bag.magazine = 0) ∧ (s.held .tyerFault = true ↔ s.bag.tyer = .fault)
    ∧ (s.bag.tyer = .firing ↔ s.bag.tieInFlight ≠ none) ∧ (s.held .noDate = true ↔ s.bag.dateSet = false)

/-- X is H − P as a signed difference, within its limit (R3, R4), and v is within its range (R7). -/
def PositionsAgree (s : State) : Prop :=
  ((s.pos.h - s.pos.p).toInt = (s.pos.x : Int)) ∧ s.pos.x ≤ 2147483647 ∧ s.pos.v ≤ 262080

/-- At most 48 records, no two with the same tag, every tag and the counter in 1..255 (R61, R64). -/
def TagsDistinct (s : State) : Prop :=
  (s.queue.records.map LoafRecord.tag).Nodup ∧ s.queue.records.length ≤ 48
    ∧ (∀ r ∈ s.queue.records, 1 ≤ r.tag ∧ r.tag ≤ 255) ∧ 1 ≤ s.queue.tagCounter ∧ s.queue.tagCounter ≤ 255

/-- The number of records that refer to a slot. -/
def State.references (s : State) (i : Fin 16) : Nat := s.queue.records.countP fun r => decide (r.slot = i)

/-- A slot's in-flight count is the number of records that refer to it (R31). -/
def InFlightCounts (s : State) : Prop := ∀ i : Fin 16, (s.slot i).inFlight = s.references i

/-- The leaves an entry counts by outcome. -/
def ProductEntry.leaves (e : ProductEntry) : Nat :=
  e.good + e.diverted + e.lost + e.bagFail + e.untied + e.unconfirmed + e.flushed

/-- The leaves a shift record counts: over its product entries and OTHER (R157). -/
def ShiftRecord.leaves (r : ShiftRecord) : Nat := (r.entries.map ProductEntry.leaves).sum

/-- A count of an entry that has reached its limit. -/
def ProductEntry.saturated (e : ProductEntry) : Prop :=
  e.good = countLimit ∨ e.diverted = countLimit ∨ e.lost = countLimit ∨ e.bagFail = countLimit ∨ e.untied = countLimit
    ∨ e.unconfirmed = countLimit ∨ e.flushed = countLimit

/-- A count of the balance that has reached its limit: created, or an outcome count (R157). -/
def ShiftRecord.saturated (r : ShiftRecord) : Prop := r.created = countLimit ∨ ∃ e ∈ r.entries, e.saturated

/-- Carried-in plus created is the records present plus the leaves, until a count has saturated; product codes are distinct (R157). -/
def ShiftBalances (s : State) : Prop :=
  (s.totals.openShift.products.map ProductEntry.code).Nodup
    ∧ (s.totals.openShift.saturated
      ∨ s.totals.openShift.carriedIn + s.totals.openShift.created = s.queueCount + s.totals.openShift.leaves)

/-- The idle timer runs exactly while the line is RUNNING (R146), and every accumulator holds less than a second (R156). -/
def TimersFollow (s : State) : Prop :=
  (s.line.idleTimer ≠ none ↔ s.line.state = .running) ∧ s.totals.runMs < 1000 ∧ s.totals.idleMs < 1000
    ∧ s.totals.stoppedMs < 1000 ∧ s.totals.heldMs < 1000

/-- What every bank holds: a sequence number in its range and at most six records (R160). -/
def Bank.inRange (x : Bank) : Prop := 1 ≤ x.seq ∧ x.seq ≤ 4294967295 ∧ x.records.length ≤ 6

/-- A write builds its records in a bank that is not current; they are at most six with distinct numbers, and stand in the bank once
it is programmed; the new sequence number is in its range (R160, R162). -/
def TotalsStore.writeLaw (t : TotalsStore) (w : StoreWrite) : Prop :=
  t.current ≠ some w.target ∧ w.chosen.length ≤ 6 ∧ (w.chosen.map ShiftRecord.number).Nodup
    ∧ (1 ≤ w.newSeq ∧ w.newSeq ≤ 4294967295)
    ∧ (w.step = .verify ∨ w.step = .stateWord → (t.bank w.target).records = w.chosen)

/-- A write is in progress exactly in WRITING and keeps its law; the current bank has a valid state word; every bank is in range, and one
with a valid state word holds no shift number twice (R160, R162). -/
def StoreLaw (s : State) : Prop :=
  (s.store.write ≠ none ↔ s.store.state = .writing) ∧ (∀ w, s.store.write = some w → s.store.writeLaw w)
    ∧ (∀ i, s.store.current = some i → (s.store.bank i).stateWord = true)
    ∧ (∀ i, (s.store.bank i).inRange)
    ∧ ∀ i, (s.store.bank i).stateWord = true → ((s.store.bank i).records.map ShiftRecord.number).Nodup

/-- An unfitted zone has load 0, rests, is owed nothing, and its CRUMB_FULL is absent (R128). -/
def UnfittedAtRest (s : State) : Prop :=
  ∀ z, (s.zone z).fitted = false →
    (s.zone z).load = 0 ∧ (s.zone z).blastEnd = none ∧ (s.zone z).manualClear = false ∧ (s.zone z).purgeOwed = false
      ∧ s.held (fullReason z) = false

end Sys2Proof.Machine
end

