-- ==== Sys2Proof/WellFormed.lean ====
section
/-! DEFINITION. Which commands can arrive: each value of a request body fits the bytes R170 gives it (one byte if its range lies
within 0..255, two if within 0..65535, four otherwise), a frame transaction moves something, and a fetch clocks a whole byte.
exec gives every command a meaning, the ill-formed ones too; this says only what the link can carry. -/

namespace Sys2Proof

/-- A value of one byte (R170). -/
def fits8 (n : Nat) : Bool := decide (n < 2 ^ 8)

/-- A value of two bytes (R170). -/
def fits16 (n : Nat) : Bool := decide (n < 2 ^ 16)

/-- A value of four bytes (R170). -/
def fits32 (n : Nat) : Bool := decide (n < 2 ^ 32)

/-- The commands that can arrive. -/
def Instr.wellFormed : Instr → Bool
  | .powerOnReset _ _ => true
  | .encoderStep _ => true
  | .eyeRawLevelChange _ _ => true
  | .eyeFilterExpiry _ => true
  | .speedSamplerExpiry => true
  | .gatePulseEnd _ => true
  | .firePulseEnd => true
  | .tyerDone => true
  | .tieTimeoutExpiry => true
  | .blastEnd _ => true
  | .idleTimerExpiry => true
  | .secondsAccumulatorFull _ => true
  | .storeEraseDone => true
  | .storeProgramDone => true
  | .storeVerifyDone _ => true
  | .storeStateWordDone => true
  | .portReset _ => true
  | .frameRefused _ bytes released => released || !bytes.isEmpty
  | .fetch _ clocked => decide (1 ≤ clocked)
  | .statusRead _ _ => true
  | .lineStart _ _ => true
  | .lineStop _ _ => true
  | .lineReset _ _ => true
  | .lineConfig _ _ pitch offset filterTime idleTime => fits16 pitch && fits8 offset && fits8 filterTime && fits16 idleTime
  | .holdSet _ _ reason => fits8 reason
  | .holdRelease _ _ reason => fits8 reason
  | .chainWrite _ _ index kind distance nextIndex _ => fits8 index && fits8 kind && fits32 distance && fits8 nextIndex
  | .chainHead _ _ index => fits8 index
  | .chainRead _ _ index => fits8 index
  | .recipeLoad _ _ slot code thickness heel minLen maxLen shortMax regularMax crumb shelf =>
      fits8 slot && fits16 code && fits8 thickness && fits16 heel && fits16 minLen && fits16 maxLen && fits16 shortMax
        && fits16 regularMax && fits8 crumb && fits8 shelf
  | .recipeRetire _ _ slot => fits8 slot
  | .recipeRead _ _ slot => fits8 slot
  | .select _ _ slot => fits8 slot
  | .bladeReport _ _ pitch => fits16 pitch
  | .markDivert _ _ tag => fits8 tag
  | .trackRead _ _ selector value => fits8 selector && fits8 value
  | .scheduleAppend _ _ slot target gap stopAfter => fits8 slot && fits16 target && fits16 gap && fits8 stopAfter
  | .scheduleStart _ _ => true
  | .scheduleResume _ _ => true
  | .scheduleCancel _ _ id => fits8 id
  | .scheduleReap _ _ => true
  | .scheduleRead _ _ selector value => fits8 selector && fits8 value
  | .bagNext _ _ => true
  | .bagResult _ _ tag result => fits8 tag && fits8 result
  | .dateSet _ _ day yearDigit weekday leap => fits16 day && fits8 yearDigit && fits8 weekday && fits8 leap
  | .colourTable _ _ c0 c1 c2 c3 c4 c5 c6 =>
      fits8 c0 && fits8 c1 && fits8 c2 && fits8 c3 && fits8 c4 && fits8 c5 && fits8 c6
  | .clipReload _ _ count => fits16 count
  | .clipConfig _ _ threshold timeout => fits16 threshold && fits16 timeout
  | .tyerReset _ _ => true
  | .crumbConfig _ _ zone soft hard => fits8 zone && fits16 soft && fits16 hard
  | .crumbClear _ _ zone => fits8 zone
  | .crumbRead _ _ => true
  | .shiftClose _ _ => true
  | .storeFormat _ _ => true
  | .totalsRead _ _ selector page => fits8 selector && fits8 page
  | .storeRead _ _ shift page => fits16 shift && fits8 page
  | .noticeRead _ _ => true
  | .noticeAck _ _ _ => true
  | .noticeMask _ _ _ => true

end Sys2Proof
end

