-- ==== Sys2Proof/Certificates/Slice0/Obligations.lean ====
section
/-! DEFINITION. The statements for the provers. -/

open Sys2Proof Sys2Proof.Machine

/-! ## The queue of commands -/

/-- O1. Step with a command at the front of the queue is exec of it on the state with the queue's rest. -/
def Obligations.StepRunsFrontCommand : Prop :=
  ∀ (c : Instr) (rest : List Instr) (s : State), s.pending = c :: rest → step s = exec c (s.setPending rest)

/-- O2. On an empty queue one millisecond passes and every deadline it reaches puts its command in the queue: the model's own clock (log 1,
DESIGN CHOICE). -/
def Obligations.EmptyQueuePassesAMillisecond : Prop :=
  ∀ s : State, s.pending = [] →
    ∃ t, step s = .next t ∧ t.now = s.now + 1 ∧ OnlyTouches [.pending, .now, .totals] s t
      ∧ (.idleTimerExpiry ∈ t.pending ↔ ∃ d, s.line.idleTimer = some d ∧ d ≤ s.now + 1)
      ∧ (.speedSamplerExpiry ∈ t.pending ↔ s.pos.nextSample ≤ s.now + 1)
      ∧ (.firePulseEnd ∈ t.pending ↔ ∃ d, s.bag.fireLine = .driven d ∧ d ≤ s.now + 1)
      ∧ (.tieTimeoutExpiry ∈ t.pending ↔ ∃ f, s.bag.tieInFlight = some f ∧ f.expiry ≤ s.now + 1)
      ∧ (∀ z, .blastEnd z ∈ t.pending ↔ ∃ d, (s.zone z).blastEnd = some d ∧ d ≤ s.now + 1)
      ∧ (∀ g, .gatePulseEnd g ∈ t.pending ↔ ∃ d, s.queue.gate g = .driven d ∧ d ≤ s.now + 1)
      ∧ ∀ e, .eyeFilterExpiry e ∈ t.pending ↔ ∃ c, (s.pos.filters.get e).change = some c ∧ c.expiry ≤ s.now + 1

/-- O3. Every command completes, in every state. That the waiting commands stay as they are, over a power-on reset too, is the model's
choice (logs 22 and 23). -/
def Obligations.EveryCommandCompletes : Prop :=
  ∀ (c : Instr) (s : State), ∃ t, exec c s = .next t ∧ t.pending = s.pending

/-! ## Reset -/

/-- O4. The values the rules give for power-on, in State.reset: the counts of the open shift and of OTHER, the colour table, the last miss
and the tie in flight, the speed window and the four accumulators among them (R6, R116, R126, R143, R153, R156, R178). The banks of
State.reset, which no rule gives, are not among them (log 6). -/
def Obligations.ResetValues : Prop :=
  State.reset.line = { state := .stopped, idleTimer := none, holds := 0x0228#16, permit := .released }
    ∧ State.reset.pos.p = 0 ∧ State.reset.pos.h = 0 ∧ State.reset.pos.x = 0 ∧ State.reset.pos.v = 0
    ∧ State.reset.pos.windowStart = 0 ∧ State.reset.pos.nextSample = State.reset.now + 4
    ∧ State.reset.pos.config = { pitch := 100, offset := 0, filterTime := 2, idleTime := 120 }
    ∧ (∀ e, (State.reset.pos.filters.get e).change = none)
    ∧ State.reset.chain = { places := Vector.replicate 8 none, head := 0, state := .unvalidated, lastFailure := none }
    ∧ (∀ i, State.reset.slot i = { state := .empty, product := none, inFlight := 0 })
    ∧ State.reset.recipes.selection = none ∧ State.reset.recipes.pitch = 0
    ∧ State.reset.queue = { records := [], tagCounter := 1, rejectGate := .released, exitGate := .released }
    ∧ State.reset.schedule = { entries := [], state := .idle, idCounter := 1, gapRelease := none }
    ∧ State.reset.bag =
        { date := { day := 1, yearDigit := 0, weekday := 0, leap := false }, dateSet := false, colours := #v[0, 0, 0, 0, 0, 0, 0]
          magazine := 0, lowThreshold := 200, tieTimeout := 150, pendingTies := [], tyer := .ready, tieInFlight := none
          fireLine := .released, lastMiss := none }
    ∧ (∀ z, State.reset.zone z =
        { fitted := false, load := 0, soft := 20000, hard := 40000, blastEnd := none, manualClear := false, purgeOwed := false
          valve := .released })
    ∧ State.reset.totals =
        { openShift :=
            { number := 1, carriedIn := 0, created := 0, untracked := 0, strays := 0, runSeconds := 0, idleSeconds := 0
              stoppedSeconds := 0, heldSeconds := 0, blasts0 := 0, blasts1 := 0, clipsUsed := 0, products := []
              other :=
                { code := 65535, good := 0, diverted := 0, lost := 0, bagFail := 0, untied := 0, unconfirmed := 0, flushed := 0
                  slices := 0, late := 0, blind := 0, shortest := none, longest := none } }
          runMs := 0, idleMs := 0, stoppedMs := 0, heldMs := 0, buffer := none }
    ∧ ∀ p, (State.reset.port p).frame = .idle ∧ (State.reset.port p).response = none ∧ (State.reset.port p).flags = 0
        ∧ (State.reset.port p).mask = 0 ∧ (State.reset.port p).attention = .released

/-- O5. A power-on reset returns every block to its power-on state with the lines and eyes as sampled, keeps the banks, and mounts the
store: the current bank is the one with a valid state word, of two the one whose sequence number follows, else the greater, and of equals
bank A (R160, R161). The waiting commands and the count of choices stay: the model's choice (log 22). -/
def Obligations.PowerOnResetsAndMounts : Prop :=
  ∀ (lines : Quad) (eyes : EyeLevels) (s : State), ∃ t, exec (.powerOnReset lines eyes) s = .next t
    ∧ t.pending = s.pending ∧ t.choices = s.choices
    ∧ OnlyTouches [.pending, .choices, .pos, .store] State.reset t
    ∧ t.pos = { State.reset.pos with
        lines := lines
        filters := ⟨⟨eyes.e0, none⟩, ⟨eyes.e1, none⟩, ⟨eyes.e2, none⟩, ⟨eyes.e3, none⟩, ⟨eyes.e4, none⟩⟩ }
    ∧ t.store.bankA = s.store.bankA ∧ t.store.bankB = s.store.bankB ∧ t.store.write = none
    ∧ (s.store.bankA.validSeq = none → s.store.bankB.validSeq = none → t.store.current = none ∧ t.store.state = .empty)
    ∧ (s.store.bankA.validSeq ≠ none → s.store.bankB.validSeq = none → t.store.current = some .a ∧ t.store.state = .ready)
    ∧ (s.store.bankA.validSeq = none → s.store.bankB.validSeq ≠ none → t.store.current = some .b ∧ t.store.state = .ready)
    ∧ ∀ m n, s.store.bankA.validSeq = some m → s.store.bankB.validSeq = some n →
        t.store.state = .ready
          ∧ t.store.current =
            (if m = n then some .a
             else if m = (if n < 4294967295 then n + 1 else 1) then some .a
             else if n = (if m < 4294967295 then m + 1 else 1) then some .b
             else if n < m then some .a else some .b)

/-! ## The Position Unit -/

/-- O6. The table of R3, and the rest of the rule: X is H − P whatever step is taken, power-on sets H and X to 0, and a line reset and a
port reset leave them. A double change, and a state the lines have already, yields no step and becomes the reference (R1). -/
def Obligations.EncoderStepFollowsR3 : Prop :=
  ((∀ (s : State) (q : Quad), q = nextQuad s.pos.lines → s.pos.x = 0 →
      ∃ t, exec (.encoderStep q) s = .next t ∧ t.pos = { s.pos with lines := q, p := s.pos.p + 1, h := s.pos.p + 1 })
    ∧ (∀ (s : State) (q : Quad), q = nextQuad s.pos.lines → 0 < s.pos.x →
      exec (.encoderStep q) s = .next (s.setPos { s.pos with lines := q, p := s.pos.p + 1, x := s.pos.x - 1 }))
    ∧ (∀ (s : State) (q : Quad), nextQuad q = s.pos.lines → s.pos.x < 2147483647 →
      exec (.encoderStep q) s = .next (s.setPos { s.pos with lines := q, p := s.pos.p - 1, x := s.pos.x + 1 }))
    ∧ (∀ (s : State) (q : Quad), nextQuad q = s.pos.lines → s.pos.x = 2147483647 →
      ∃ t, exec (.encoderStep q) s = .next t ∧ t.pos = { s.pos with lines := q, p := s.pos.p - 1, h := s.pos.h - 1 })
    ∧ (∀ (s t : State) (q : Quad), (s.pos.h - s.pos.p).toInt = (s.pos.x : Int) → s.pos.x ≤ 2147483647 →
      exec (.encoderStep q) s = .next t → (t.pos.h - t.pos.p).toInt = (t.pos.x : Int) ∧ t.pos.x ≤ 2147483647)
    ∧ (∀ (s : State) (lines : Quad) (eyes : EyeLevels),
      ∃ t, exec (.powerOnReset lines eyes) s = .next t ∧ t.pos.h = 0 ∧ t.pos.x = 0)
    ∧ (∀ (s : State) (p : Port) (seq : Byte),
      ∃ t, exec (.lineReset p seq) s = .next t ∧ t.pos.h = s.pos.h ∧ t.pos.x = s.pos.x)
    ∧ ∀ (s : State) (p : Port), ∃ t, exec (.portReset p) s = .next t ∧ t.pos.h = s.pos.h ∧ t.pos.x = s.pos.x)
    ∧ (∀ (s : State) (q : Quad), q ≠ nextQuad s.pos.lines → nextQuad q ≠ s.pos.lines →
    exec (.encoderStep q) s = .next (s.setPos { s.pos with lines := q }))

/-- O7. A sampler expiry forms the raw speed, moves v by the rounded quarter of the difference, always between the old v and raw, and starts
the next window; besides it only time passes and the start of blasts is judged: a zone where none starts stays as it was (R6, R7, R135,
R136). -/
def Obligations.SpeedSamplerFiltersSpeed : Prop :=
  ∀ s : State, ∃ t, exec .speedSamplerExpiry s = .next t
    ∧ OnlyTouches [.now, .pos, .totals, .crumb] s t ∧ BlastsJudged s t false ∧ SameLoads s t
    ∧ t.pos = { s.pos with
        v := ((s.pos.v : Int) + roundInt ((s.windowSpeed : Int) - (s.pos.v : Int)) 4).toNat
        windowStart := s.pos.h
        nextSample := s.pos.nextSample + 4 }
    ∧ (s.pos.v ≤ s.windowSpeed → s.pos.v ≤ t.pos.v ∧ t.pos.v ≤ s.windowSpeed)
    ∧ (s.windowSpeed ≤ s.pos.v → s.windowSpeed ≤ t.pos.v ∧ t.pos.v ≤ s.pos.v)

/-- O8. The eye filters. A raw level change opens a pending change, or drops the one that stands; with a filter time of 0 the new level is
accepted at once (R9). A pending change that has persisted is accepted: the accepted level alternates, and an edge captured behind H is
discarded: it reaches no record and counts nothing (R10, R11). A raw level change at a filter time of 0 does what the filter's expiry does
where that change, captured at P, stands pending with its time come: so what the statements of an eye's edge say of EYE_FILTER_EXPIRY, they
say of EYE_RAW_LEVEL_CHANGE (LeadingEdgeFollowsR65, TrailingEdgePlansTheLoaf, DownstreamEdgesFollowR70, MatchesAtE1AndE2, MatchesAtE3AndE4,
AdmissionAndFill). -/
def Obligations.EyeFiltersFollowTheRules : Prop :=
  ((∀ (s : State) (e : Eye) (l : Level) (f : EyeFilter), s.pos.filters.get e = f → f.change = none → l ≠ f.accepted →
      s.pos.config.filterTime ≠ 0 →
      exec (.eyeRawLevelChange e l) s = .next (s.setPos { s.pos with
        filters := s.pos.filters.set e { f with
          change := some { captured := s.pos.p, atH := decide (s.pos.x = 0), filterTime := s.pos.config.filterTime
                           expiry := s.now + s.pos.config.filterTime } } }))
    ∧ (∀ (s : State) (e : Eye) (l : Level) (f : EyeFilter), s.pos.filters.get e = f → f.change ≠ none → l = f.accepted →
      exec (.eyeRawLevelChange e l) s = .next (s.setPos { s.pos with filters := s.pos.filters.set e { f with change := none } }))
    ∧ ∀ (s : State) (e : Eye) (l : Level) (f : EyeFilter), s.pos.filters.get e = f → f.change = none → l ≠ f.accepted →
      s.pos.config.filterTime = 0 →
      ∃ t, exec (.eyeRawLevelChange e l) s = .next t ∧ OnlyTouches (.pos :: queueParts) s t
        ∧ t.pos = { s.pos with filters := s.pos.filters.set e { accepted := l, change := none } })
    ∧ (∀ (s : State) (e : Eye) (f : EyeFilter) (c : PendingChange), s.pos.filters.get e = f → f.change = some c →
    ∃ t, exec (.eyeFilterExpiry e) s = .next t
      ∧ OnlyTouches (.now :: .pos :: queueParts) s t
      ∧ t.pos = { s.pos with filters := s.pos.filters.set e { accepted := otherLevel f.accepted, change := none } }
      ∧ (c.atH = false → OnlyTouches [.now, .pos, .totals, .line, .crumb] s t
          ∧ t.totals.openShift.created = s.totals.openShift.created
          ∧ t.totals.openShift.untracked = s.totals.openShift.untracked
          ∧ t.totals.openShift.strays = s.totals.openShift.strays))
    ∧ ∀ (s : State) (e : Eye) (l : Level) (f : EyeFilter), s.pos.filters.get e = f → f.change = none → l ≠ f.accepted →
      s.pos.config.filterTime = 0 →
      exec (.eyeRawLevelChange e l) s = exec (.eyeFilterExpiry e) (s.setPos { s.pos with
        filters := s.pos.filters.set e { f with
          change := some { captured := s.pos.p, atH := decide (s.pos.x = 0), filterTime := 0, expiry := s.now } } })

/-- O9. LINE_CONFIG: R14 whole. -/
def Obligations.LineConfigFollowsR14 : Prop :=
  (∀ (s : State) (seq : Byte) (pitch offset filterTime idleTime : Nat),
      (s.line.state = .stopped ∧ s.queue.records = [] →
        (20 ≤ pitch ∧ pitch ≤ 2000) ∧ offset ≤ 50 ∧ filterTime ≤ 20 ∧ (10 ≤ idleTime ∧ idleTime ≤ 3600) →
        exec (.lineConfig .office seq pitch offset filterTime idleTime) s =
          .next ((s.setPos { s.pos with
              config := { pitch := pitch, offset := offset, filterTime := filterTime, idleTime := idleTime } }).respond
            .office 5 seq .ok (u16 pitch ++ u8 offset ++ u8 filterTime ++ u16 idleTime)))
      ∧ (¬(s.line.state = .stopped ∧ s.queue.records = []) →
        exec (.lineConfig .office seq pitch offset filterTime idleTime) s =
          .next (s.respond .office 5 seq .lineState
            (u16 s.pos.config.pitch ++ u8 s.pos.config.offset ++ u8 s.pos.config.filterTime ++ u16 s.pos.config.idleTime)))
      ∧ (s.line.state = .stopped ∧ s.queue.records = [] →
        ¬((20 ≤ pitch ∧ pitch ≤ 2000) ∧ offset ≤ 50 ∧ filterTime ≤ 20 ∧ (10 ≤ idleTime ∧ idleTime ≤ 3600)) →
        exec (.lineConfig .office seq pitch offset filterTime idleTime) s =
          .next (s.respond .office 5 seq .outOfRange
            (u16 s.pos.config.pitch ++ u8 s.pos.config.offset ++ u8 s.pos.config.filterTime ++ u16 s.pos.config.idleTime)))
      ∧ ∀ p, p ≠ .office →
        exec (.lineConfig p seq pitch offset filterTime idleTime) s = .next (s.respond p 5 seq .notPermitted []))
    ∧ (∀ (s : State) (lines : Quad) (eyes : EyeLevels), ∃ t, exec (.powerOnReset lines eyes) s = .next t
        ∧ t.pos.config = { pitch := 100, offset := 0, filterTime := 2, idleTime := 120 })
    ∧ (∀ (s : State) (p : Port) (seq : Byte), ∃ t, exec (.lineReset p seq) s = .next t ∧ t.pos.config = s.pos.config)
    ∧ ∀ (s : State) (p : Port), ∃ t, exec (.portReset p) s = .next t ∧ t.pos.config = s.pos.config

/-! ## The station chain -/

/-- O10. CHAIN_WRITE. Taken on a STOPPED, empty line it replaces the named place, makes the chain UNVALIDATED and unfits both zones, whose
thresholds stay; besides, only CRUMB_FULL, the permit and notices may change (R19, R129). On another line it is refused LINE_STATE, whatever
it carries; otherwise OUT_OF_RANGE when the index is none of 1..8 or the content is out of range; a refusal changes nothing (R19). How the
descriptor stands in the body, thirteen bytes with ABSENT as zeros, is the model's reading (log 10). -/
def Obligations.ChainWriteFollowsR19 : Prop :=
  ∀ (s : State) (seq : Byte) (kind distance next : Nat) (area : Vector Byte 7),
    (∀ (i : Fin 8) (d : Option Descriptor),
      s.line.state = .stopped → s.queue.records = [] → carriedPlace kind distance next area = some d →
      ∃ t, exec (.chainWrite .office seq (i.val + 1) kind distance next area) s = .next t
        ∧ t.chain = { s.chain with places := s.chain.places.set i d, state := .unvalidated }
        ∧ UnfittedByEdit s t
        ∧ Answers t .office .chainWrite seq .ok (u8 1 ++ placeValues d ++ u8 0)
        ∧ OnlyTouches [.chain, .crumb, .line, .ports] s t)
    ∧ (¬(s.line.state = .stopped ∧ s.queue.records = []) →
      (∀ i : Fin 8,
        exec (.chainWrite .office seq (i.val + 1) kind distance next area) s =
          .next (s.respond .office 8 seq .lineState (u8 1 ++ placeValues (s.chain.places.get i) ++ u8 s.chain.state.code)))
      ∧ ∀ index, index = 0 ∨ 8 < index →
        exec (.chainWrite .office seq index kind distance next area) s =
          .next (s.respond .office 8 seq .lineState (u8 0 ++ List.replicate 13 0 ++ u8 s.chain.state.code)))
    ∧ (s.line.state = .stopped → s.queue.records = [] →
      (∀ i : Fin 8, carriedPlace kind distance next area = none →
        exec (.chainWrite .office seq (i.val + 1) kind distance next area) s =
          .next (s.respond .office 8 seq .outOfRange (u8 1 ++ placeValues (s.chain.places.get i) ++ u8 s.chain.state.code)))
      ∧ ∀ index, index = 0 ∨ 8 < index →
        exec (.chainWrite .office seq index kind distance next area) s =
          .next (s.respond .office 8 seq .outOfRange (u8 0 ++ List.replicate 13 0 ++ u8 s.chain.state.code)))
    ∧ ∀ p index, p ≠ .office →
      exec (.chainWrite p seq index kind distance next area) s = .next (s.respond p 8 seq .notPermitted [])

/-- O11. What a CHAIN_WRITE may carry, kind by kind: ABSENT; the fields of each kind at their places in the area; a kind, distance, next
index or zone out of range is refused, and so is each field of each kind: a tolerance, a latency, a pulse, a half-span, a blast time, a
yield, a tyer offset and a neck allowance (R17, R19, 11.7). -/
def Obligations.CarriedDescriptors : Prop :=
  (∀ distance next area, carriedPlace 0 distance next area = some none)
    ∧ (∀ kind distance next area, 7 < kind → carriedPlace kind distance next area = none)
    ∧ (∀ kind distance next area, 1 ≤ kind → ¬(1 ≤ distance ∧ distance ≤ 1000000 ∧ next ≤ 8) →
        carriedPlace kind distance next area = none)
    ∧ (∀ (distance next : Nat) (a : Vector Byte 7), 1 ≤ distance → distance ≤ 1000000 → next ≤ 8 →
        (∀ n, read16 a[0] a[1] = n → 10 ≤ n → n ≤ 8000 →
          carriedPlace 1 distance next a = some (some ⟨.eyeSliced n, distance, next⟩)
            ∧ carriedPlace 4 distance next a = some (some ⟨.eyeBag n, distance, next⟩)
            ∧ carriedPlace 6 distance next a = some (some ⟨.eyeExit n, distance, next⟩))
          ∧ (∀ l n, a[0].toNat = l → read16 a[1] a[2] = n → l ≤ 250 → 10 ≤ n → n ≤ 1000 →
            carriedPlace 2 distance next a = some (some ⟨.gateReject l n, distance, next⟩)
              ∧ carriedPlace 7 distance next a = some (some ⟨.gateExit l n, distance, next⟩))
          ∧ (∀ w b y, read16 a[1] a[2] = w → read16 a[3] a[4] = b → read16 a[5] a[6] = y → w ≤ 20000 → 10 ≤ b → b ≤ 2000 →
            1 ≤ y → y ≤ 256 →
            (a[0].toNat = 0 → carriedPlace 3 distance next a = some (some ⟨.crumbBar .z0 w b y, distance, next⟩))
              ∧ (a[0].toNat = 1 → carriedPlace 3 distance next a = some (some ⟨.crumbBar .z1 w b y, distance, next⟩)))
          ∧ ∀ n o k l, read16 a[0] a[1] = n → read16 a[2] a[3] = o → read16 a[4] a[5] = k → a[6].toNat = l → 10 ≤ n → n ≤ 8000 →
            o ≤ 20000 → k ≤ 4000 → l ≤ 250 →
            carriedPlace 5 distance next a = some (some ⟨.eyeClip n o k l, distance, next⟩))
    ∧ ∀ (distance next : Nat) (a : Vector Byte 7),
      (read16 a[0] a[1] < 10 ∨ 8000 < read16 a[0] a[1] →
          carriedPlace 1 distance next a = none ∧ carriedPlace 4 distance next a = none ∧ carriedPlace 5 distance next a = none
            ∧ carriedPlace 6 distance next a = none)
        ∧ (250 < a[0].toNat ∨ read16 a[1] a[2] < 10 ∨ 1000 < read16 a[1] a[2] →
          carriedPlace 2 distance next a = none ∧ carriedPlace 7 distance next a = none)
        ∧ (1 < a[0].toNat ∨ 20000 < read16 a[1] a[2] ∨ read16 a[3] a[4] < 10 ∨ 2000 < read16 a[3] a[4] ∨ read16 a[5] a[6] < 1
            ∨ 256 < read16 a[5] a[6] →
          carriedPlace 3 distance next a = none)
        ∧ (20000 < read16 a[2] a[3] ∨ 4000 < read16 a[4] a[5] ∨ 250 < a[6].toNat → carriedPlace 5 distance next a = none)

/-- O12. CHAIN_HEAD: R20 whole; and the zones that a taken one unfits (R129). -/
def Obligations.ChainHeadFollowsR20 : Prop :=
  ∀ (s : State) (seq : Byte) (index : Nat),
    (s.line.state = .stopped ∧ s.queue.records = [] → index ≤ 8 →
      ∃ t, exec (.chainHead .office seq index) s = .next t
        ∧ t.chain = { s.chain with head := index, state := .unvalidated } ∧ UnfittedByEdit s t
        ∧ Answers t .office .chainHead seq .ok (u8 index ++ u8 0)
        ∧ OnlyTouches [.chain, .crumb, .line, .ports] s t)
    ∧ (¬(s.line.state = .stopped ∧ s.queue.records = []) →
      exec (.chainHead .office seq index) s =
        .next (s.respond .office 9 seq .lineState (u8 s.chain.head ++ u8 s.chain.state.code)))
    ∧ (s.line.state = .stopped ∧ s.queue.records = [] → 8 < index →
      exec (.chainHead .office seq index) s =
        .next (s.respond .office 9 seq .outOfRange (u8 s.chain.head ++ u8 s.chain.state.code)))
    ∧ ∀ p, p ≠ .office → exec (.chainHead p seq index) s = .next (s.respond p 9 seq .notPermitted [])

/-- O13. CHAIN_READ (R21). How the values of an answer are laid out in its body is the model's reading (log 10); the body of the refusal is
the model's choice (log 11), so it is left open. -/
def Obligations.ChainReadFollowsR21 : Prop :=
  (∀ (s : State) (p : Port) (seq : Byte) (i : Fin 8),
      exec (.chainRead p seq (i.val + 1)) s =
        .next (s.respond p 10 seq .ok (u8 s.chain.head ++ u8 s.chain.state.code
          ++ optional 2 (s.chain.lastFailure.map fun x => u8 x.1 ++ u8 x.2.code)
          ++ optional 13 (some (placeValues (s.chain.places.get i))))))
    ∧ (∀ (s : State) (p : Port) (seq : Byte),
      exec (.chainRead p seq 0) s =
        .next (s.respond p 10 seq .ok (u8 s.chain.head ++ u8 s.chain.state.code
          ++ optional 2 (s.chain.lastFailure.map fun x => u8 x.1 ++ u8 x.2.code) ++ optional 13 none)))
    ∧ ∀ (s : State) (p : Port) (seq : Byte) (index : Nat), 8 < index →
      ∃ body, exec (.chainRead p seq index) s = .next (s.respond p 10 seq .outOfRange body)

/-- O14. What validation finds (R22, R23). It is complete with the descriptors ds exactly when the links lead through ds from the head to the
end, they stand in an admissible order, and E4 is among them; so a valid chain holds distances that rise, the four eyes and the reject gate
in their order, at most an exit gate after them, at most one bar per zone, each before E4. After an admissible way to place i it fails at
i with BROKEN_LINK, DISTANCE_ORDER, KIND_ORDER or ZONE_REPEATED, in this order; a head of 0 fails EMPTY at 0, and a list that ends short of
E4 INCOMPLETE at the place visited last. The nine-visit bound is never the cause of a failure: a walk with more visits finds the same. -/
def Obligations.ValidationOfTheChain : Prop :=
  (∀ (c : StationChain) (ds : List Descriptor), c.validate = .complete ds →
    (ds.map Descriptor.distance).Pairwise (· < ·)
      ∧ ((ds.map fun d => d.station.code).filter (fun k => decide (k ≠ 3)) = [1, 2, 4, 5, 6]
        ∨ (ds.map fun d => d.station.code).filter (fun k => decide (k ≠ 3)) = [1, 2, 4, 5, 6, 7])
      ∧ (∀ z, ds.countP (Descriptor.isBarOf z) ≤ 1)
      ∧ ∀ before d after, ds = before ++ d :: after → d.station.code = 3 → ∃ e ∈ after, e.station.code = 6)
    ∧ (∀ (c : StationChain) (ds : List Descriptor),
      c.validate = .complete ds ↔
        c.Leads c.head ds 0 ∧ Admissible ds ∧ (kindsInOrder ds = [1, 2, 4, 5, 6] ∨ kindsInOrder ds = [1, 2, 4, 5, 6, 7]))
    ∧ (∀ c : StationChain, c.head = 0 → c.validate = .fails 0 .empty)
    ∧ (∀ (c : StationChain) (ds : List Descriptor) (i : Nat), c.head ≠ 0 → c.Leads c.head ds i → Admissible ds → i ≠ 0 →
      (c.place i = none → c.validate = .fails i .brokenLink)
        ∧ ∀ d, c.place i = some d →
          (d.distance ≤ lastDistance ds → c.validate = .fails i .distanceOrder)
          ∧ (lastDistance ds < d.distance → d.station.code ≠ 3 → ¬ kindsInOrder (ds ++ [d]) <+: [1, 2, 4, 5, 6, 7] →
            c.validate = .fails i .kindOrder)
          ∧ ∀ z, lastDistance ds < d.distance → d.isBarOf z = true →
            (6 ∈ kindsInOrder ds → c.validate = .fails i .kindOrder)
            ∧ (6 ∉ kindsInOrder ds → (∃ e ∈ ds, e.isBarOf z = true) → c.validate = .fails i .zoneRepeated))
    ∧ (∀ (c : StationChain) (ds : List Descriptor) (d : Descriptor) (i : Nat), c.Leads c.head ds i → c.place i = some d → d.next = 0 →
      Admissible (ds ++ [d]) → 6 ∉ kindsInOrder (ds ++ [d]) → c.validate = .fails i .incomplete)
    ∧ (∀ (c : StationChain) (i : Nat), c.place i = if h : 1 ≤ i ∧ i ≤ 8 then c.places.get ⟨i - 1, by omega⟩ else none)
    ∧ (∀ (c : StationChain) (more : Nat),
    c.walk (9 + more) c.head 0 { stage := .beforeE1, seen0 := false, seen1 := false }
      = c.walk 9 c.head 0 { stage := .beforeE1, seen0 := false, seen1 := false })

/-! ## The line -/

/-- O15. LINE_START of a STOPPED line: what R24 says of validation, and the start it leads to. A zone whose bar it finds is fitted and,
being at rest with load 0, otherwise as it was; one fitted before stays as it stands, with its load, its blast and what it is owed, and so
does one without a bar (R129). Of a started line: OK, and nothing else changes (R144). The OK bodies carry line state, chain state and hold
set (R144) and the permit (R150); that it stands last is the model's choice (log 10). What follows the index and the cause in the refusal's
body is left open (log 10). -/
def Obligations.LineStartFollowsR24 : Prop :=
  (∀ (s : State) (p : Port) (seq : Byte), s.line.state = .stopped → p ≠ .bagger →
    (∀ ds, s.chain.validate = .complete ds →
      ∃ t, exec (.lineStart p seq) s = .next t
        ∧ t.chain = { s.chain with state := .valid, lastFailure := none }
        ∧ t.line = { state := .running, idleTimer := some (s.now + s.pos.config.idleTime * 1000), holds := s.line.holds
                     permit := if s.line.holds = 0 then .driven else .released }
        ∧ (∀ z, (t.zone z).fitted = ((s.zone z).fitted || (t.bar z).isSome) ∧ (t.zone z).load = (s.zone z).load
            ∧ ((s.zone z).fitted = true ∨ t.bar z = none → t.zone z = s.zone z)
            ∧ (∀ b, (s.zone z).fitted = false → t.bar z = some b → (s.zone z).load = 0 → (s.zone z).blastEnd = none →
                (s.zone z).manualClear = false → (s.zone z).purgeOwed = false → 1 ≤ (s.zone z).soft →
                t.zone z = { s.zone z with fitted := true }))
        ∧ Answers t p .lineStart seq .ok (u8 1 ++ u8 1 ++ set16 s.line.holds ++ u8 (if s.line.holds = 0 then 1 else 0))
        ∧ OnlyTouches [.chain, .crumb, .line, .ports] s t
        ∧ (∀ seq' index, ∃ body, exec (.chainHead .office seq' index) t = .next (t.respond .office 9 seq' .lineState body))
        ∧ ∀ seq' index kind distance next area, ∃ body,
          exec (.chainWrite .office seq' index kind distance next area) t = .next (t.respond .office 8 seq' .lineState body))
    ∧ ∀ index cause, s.chain.validate = .fails index cause →
      ∃ rest, exec (.lineStart p seq) s =
        .next ((s.setChain { s.chain with state := .unvalidated, lastFailure := some (index, cause) }).respond p 2 seq .chainInvalid
          (u8 index ++ u8 cause.code ++ rest)))
    ∧ (∀ (s : State) (p : Port) (seq : Byte), s.line.state ≠ .stopped → p ≠ .bagger →
    exec (.lineStart p seq) s =
      .next (s.respond p 2 seq .ok
        (u8 s.line.state.code ++ u8 s.chain.state.code ++ set16 s.line.holds ++ u8 s.line.permit.code)))

/-- O16. LINE_STOP: a started line becomes STOPPED with its timer stopped, the permit RELEASED and no purge owed; a STOPPED one is left as
it is; nothing else changes (R145, R138). The body carries line state and hold set (R145) and the permit (R150); that it stands last is the
model's choice (log 10). -/
def Obligations.LineStopStops : Prop :=
  ∀ (s : State) (p : Port) (seq : Byte), p ≠ .bagger →
    (s.line.state ≠ .stopped →
      exec (.lineStop p seq) s =
        .next (((s.setLine { state := .stopped, idleTimer := none, holds := s.line.holds, permit := .released }).setCrumb
          { z0 := { s.crumb.z0 with purgeOwed := false }, z1 := { s.crumb.z1 with purgeOwed := false } }).respond p 3 seq .ok
            (u8 0 ++ set16 s.line.holds ++ u8 0)))
    ∧ (s.line.state = .stopped →
      exec (.lineStop p seq) s = .next (s.respond p 3 seq .ok (u8 0 ++ set16 s.line.holds ++ u8 s.line.permit.code)))

/-- O17. LINE_RESET stops the line and flushes what is in transit: every record leaves FLUSHED, oldest first, counted in shift and entry as
at any leave (R82, R86); the in-flight counts fall to 0 and RETIRING slots become EMPTY (R31); FILLED entries whose records are all flushed
close (R105); QUEUE_FULL is released when the flush passes 40 (R84). A running blast ends without reduction and uncounted; one wanted by
load or manual clear starts afresh, judged at the cut and at the leaves (R135, R141). The gates, the pending selection, the schedule and the
tyer take their parts (R42, R106, R127); the chain, the positions, the store, the ACTIVE product's pitch and the clock are kept (R151). The
body carries line state, queue count and hold set (R151) and the permit (R150); that it stands last is the model's choice (log 10). -/
def Obligations.LineResetFlushes : Prop :=
  ∀ (s : State) (p : Port) (seq : Byte), p ≠ .bagger →
    ∃ t, exec (.lineReset p seq) s = .next t
      ∧ t.line.state = .stopped ∧ t.line.idleTimer = none ∧ t.line.permit = .released
      ∧ t.queue = { records := [], tagCounter := s.queue.tagCounter, rejectGate := .released, exitGate := .released }
      ∧ (let flushed := s.queue.records.foldl (fun u r => u.leave r .flushed) s;
          t.totals = flushed.totals ∧ t.schedule.entries = flushed.schedule.entries ∧ (∀ i, t.slot i = flushed.slot i)
            ∧ t.held .queueFull = flushed.held .queueFull)
      ∧ (InFlightCounts s → ∀ i,
          ((s.slot i).state ≠ .retiring → t.slot i = { s.slot i with inFlight := 0 })
            ∧ ((s.slot i).state = .retiring → 0 < (s.slot i).inFlight →
              t.slot i = { state := .empty, product := none, inFlight := 0 } ∧ Noticed t .office .recipeFreed))
      ∧ ((s.schedule.entries.map Entry.id).Nodup → ∀ e ∈ s.schedule.entries,
          let n := s.queue.records.countP fun r => decide (r.entry = some e.id)
          ∃ x ∈ t.schedule.entries, x.id = e.id ∧ x.carried = e.carried - n ∧ (e.state ≠ .filled → x.state = e.state)
            ∧ (e.state = .filled → 0 < n → e.carried ≤ n → x.state = .closed ∧ Noticed t .office .entryClosed))
      ∧ ((s.queue.records.map LoafRecord.tag).Nodup →
          (40 < s.queue.records.length → t.held .queueFull = false)
            ∧ (s.queue.records.length ≤ 40 → t.held .queueFull = s.held .queueFull))
      ∧ (Noticed t .office .lostLoaf ↔ Noticed s .office .lostLoaf)
      ∧ (Noticed t .bagger .bagWithdrawn ↔ Noticed s .bagger .bagWithdrawn)
      ∧ t.recipes.selection = none ∧ t.recipes.pitch = s.recipes.pitch
      ∧ t.schedule.state = (if s.schedule.state = .active then .suspended else s.schedule.state)
      ∧ (s.schedule.state = .active → Noticed t .office .scheduleSuspended)
      ∧ t.schedule.idCounter = s.schedule.idCounter ∧ t.schedule.gapRelease = s.schedule.gapRelease
      ∧ t.bag = { s.bag with
          pendingTies := []
          tyer := if s.bag.tyer = .firing then .ready else s.bag.tyer
          tieInFlight := none
          fireLine := .released }
      ∧ (∀ z, (t.zone z).load = (s.zone z).load ∧ (t.zone z).purgeOwed = false ∧ (t.zone z).fitted = (s.zone z).fitted
          ∧ (t.zone z).soft = (s.zone z).soft ∧ (t.zone z).hard = (s.zone z).hard
          ∧ (t.zone z).manualClear = (s.zone z).manualClear)
      ∧ (∀ z b, s.bar z = some b → (s.zone z).fitted = true →
          let wanted := (s.zone z).soft ≤ (s.zone z).load ∨ (s.zone z).manualClear = true
          (wanted → (s.zone z).blastEnd ≠ none ∨ s.queue.records ≠ [] →
            (t.zone z).blastEnd = some (s.now + b.blastTime) ∧ (t.zone z).valve = .driven)
            ∧ (¬wanted → (s.zone z).blastEnd ≠ none → (t.zone z).blastEnd = none ∧ (t.zone z).valve = .released)
            ∧ ((s.zone z).blastEnd = none → ¬wanted ∨ s.queue.records = [] →
              (t.zone z).blastEnd = none ∧ (t.zone z).valve = (s.zone z).valve))
      ∧ t.totals.openShift.blasts0 = s.totals.openShift.blasts0 ∧ t.totals.openShift.blasts1 = s.totals.openShift.blasts1
      ∧ (∀ r : HoldReason, r ≠ .queueFull → t.held r = s.held r)
      ∧ Answers t p .lineReset seq .ok (u8 0 ++ u8 0 ++ set16 t.line.holds ++ u8 0)
      ∧ OnlyTouches queueParts s t

/-- O18. The idle timer's expiry in RUNNING: the line becomes IDLE, the timer stops, the hold set and the permit's condition stay, LINE_IDLE
is set, and nothing outside time, line, zones and ports changes (R146); a fitted zone with a load is owed a purge, or blasts at once where
its bar is clear (R138). Activity restarts the timer of a RUNNING line, makes an IDLE line RUNNING and drops what is owed, and leaves a
STOPPED one STOPPED: an advance of H (R146, R147) and every edge the E0 filter accepts, delivered or discarded (R12). The edges of E1 to E4
are no activity. -/
def Obligations.IdlenessFollowsActivity : Prop :=
  (∀ (s : State) (d : Nat), s.line.state = .running → s.line.idleTimer = some d →
    ∃ t, exec .idleTimerExpiry s = .next t
      ∧ t.line = { state := .idle, idleTimer := none, holds := s.line.holds
                   permit := if s.line.holds = 0 then .driven else .released }
      ∧ Noticed t .slicer .lineIdle
      ∧ (∀ z b, (s.zone z).fitted = true → 0 < (s.zone z).load → (s.zone z).blastEnd = none → s.occupant z = none →
          s.bar z = some b →
          (t.zone z).blastEnd = some (t.now + b.blastTime) ∧ (t.zone z).valve = .driven ∧ (t.zone z).purgeOwed = false)
      ∧ (∀ z, (s.zone z).fitted = true → 0 < (s.zone z).load → (s.zone z).blastEnd ≠ none ∨ s.occupant z ≠ none →
          t.zone z = { s.zone z with purgeOwed := true })
      ∧ (∀ z, (s.zone z).fitted = false → t.zone z = s.zone z)
      ∧ (∀ z, (s.zone z).load = 0 → (t.zone z).purgeOwed = true → (s.zone z).purgeOwed = true)
      ∧ (∀ z, (t.zone z).load = (s.zone z).load)
      ∧ OnlyTouches [.now, .totals, .line, .crumb, .ports] s t)
    ∧ (∀ (s : State) (q : Quad), q = nextQuad s.pos.lines → s.pos.x = 0 →
    ∃ t, exec (.encoderStep q) s = .next t
      ∧ (s.line.state = .stopped → t.line.state = .stopped ∧ t.line.idleTimer = s.line.idleTimer)
      ∧ (s.line.state ≠ .stopped →
          t.line.state = .running ∧ t.line.idleTimer = some (s.now + s.pos.config.idleTime * 1000))
      ∧ (s.line.state = .idle → ∀ z, (t.zone z).purgeOwed = false)
      ∧ OnlyTouches (.choices :: .pos :: queueParts) s t)
    ∧ (∀ (s : State) (c : PendingChange), s.pos.filters.e0.change = some c →
      ∃ t, exec (.eyeFilterExpiry .e0) s = .next t
        ∧ (s.line.state = .stopped → t.line.state = .stopped ∧ t.line.idleTimer = s.line.idleTimer)
        ∧ (s.line.state ≠ .stopped →
            t.line.state = .running ∧ t.line.idleTimer = some (t.now + s.pos.config.idleTime * 1000))
        ∧ (s.line.state = .idle → ∀ z, (t.zone z).purgeOwed = false))
    ∧ (∀ (s : State) (l : Level), s.pos.filters.e0.change = none → l ≠ s.pos.filters.e0.accepted → s.pos.config.filterTime = 0 →
      ∃ t, exec (.eyeRawLevelChange .e0 l) s = .next t
        ∧ (s.line.state = .stopped → t.line.state = .stopped ∧ t.line.idleTimer = s.line.idleTimer)
        ∧ (s.line.state ≠ .stopped →
            t.line.state = .running ∧ t.line.idleTimer = some (s.now + s.pos.config.idleTime * 1000))
        ∧ (s.line.state = .idle → ∀ z, (t.zone z).purgeOwed = false))
    ∧ ∀ (s : State) (e : Eye), e ≠ .e0 →
      ∃ t, exec (.eyeFilterExpiry e) s = .next t ∧ t.line.state = s.line.state ∧ t.line.idleTimer = s.line.idleTimer

/-- O19. HOLD_SET and HOLD_RELEASE: R149 whole. A port's own reason is placed or released, with HOLD_CHANGED on all three ports and the
permit judged where that changes the hold set (R148, R150): a placing releases the permit, and a release of the last reason drives it while
the line is RUNNING or IDLE; one already placed, or already absent, is answered OK and changes nothing; a value that names no reason is
refused OUT_OF_RANGE, another's reason NOT_PERMITTED, and a refusal changes nothing; the line requests and a port reset leave the masters'
reasons as they stand. -/
def Obligations.HoldRequestsFollowR149 : Prop :=
  ∀ (s : State) (p : Port) (seq : Byte) (reason : Nat),
    (reason = (ownHold p).code →
      (∃ t, exec (.holdSet p seq reason) s = .next t
        ∧ t.line.holds = s.line.holds ||| BitVec.twoPow 16 reason ∧ t.line.state = s.line.state
        ∧ (s.held (ownHold p) = false → t.line.permit = .released ∧ ∀ q, Noticed t q .holdChanged)
        ∧ Answers t p .holdSet seq .ok (set16 t.line.holds ++ u8 t.line.permit.code) ∧ OnlyTouches [.line, .ports] s t)
      ∧ (s.held (ownHold p) = true →
        exec (.holdSet p seq reason) s = .next (s.respond p 6 seq .ok (set16 s.line.holds ++ u8 s.line.permit.code)))
      ∧ (s.held (ownHold p) = false →
        exec (.holdRelease p seq reason) s = .next (s.respond p 7 seq .ok (set16 s.line.holds ++ u8 s.line.permit.code)))
      ∧ ∃ t, exec (.holdRelease p seq reason) s = .next t
        ∧ t.line.holds = s.line.holds &&& ~~~(BitVec.twoPow 16 reason) ∧ t.line.state = s.line.state
        ∧ (s.held (ownHold p) = true →
            (t.line.permit = .driven ↔ s.line.state ≠ .stopped ∧ t.line.holds = 0) ∧ ∀ q, Noticed t q .holdChanged)
        ∧ Answers t p .holdRelease seq .ok (set16 t.line.holds ++ u8 t.line.permit.code) ∧ OnlyTouches [.line, .ports] s t)
    ∧ (12 < reason →
      exec (.holdSet p seq reason) s = .next (s.respond p 6 seq .outOfRange (set16 s.line.holds ++ u8 s.line.permit.code))
      ∧ exec (.holdRelease p seq reason) s =
          .next (s.respond p 7 seq .outOfRange (set16 s.line.holds ++ u8 s.line.permit.code)))
    ∧ (reason ≤ 12 → reason ≠ (ownHold p).code →
      exec (.holdSet p seq reason) s = .next (s.respond p 6 seq .notPermitted (set16 s.line.holds ++ u8 s.line.permit.code))
      ∧ exec (.holdRelease p seq reason) s =
          .next (s.respond p 7 seq .notPermitted (set16 s.line.holds ++ u8 s.line.permit.code)))
    ∧ (∃ t, exec (.lineStart p seq) s = .next t ∧ ∀ q, t.held (ownHold q) = s.held (ownHold q))
    ∧ (∃ t, exec (.lineStop p seq) s = .next t ∧ ∀ q, t.held (ownHold q) = s.held (ownHold q))
    ∧ (∃ t, exec (.lineReset p seq) s = .next t ∧ ∀ q, t.held (ownHold q) = s.held (ownHold q))
    ∧ ∃ t, exec (.portReset p) s = .next t ∧ ∀ q, t.held (ownHold q) = s.held (ownHold q)

/-- O20. The four requests that only read answer with what stands and change nothing but their own port (R152, R140, R32, R177): STATUS_READ
with its summary, CRUMB_READ with both zone views value by value, RECIPE_READ with a slot value by value, NOTICE_READ with flags and mask.
The order of the values in a body is the model's reading (log 10). That CRUMB_READ gives the blast counts B of an unfitted zone as 0 is the
model's choice (log 12: R140 and R59 give none without a bar). -/
def Obligations.ReadsChangeNothing : Prop :=
  ∀ (s : State) (p : Port) (seq : Byte),
    exec (.statusRead p seq) s =
        .next (s.respond p 1 seq .ok (u8 s.line.state.code ++ u8 s.line.permit.code ++ set16 s.line.holds
          ++ u8 s.queue.records.length ++ optional 1 (s.activeSlot.map fun i => u8 i.val)
          ++ optional 2 (s.recipes.selection.map fun x => u8 x.slot.val ++ u8 x.source.code) ++ u32 s.pos.v ++ u32 s.pos.h.toNat
          ++ u8 s.schedule.state.code ++ u16 (s.zone .z0).load ++ u16 (s.zone .z1).load ++ u16 s.bag.magazine
          ++ u8 s.bag.tyer.code ++ u8 s.store.state.code))
      ∧ exec (.crumbRead p seq) s = .next (s.respond p 33 seq .ok (s.zoneValues .z0 ++ s.zoneValues .z1))
      ∧ (∀ i : Fin 16, exec (.recipeRead p seq i.val) s = .next (s.respond p 13 seq .ok (s.slotValues i)))
      ∧ (∀ n, 15 < n → ∃ body, exec (.recipeRead p seq n) s = .next (s.respond p 13 seq .outOfRange body))
      ∧ exec (.noticeRead p seq) s = .next (s.respond p 38 seq .ok (set16 (s.port p).flags ++ set16 (s.port p).mask))

/-! ## Recipes -/

/-- O21. RECIPE_LOAD, in the order of R29's table: a slot number above 15 is OUT_OF_RANGE; a slot not EMPTY is SLOT_STATE; a code or
parameter out of its range, limits not in order or thresholds not in order is OUT_OF_RANGE; a code that a LOADED or ACTIVE slot holds is
DUPLICATE_CODE; otherwise the slot becomes LOADED with what was carried and no other slot changes. A refusal changes nothing. How a slot
stands in the body is the model's reading (log 10). -/
def Obligations.RecipeLoadFollowsR29 : Prop :=
  ∀ (s : State) (seq : Byte) (q : Product),
    let load := fun slot => Instr.recipeLoad .office seq slot q.code q.thickness q.heel q.minLen q.maxLen q.shortMax q.regularMax q.crumb
      q.shelf
    let inRange := 1 ≤ q.code ∧ q.code ≤ 65534 ∧ 60 ≤ q.thickness ∧ q.thickness ≤ 250 ∧ q.heel ≤ 400 ∧ 300 ≤ q.minLen
      ∧ q.minLen < q.maxLen ∧ q.maxLen ≤ 9999 ∧ q.shortMax ≤ q.regularMax ∧ q.regularMax ≤ 9999 ∧ q.crumb ≤ 255 ∧ 1 ≤ q.shelf
      ∧ q.shelf ≤ 30
    let held := ∃ j, ((s.slot j).state = .loaded ∨ (s.slot j).state = .active) ∧ (s.slot j).product.map Product.code = some q.code
    (∀ n, 15 < n → ∃ body, exec (load n) s = .next (s.respond .office 11 seq .outOfRange body))
      ∧ ∀ i : Fin 16,
        ((s.slot i).state ≠ .empty → exec (load i.val) s = .next (s.respond .office 11 seq .slotState (u8 1 ++ s.slotValues i)))
        ∧ ((s.slot i).state = .empty → ¬inRange →
          exec (load i.val) s = .next (s.respond .office 11 seq .outOfRange (u8 1 ++ s.slotValues i)))
        ∧ ((s.slot i).state = .empty → inRange → held →
          exec (load i.val) s = .next (s.respond .office 11 seq .duplicateCode (u8 1 ++ s.slotValues i)))
        ∧ ((s.slot i).state = .empty → inRange → ¬held →
          ∃ t, exec (load i.val) s = .next t
            ∧ t.slot i = { state := .loaded, product := some q, inFlight := (s.slot i).inFlight }
            ∧ (∀ j, j ≠ i → t.slot j = s.slot j) ∧ t.recipes.selection = s.recipes.selection
            ∧ t.recipes.pitch = s.recipes.pitch
            ∧ Answers t .office .recipeLoad seq .ok (u8 1 ++ t.slotValues i) ∧ OnlyTouches [.recipes, .ports] s t)

/-- O22. RECIPE_RETIRE (R30), in the order of its table: refusals change nothing; a LOADED slot that is neither pending nor scheduled
becomes EMPTY with no record in flight, otherwise RETIRING. How a slot, or no slot, stands in the body is the model's reading (log 10). -/
def Obligations.RecipeRetireFollowsR30 : Prop :=
  (∀ (s : State) (seq : Byte) (n : Nat), 15 < n →
      ∃ body, exec (.recipeRetire .office seq n) s = .next (s.respond .office 12 seq .outOfRange body))
    ∧ ∀ (s : State) (seq : Byte) (i : Fin 16),
      ((s.slot i).state = .active →
        exec (.recipeRetire .office seq i.val) s = .next (s.respond .office 12 seq .activeSlot (u8 1 ++ s.slotValues i)))
      ∧ ((s.slot i).state = .empty ∨ (s.slot i).state = .retiring →
        exec (.recipeRetire .office seq i.val) s = .next (s.respond .office 12 seq .slotState (u8 1 ++ s.slotValues i)))
      ∧ ((s.slot i).state = .loaded → (∃ source, s.recipes.selection = some ⟨i, source⟩) →
        exec (.recipeRetire .office seq i.val) s = .next (s.respond .office 12 seq .slotState (u8 1 ++ s.slotValues i)))
      ∧ ((s.slot i).state = .loaded → (∀ x, s.recipes.selection = some x → x.slot ≠ i) →
        (∃ e ∈ s.schedule.entries, e.slot = i ∧ (e.state = .pending ∨ e.state = .active)) →
        exec (.recipeRetire .office seq i.val) s = .next (s.respond .office 12 seq .slotScheduled (u8 1 ++ s.slotValues i)))
      ∧ ((s.slot i).state = .loaded → (∀ x, s.recipes.selection = some x → x.slot ≠ i) →
        (∀ e ∈ s.schedule.entries, e.slot = i → e.state ≠ .pending ∧ e.state ≠ .active) →
        ∃ t, exec (.recipeRetire .office seq i.val) s = .next t
          ∧ t.slot i = (if (s.slot i).inFlight = 0 then { state := .empty, product := none, inFlight := 0 }
              else { s.slot i with state := .retiring })
          ∧ (∀ j, j ≠ i → t.slot j = s.slot j) ∧ Answers t .office .recipeRetire seq .ok (u8 1 ++ t.slotValues i)
          ∧ OnlyTouches [.recipes, .ports] s t)

/-- O23. SELECT (R33, R34, R35, R39, R103): a LOADED slot becomes pending under the sending port, or is changed over to at once when none is
ACTIVE, with BLADE_MISMATCH judged against it; the ACTIVE slot clears the selection; an EMPTY or RETIRING slot, and a number above 15, are
refused and change nothing; an OK suspends an ACTIVE schedule, and tells the other master whose selection it displaces. The response carries
the ACTIVE slot and the pending selection (their layout: log 10). -/
def Obligations.SelectFollowsR34 : Prop :=
  ∀ (s : State) (p : Port) (seq : Byte) (i : Fin 16), p ≠ .bagger →
    ((s.slot i).state = .loaded → ∀ a, s.activeSlot = some a →
      ∃ t, exec (.select p seq i.val) s = .next t
        ∧ t.recipes = { s.recipes with selection := some ⟨i, if p = .slicer then .slicer else .office⟩ }
        ∧ t.schedule = { s.schedule with state := if s.schedule.state = .active then .suspended else s.schedule.state }
        ∧ Answers t p .select seq .ok (u8 1 ++ u8 a.val ++ u8 1 ++ u8 i.val ++ u8 (if p = .slicer then 0 else 1))
        ∧ OnlyTouches [.recipes, .schedule, .ports] s t)
    ∧ ((s.slot i).state = .loaded → s.activeSlot = none →
      ∃ t, exec (.select p seq i.val) s = .next t
        ∧ ChangedOver s t i ∧ (∀ j, j ≠ i → t.slot j = s.slot j) ∧ t.recipes.pitch = s.recipes.pitch
        ∧ t.schedule = { s.schedule with state := if s.schedule.state = .active then .suspended else s.schedule.state }
        ∧ (∀ r : HoldReason, r ≠ .noProduct → r ≠ .bladeMismatch → t.held r = s.held r)
        ∧ Answers t p .select seq .ok (u8 1 ++ u8 i.val ++ u8 0 ++ u8 0 ++ u8 0)
        ∧ OnlyTouches [.recipes, .schedule, .line, .ports] s t)
    ∧ (s.activeSlot = some i →
      ∃ t, exec (.select p seq i.val) s = .next t
        ∧ t.recipes = { s.recipes with selection := none }
        ∧ t.schedule = { s.schedule with state := if s.schedule.state = .active then .suspended else s.schedule.state }
        ∧ Answers t p .select seq .ok (u8 1 ++ u8 i.val ++ u8 0 ++ u8 0 ++ u8 0)
        ∧ OnlyTouches [.recipes, .schedule, .ports] s t)
    ∧ ((s.slot i).state = .loaded ∨ (s.slot i).state = .active →
      ∃ t, exec (.select p seq i.val) s = .next t
        ∧ (Noticed t .slicer .selectSuperseded ↔
            Noticed s .slicer .selectSuperseded ∨ p = .office ∧ ∃ x, s.recipes.selection = some x ∧ x.source = .slicer)
        ∧ (Noticed t .office .selectSuperseded ↔
            Noticed s .office .selectSuperseded ∨ p = .slicer ∧ ∃ x, s.recipes.selection = some x ∧ x.source = .office)
        ∧ (s.schedule.state = .active → Noticed t .office .scheduleSuspended))
    ∧ ((s.slot i).state = .empty ∨ (s.slot i).state = .retiring →
      ∃ body, exec (.select p seq i.val) s = .next (s.respond p 14 seq .slotState body))
    ∧ ∀ n, 15 < n → ∃ body, exec (.select p seq n) s = .next (s.respond p 14 seq .outOfRange body)

/-- O24. BLADE_REPORT (R38, R39): the installed pitch, and BLADE_MISMATCH exactly when the ACTIVE product's thickness differs from it by
more than 2 tenths; a pitch above 300 changes nothing. The layout of the body: log 10. -/
def Obligations.BladeReportJudgesTheBlade : Prop :=
  (∀ (s : State) (seq : Byte) (pitch : Nat), pitch ≤ 300 →
      ∃ t, exec (.bladeReport .slicer seq pitch) s = .next t
        ∧ t.recipes = { s.recipes with pitch := pitch }
        ∧ (s.activeSlot = none → t.held .bladeMismatch = false)
        ∧ (∀ i q, s.activeSlot = some i → (s.slot i).product = some q →
            (t.held .bladeMismatch = true ↔ q.thickness > pitch + 2 ∨ pitch > q.thickness + 2))
        ∧ (∀ r : HoldReason, r ≠ .bladeMismatch → t.held r = s.held r)
        ∧ Answers t .slicer .bladeReport seq .ok (u16 pitch ++ yesNo (t.held .bladeMismatch))
        ∧ OnlyTouches [.recipes, .line, .ports] s t)
    ∧ ∀ (s : State) (seq : Byte) (pitch : Nat), 300 < pitch →
      exec (.bladeReport .slicer seq pitch) s =
        .next (s.respond .slicer 15 seq .outOfRange (u16 s.recipes.pitch ++ yesNo (s.held .bladeMismatch)))

/-! ## The queue of loaves -/

/-- O25. A delivered E0 leading edge, by the steps of R65. A MEASURING record present is LOST first. With the chain VALID, room left and a
pending selection or an ACTIVE slot, a pending selection is taken as the changeover (R36), with BLADE_MISMATCH judged against its slot
(R39), and one record joins the tail as R66 lays down; the counts rise (R31, R155), the carried count of the ACTIVE entry of an ACTIVE
schedule with them (R98), and QUEUE_FULL stands when the count reaches 44 (R84). An edge that finds 48 records creates nothing: the loaf is
untracked and no selection is taken (R67). One that finds the chain UNVALIDATED, or no slot ACTIVE and none pending, is discarded and
counted nowhere. The edge is activity: on an IDLE line the purges owed are dropped (R12, R147, R138); that this comes before the queue takes
the edge, so that no blast is judged with them, is the model's choice (log 14: R12, R65 and R147 give no order). The start of blasts is
judged at the creation, on the loaves with the new one among them, and, where a record was lost first, at its leave, before the new one
joins (R135, R136; each of the two: log 25); an edge that makes none leave and creates none judges none. (A raw level change at a filter
time of 0 does the same: EyeFiltersFollowTheRules.) -/
def Obligations.LeadingEdgeFollowsR65 : Prop :=
  (∀ (s : State) (c : PendingChange) (i : Fin 16) (kept : List LoafRecord),
    s.pos.filters.e0 = ⟨.clear, some c⟩ → c.atH = true → s.chain.state = .valid → RecipeLaw s →
    (∀ x, s.recipes.selection = some x → x.slot = i) → (s.recipes.selection = none → s.activeSlot = some i) →
    ((∀ r ∈ s.queue.records, r.stage ≠ .measuring) ∧ kept = s.queue.records
      ∨ ∃ before r after, s.queue.records = before ++ r :: after ∧ r.stage = .measuring
        ∧ (∀ x ∈ before, x.stage ≠ .measuring) ∧ kept = without r.tag s.queue.records) →
    kept.length < 48 →
    ∃ t tag, exec (.eyeFilterExpiry .e0) s = .next t
      ∧ tag = firstFree (kept.map LoafRecord.tag) 255 s.queue.tagCounter
      ∧ t.queue.records = kept ++
          [{ tag := tag, slot := i
             entry := if s.schedule.state = .active then s.activeEntry.map Entry.id else none
             day := s.bag.date.day, weekday := s.bag.date.weekday, reference := c.captured, plan := none, stage := .measuring
             reasons := ⟨false, false, false, false⟩, lastMatch := none, gateFire := none, tieFire := none, fetched := false
             result := none, tie := .none, late := false, blind := false }]
      ∧ t.queue.tagCounter = (if tag < 255 then tag + 1 else 1)
      ∧ (t.slot i).state = .active ∧ (t.slot i).product = (s.slot i).product ∧ t.recipes.selection = none
      ∧ (s.recipes.selection ≠ none → ChangedOver s t i ∧ ∀ j, s.activeSlot = some j → (t.slot j).state = .loaded)
      ∧ (s.recipes.selection = none → t.held .bladeMismatch = s.held .bladeMismatch)
      ∧ (let carried := fun x : RunSchedule => { x with
            entries := x.entries.map fun y =>
              if s.schedule.state = .active ∧ some y.id = s.activeEntry.map Entry.id then { y with carried := y.carried + 1 } else y };
          (kept = s.queue.records → t.schedule = carried s.schedule)
            ∧ ∀ before r after, s.queue.records = before ++ r :: after → r.stage = .measuring → (∀ x ∈ before, x.stage ≠ .measuring) →
              t.schedule = carried (s.lose r).schedule)
      ∧ (kept = s.queue.records → (t.slot i).inFlight = (s.slot i).inFlight + 1 ∧ ∀ j, j ≠ i → (t.slot j).inFlight = (s.slot j).inFlight)
      ∧ (kept ≠ s.queue.records → Noticed t .office .lostLoaf)
      ∧ t.totals.openShift.created = min (s.totals.openShift.created + 1) 4294967295
      ∧ t.totals.openShift.untracked = s.totals.openShift.untracked
      ∧ (kept.length = 43 → t.held .queueFull = true)
      ∧ SameLoads s t ∧ (kept = s.queue.records → BlastsJudged s t (decide (s.line.state = .idle)))
      ∧ ∀ before r after, s.queue.records = before ++ r :: after → r.stage = .measuring → (∀ x ∈ before, x.stage ≠ .measuring) →
          BlastsJudgedWhere s t (decide (s.line.state = .idle)) fun z => (s.lose r).occupant z = none)
    ∧ (∀ (s : State) (c : PendingChange),
    s.pos.filters.e0 = ⟨.clear, some c⟩ → c.atH = true → s.chain.state = .valid → 48 ≤ s.queue.records.length →
    (∀ r ∈ s.queue.records, r.stage ≠ .measuring) →
    ∃ t, exec (.eyeFilterExpiry .e0) s = .next t
      ∧ t.queue = s.queue ∧ t.recipes = s.recipes ∧ t.schedule = s.schedule
      ∧ t.totals.openShift.untracked = min (s.totals.openShift.untracked + 1) 4294967295
      ∧ t.totals.openShift.created = s.totals.openShift.created ∧ Noticed t .office .untrackedLoaf
      ∧ ZonesKept s t (decide (s.line.state = .idle)))
    ∧ ∀ (s : State) (c : PendingChange),
      s.pos.filters.e0 = ⟨.clear, some c⟩ → c.atH = true → (∀ r ∈ s.queue.records, r.stage ≠ .measuring) →
      s.chain.state = .unvalidated ∨ s.queue.records.length < 48 ∧ s.recipes.selection = none ∧ s.activeSlot = none →
      ∃ t, exec (.eyeFilterExpiry .e0) s = .next t
        ∧ t.totals.openShift.created = s.totals.openShift.created
        ∧ t.totals.openShift.untracked = s.totals.openShift.untracked ∧ t.totals.openShift.strays = s.totals.openShift.strays
        ∧ ZonesKept s t (decide (s.line.state = .idle)) ∧ OnlyTouches [.now, .pos, .totals, .line, .crumb] s t

/-- O26. The plan of a loaf, value by value: dark length, length, slice count, bag class, crumb charge and reasons (R47 to R52, R41), within
the ranges the chapter gives for a product in range. A delivered E0 trailing edge plans the MEASURING record so: the plan fields are
written, the reasons added to those it holds, the stage becomes TO_SLICER, and BAG_READY is set exactly when it holds no reason (R46, R68,
R110); what becomes of its entry id is AdmissionAndFill's. The start of blasts is judged on the planned length (R135, R136). On a line that
was IDLE the purges owed are dropped (R147, R138); that this comes before the queue takes the edge, so that no blast is judged with them, is
the model's choice (log 14: R12, R68 and R147 give no order). With no MEASURING record the edge is discarded. (A raw level change at a
filter time of 0 does the same: EyeFiltersFollowTheRules.) -/
def Obligations.TrailingEdgePlansTheLoaf : Prop :=
  (∀ (reference trailing : Pos) (c : LineConfig) (q : Product) (blade : Bool),
    let made := makePlan reference trailing c q blade
    let dark := (trailing - reference).toInt
    let unclamped := (roundNat (made.1.lc * c.pitch) 100 : Int) - c.offset
    let usable := (made.1.lt : Int) - 2 * q.heel
    made.1.lc = (if dark < 1 then 1 else if 65535 < dark then 65535 else dark.toNat)
      ∧ made.1.lt = (if unclamped < 0 then 0 else if 9999 < unclamped then 9999 else unclamped.toNat)
      ∧ (usable ≤ 0 → made.1.n = 2)
      ∧ (0 < usable → made.1.n = max 2 (min 63 (roundNat usable.toNat q.thickness + 2)))
      ∧ made.1.bagClass = (if made.1.lt ≤ q.shortMax then 1 else if made.1.lt ≤ q.regularMax then 2 else 3)
      ∧ made.1.crumb = made.1.n * q.crumb
      ∧ (made.2.undersize = true ↔ unclamped < q.minLen ∨ usable ≤ 0) ∧ (made.2.oversize = true ↔ (q.maxLen : Int) < unclamped)
      ∧ made.2.blade = blade ∧ made.2.marked = false
      ∧ (1 ≤ made.1.lc ∧ made.1.lc ≤ 65535) ∧ made.1.lt ≤ 9999 ∧ (2 ≤ made.1.n ∧ made.1.n ≤ 63)
      ∧ (q.crumb ≤ 255 → made.1.crumb ≤ 16065))
    ∧ (∀ (s : State) (c : PendingChange) (before after : List LoafRecord) (r : LoafRecord) (q : Product),
      s.pos.filters.e0 = ⟨.dark, some c⟩ → c.atH = true → (s.queue.records.map LoafRecord.tag).Nodup →
      s.queue.records = before ++ r :: after → r.stage = .measuring → (∀ x ∈ before, x.stage ≠ .measuring) →
      (s.slot r.slot).product = some q →
      let made := makePlan r.reference c.captured s.pos.config q (s.held .bladeMismatch)
      let reasons : Reasons := ⟨r.reasons.undersize || made.2.undersize, r.reasons.oversize || made.2.oversize,
        r.reasons.blade || made.2.blade, r.reasons.marked || made.2.marked⟩
      ∃ t entry, exec (.eyeFilterExpiry .e0) s = .next t
        ∧ t.queue = { s.queue with
            records := replaced r.tag { r with plan := some made.1, reasons := reasons, stage := .toSlicer, entry := entry }
              s.queue.records }
        ∧ (entry = r.entry ∨ entry = none)
        ∧ (reasons = ⟨false, false, false, false⟩ → Noticed t .bagger .bagReady)
        ∧ (reasons ≠ ⟨false, false, false, false⟩ → (Noticed t .bagger .bagReady ↔ Noticed s .bagger .bagReady))
        ∧ t.bag = s.bag ∧ (s.activeSlot ≠ none → ∀ i, t.slot i = s.slot i) ∧ SameLoads s t
        ∧ BlastsJudged s t (decide (s.line.state = .idle)) ∧ OnlyTouches (.now :: .pos :: queueParts) s t)
    ∧ ∀ (s : State) (c : PendingChange), s.pos.filters.e0 = ⟨.dark, some c⟩ → c.atH = true →
      (∀ r ∈ s.queue.records, r.stage ≠ .measuring) →
      ∃ t, exec (.eyeFilterExpiry .e0) s = .next t ∧ t.totals.openShift.strays = s.totals.openShift.strays
        ∧ ZonesKept s t (decide (s.line.state = .idle)) ∧ OnlyTouches [.now, .pos, .totals, .line, .crumb] s t

/-- O27. A delivered edge of E1 to E4. A trailing edge is discarded (R69). A leading edge with no candidate, or early for the oldest
candidate, is a stray: no record changes, it is counted, and STRAY_EDGE is set (R69, R70, R71). One beyond the oldest candidate's window
makes that candidate leave LOST and is tried on what then stands (R70). The time up to the filter's expiry passes first (log 2). (A raw
level change at a filter time of 0 does the same: EyeFiltersFollowTheRules.) -/
def Obligations.DownstreamEdgesFollowR70 : Prop :=
  (candidateStage .e1 = some .toSlicer ∧ candidateStage .e2 = some .toBag ∧ candidateStage .e3 = some .bagging
      ∧ candidateStage .e4 = some .tying)
    ∧ (∀ (s : State) (e : Eye) (c : PendingChange), e ≠ .e0 → s.pos.filters.get e = ⟨.dark, some c⟩ →
      exec (.eyeFilterExpiry e) s =
        .next ((s.reach c.expiry).setPos { s.pos with filters := s.pos.filters.set e { accepted := .clear, change := none } }))
    ∧ ∀ (s : State) (e : Eye) (g : Stage) (c : PendingChange), candidateStage e = some g → s.pos.filters.get e = ⟨.clear, some c⟩ →
      c.atH = true →
      let stray := ∃ t, exec (.eyeFilterExpiry e) s = .next t
        ∧ t.totals = { (s.reach c.expiry).totals with
            openShift := { (s.reach c.expiry).totals.openShift with strays := min (s.totals.openShift.strays + 1) 4294967295 } }
        ∧ Noticed t .office .strayEdge ∧ OnlyTouches [.now, .pos, .totals, .ports] s t
      ((∀ r ∈ s.queue.records, r.stage ≠ g) → stray)
        ∧ ∀ (st : EyeStation) (before after : List LoafRecord) (r : LoafRecord), s.eyeStation e = some st →
          s.queue.records = before ++ r :: after → r.stage = g → (∀ x ∈ before, x.stage ≠ g) →
          let d := (c.captured - (r.reference + BitVec.ofNat 32 st.distance)).toInt
          (d < -(st.tolerance : Int) → stray)
            ∧ ((st.tolerance : Int) < d → (s.queue.records.map LoafRecord.tag).Nodup →
              exec (.eyeFilterExpiry e) s = exec (.eyeFilterExpiry e) ((s.reach c.expiry).lose r))

/-- O28. A match at E1 or E2 re-bases the record (R70). At E1 its charge C joins zone 0; with no divert reason it becomes TO_BAG, with any
it becomes DIVERTING at its reject-gate position, or, if that is late, the gate is driven at once and it leaves DIVERTED with its LATE flag
counted (R75, R76, R58, R130); a fetched record that becomes DIVERTING sets BAG_WITHDRAWN (R74). At E2 the bag-zone charge joins zone 1 and
the record becomes BAGGING, BLIND with BAG_BLIND if it was not fetched (R77). The start of blasts is judged on the charged load (R130, R135,
R136). The time up to the filter's expiry passes first (log 2). (A raw level change at a filter time of 0 does the same:
EyeFiltersFollowTheRules.) -/
def Obligations.MatchesAtE1AndE2 : Prop :=
  ∀ (s : State) (e : Eye) (c : PendingChange) (st : EyeStation) (before after : List LoafRecord) (r : LoafRecord),
    s.pos.filters.get e = ⟨.clear, some c⟩ → c.atH = true → s.eyeStation e = some st → s.queue.records = before ++ r :: after →
    (∀ x ∈ before, x.stage ≠ r.stage) → -(st.tolerance : Int) ≤ (c.captured - (r.reference + BitVec.ofNat 32 st.distance)).toInt →
    (c.captured - (r.reference + BitVec.ofNat 32 st.distance)).toInt ≤ (st.tolerance : Int) →
    let u := s.reach c.expiry
    let m : LoafRecord := { r with reference := c.captured - BitVec.ofNat 32 st.distance, lastMatch := some c.captured }
    let charge := (r.plan.map Plan.crumb).getD 0
    (e = .e1 → r.stage = .toSlicer →
      (r.reasons = ⟨false, false, false, false⟩ →
        ∃ t, exec (.eyeFilterExpiry e) s = .next t
          ∧ t.queue = { s.queue with records := replaced r.tag { m with stage := .toBag } s.queue.records }
          ∧ Charged u t .z0 charge ∧ BlastsJudged u t false ∧ OnlyTouches [.pos, .queue, .crumb, .line, .ports] u t)
      ∧ ∀ g, r.reasons ≠ ⟨false, false, false, false⟩ → s.gateStation .reject = some g →
        let q := firePosition c.captured (g.distance - st.distance) (lead s.pos.v g.latency)
        (0 < (q - s.pos.h).toInt →
          ∃ t, exec (.eyeFilterExpiry e) s = .next t
            ∧ t.queue = { s.queue with
                records := replaced r.tag { m with stage := .diverting, gateFire := some q } s.queue.records }
            ∧ (r.fetched = true → Noticed t .bagger .bagWithdrawn) ∧ Charged u t .z0 charge ∧ BlastsJudged u t false
            ∧ OnlyTouches [.pos, .queue, .crumb, .line, .ports] u t)
        ∧ ((q - s.pos.h).toInt ≤ 0 →
          ∃ t, exec (.eyeFilterExpiry e) s = .next t
            ∧ t.queue = { s.queue with records := without r.tag s.queue.records, rejectGate := .driven (u.now + g.pulse) }
            ∧ t.totals = { u.totals with
                openShift := u.totals.openShift.countLeave ((s.slot r.slot).product.map Product.code) { r with late := true }
                  .diverted }
            ∧ (r.fetched = true → Noticed t .bagger .bagWithdrawn) ∧ Charged u t .z0 charge ∧ BlastsJudged u t false
            ∧ OnlyTouches (.pos :: queueParts) u t))
    ∧ (e = .e2 → r.stage = .toBag →
      ∃ t, exec (.eyeFilterExpiry e) s = .next t
        ∧ t.queue = { s.queue with
            records := replaced r.tag { m with stage := .bagging, blind := r.blind || !r.fetched } s.queue.records }
        ∧ (r.fetched = false → Noticed t .bagger .bagBlind) ∧ Charged u t .z1 (roundNat charge 4) ∧ BlastsJudged u t false
        ∧ OnlyTouches [.pos, .queue, .crumb, .line, .ports] u t)

/-- O29. A match at E3 or E4 re-bases the record (R70). At E3 a record whose bag failed becomes TYING with no tie; any other becomes TYING
with its tie fire position, which joins the pending ties in the order of the queue, or, if it is late, has its fire taken at once, fired or
missed as R122 gives (R78, R121, R58). At E4 the record leaves with R81's outcome where no exit gate is fitted; otherwise it becomes EXITING
at its exit-gate position, or, if that is late, leaves at once with the gate driven unless it is GOOD (R79, R80). In every case no load
changes and the start of blasts is judged on where the loaves then are (R135, R136). The time up to the filter's expiry passes first (log
2). (A raw level change at a filter time of 0 does the same: EyeFiltersFollowTheRules.) -/
def Obligations.MatchesAtE3AndE4 : Prop :=
  ∀ (s : State) (e : Eye) (c : PendingChange) (st : EyeStation) (before after : List LoafRecord) (r : LoafRecord),
    s.pos.filters.get e = ⟨.clear, some c⟩ → c.atH = true → s.eyeStation e = some st → s.queue.records = before ++ r :: after →
    (s.queue.records.map LoafRecord.tag).Nodup → (∀ x ∈ before, x.stage ≠ r.stage) →
    -(st.tolerance : Int) ≤ (c.captured - (r.reference + BitVec.ofNat 32 st.distance)).toInt →
    (c.captured - (r.reference + BitVec.ofNat 32 st.distance)).toInt ≤ (st.tolerance : Int) →
    let u := s.reach c.expiry
    let m : LoafRecord := { r with reference := c.captured - BitVec.ofNat 32 st.distance, lastMatch := some c.captured }
    (e = .e3 → r.stage = .bagging →
      (r.result = some .fail →
        ∃ t, exec (.eyeFilterExpiry e) s = .next t
          ∧ t.queue = { s.queue with records := replaced r.tag { m with stage := .tying } s.queue.records }
          ∧ SameLoads u t ∧ BlastsJudged u t false ∧ OnlyTouches [.pos, .queue, .crumb] u t)
      ∧ ∀ y, r.result ≠ some .fail → s.tyerStation = some y →
        let q := firePosition c.captured (y.offset + (r.plan.map Plan.lc).getD 0 + y.neck) (lead s.pos.v y.latency)
        (0 < (q - s.pos.h).toInt →
          ∃ t ahead behind, exec (.eyeFilterExpiry e) s = .next t
            ∧ t.queue = { s.queue with records := replaced r.tag { m with stage := .tying, tieFire := some q } s.queue.records }
            ∧ s.bag.pendingTies = ahead ++ behind
            ∧ t.bag = { s.bag with pendingTies := ahead ++ ⟨r.tag, q⟩ :: behind }
            ∧ (∀ x ∈ ahead, ∀ y ∈ after, x.tag ≠ y.tag) ∧ (∀ x, behind.head? = some x → ∃ y ∈ after, y.tag = x.tag)
            ∧ SameLoads u t ∧ BlastsJudged u t false
            ∧ OnlyTouches [.pos, .queue, .bag, .crumb] u t)
        ∧ ((q - s.pos.h).toInt ≤ 0 →
          (s.bag.tyer = .ready → 0 < s.bag.magazine →
            ∃ t, exec (.eyeFilterExpiry e) s = .next t
              ∧ t.queue = { s.queue with
                  records := replaced r.tag { m with stage := .tying, tieFire := some q, late := true, tie := .inFlight }
                    s.queue.records }
              ∧ t.bag = { s.bag with
                  fireLine := .driven (u.now + 10)
                  tyer := .firing
                  tieInFlight := some ⟨r.tag, true, u.now + s.bag.tieTimeout⟩
                  magazine := s.bag.magazine - 1 }
              ∧ t.totals.openShift.clipsUsed = min (s.totals.openShift.clipsUsed + 1) 4294967295
              ∧ SameLoads u t ∧ BlastsJudged u t false ∧ OnlyTouches [.pos, .queue, .bag, .totals, .crumb, .line, .ports] u t)
          ∧ ∀ cause,
            (s.bag.tyer = .ready ∧ s.bag.magazine = 0 ∧ cause = .clipEmpty) ∨ (s.bag.tyer = .firing ∧ cause = .tyerBusy)
              ∨ (s.bag.tyer = .fault ∧ cause = .tyerFault) →
            ∃ t, exec (.eyeFilterExpiry e) s = .next t
              ∧ t.queue = { s.queue with
                  records := replaced r.tag { m with stage := .tying, tieFire := some q, late := true, tie := .missed }
                    s.queue.records }
              ∧ t.bag = { s.bag with lastMiss := some (r.tag, cause) } ∧ SameLoads u t ∧ BlastsJudged u t false
              ∧ OnlyTouches [.pos, .queue, .bag, .crumb] u t))
    ∧ (e = .e4 → r.stage = .tying →
      (s.gateStation .exit = none →
        ∃ t, exec (.eyeFilterExpiry e) s = .next t
          ∧ t.queue = { s.queue with records := without r.tag s.queue.records }
          ∧ t.totals = { u.totals with
              openShift := u.totals.openShift.countLeave ((s.slot r.slot).product.map Product.code) r r.exitOutcome }
          ∧ SameLoads u t ∧ BlastsJudged u t false ∧ OnlyTouches (.pos :: queueParts) u t)
      ∧ ∀ g, s.gateStation .exit = some g →
        let q := firePosition c.captured (g.distance - st.distance) (lead s.pos.v g.latency)
        (0 < (q - s.pos.h).toInt →
          ∃ t, exec (.eyeFilterExpiry e) s = .next t
            ∧ t.queue = { s.queue with
                records := replaced r.tag { m with stage := .exiting, gateFire := some q } s.queue.records }
            ∧ SameLoads u t ∧ BlastsJudged u t false ∧ OnlyTouches [.pos, .queue, .crumb] u t)
        ∧ ((q - s.pos.h).toInt ≤ 0 →
          ∃ t, exec (.eyeFilterExpiry e) s = .next t
            ∧ t.queue = { s.queue with
                records := without r.tag s.queue.records
                exitGate := if r.exitOutcome = .good then s.queue.exitGate else .driven (u.now + g.pulse) }
            ∧ t.totals = { u.totals with
                openShift := u.totals.openShift.countLeave ((s.slot r.slot).product.map Product.code) { r with late := true }
                  r.exitOutcome }
            ∧ SameLoads u t ∧ BlastsJudged u t false ∧ OnlyTouches (.pos :: queueParts) u t))

/-- O30. Convergent rounding (R44): the nearest integer, an exact half to the even neighbour, a negative quotient like its positive
counterpart. The lead is v times the latency over 256, rounded (R53). A fire position is the match position plus the travel less the lead,
and the match position itself when the lead exceeds the travel (R54). The crumb reduction never takes more than the load, and a yield of 256
takes all (R60). -/
def Obligations.ArithmeticOfPositions : Prop :=
  ((∀ a b : Nat, 0 < b →
      (2 * (roundNat a b * b) ≤ 2 * a + b ∧ 2 * a ≤ 2 * (roundNat a b * b) + b)
        ∧ (2 * (roundNat a b * b) = 2 * a + b ∨ 2 * a = 2 * (roundNat a b * b) + b → roundNat a b % 2 = 0))
    ∧ ∀ (a : Int) (b : Nat), roundInt (-a) b = -(roundInt a b) ∧ (0 ≤ a → roundInt a b = (roundNat a.natAbs b : Int)))
    ∧ (∀ v t : Nat, lead v t = roundNat (v * t) 256 ∧ (v ≤ 262080 → t ≤ 250 → lead v t ≤ 255938))
    ∧ (∀ (p : Pos) (travel l : Nat),
      (l ≤ travel → firePosition p travel l = p + BitVec.ofNat 32 (travel - l)) ∧ (travel < l → firePosition p travel l = p))
    ∧ (∀ load yield, yield ≤ 256 → roundNat (load * yield) 256 ≤ load ∧ reducedLoad load 256 = 0)
    ∧ ∀ load yield, reducedLoad load yield = load - roundNat (load * yield) 256

/-- O31. What an advance of H makes of the records. One past its loss deadline, or whose gate position H has reached, leaves; one that is
not due stays as it stands but for a tie status; nothing due is left (R72, R76, R80). SCHEDULE_GAP is released when H reaches its release
position, which then is absent, and stands until then (R101). A DIVERTING record reached by H drives the reject gate for its pulse (R76), an
EXITING one the exit gate unless it is GOOD (R80); with none such the gates stay. A record that alone is due is counted with its outcome,
QUEUE_FULL is released if the count falls to 40 (R84), and LOST_LOAF and BAG_WITHDRAWN are set for a lost one (R72, R74). That a deadline
already behind H is taken at the next advance is the model's reading (log 16). -/
def Obligations.AdvanceTakesWhatIsDue : Prop :=
  ∀ (s : State) (q : Quad), (s.queue.records.map LoafRecord.tag).Nodup → q = nextQuad s.pos.lines → s.pos.x = 0 →
    let h := s.pos.p + 1
    ∃ t, exec (.encoderStep q) s = .next t
      ∧ (∀ w, s.schedule.gapRelease = some w →
          ((w - h).toInt ≤ 0 → t.schedule.gapRelease = none ∧ t.held .scheduleGap = false)
            ∧ (0 < (w - h).toInt → t.schedule.gapRelease = some w ∧ t.held .scheduleGap = s.held .scheduleGap))
      ∧ (s.schedule.gapRelease = none → t.schedule.gapRelease = none ∧ t.held .scheduleGap = s.held .scheduleGap)
      ∧ (∀ r ∈ t.queue.records, t.outcomeAt h r = none)
      ∧ (∀ r ∈ s.queue.records, s.outcomeAt h r = none → ∃ x ∈ t.queue.records, x = { r with tie := x.tie })
      ∧ (∀ r ∈ s.queue.records, s.outcomeAt h r ≠ none → ∀ x ∈ t.queue.records, x.tag ≠ r.tag)
      ∧ (∀ g, s.gateStation .reject = some g →
          (∀ r ∈ s.queue.records, r.stage = .diverting → s.outcomeAt h r ≠ none → t.queue.rejectGate = .driven (s.now + g.pulse)))
      ∧ ((∀ r ∈ s.queue.records, r.stage = .diverting → s.outcomeAt h r = none) → t.queue.rejectGate = s.queue.rejectGate)
      ∧ (∀ g, s.gateStation .exit = some g →
          (∀ r ∈ s.queue.records, r.stage = .exiting → s.outcomeAt h r ≠ none → r.exitOutcome ≠ .good →
            t.queue.exitGate = .driven (s.now + g.pulse)))
      ∧ ((∀ r ∈ s.queue.records, r.stage = .exiting →
            s.outcomeAt h r = none ∨ r.exitOutcome = .good ∧ ∀ x ∈ s.bag.pendingTies, x.tag ≠ r.tag) →
          t.queue.exitGate = s.queue.exitGate)
      ∧ ∀ before r after o, s.queue.records = before ++ r :: after → (∀ x ∈ before ++ after, s.outcomeAt h x = none) →
        s.outcomeAt h r = some o → (∀ x ∈ s.bag.pendingTies, 0 < (x.position - h).toInt) →
        t.queue.records = before ++ after
          ∧ t.totals = { s.totals with
              openShift := s.totals.openShift.countLeave ((s.slot r.slot).product.map Product.code) r o }
          ∧ ((before ++ after).length = 40 → t.held .queueFull = false)
          ∧ ((before ++ after).length ≠ 40 → t.held .queueFull = s.held .queueFull)
          ∧ (o = .lost → Noticed t .office .lostLoaf
              ∧ (r.fetched = true → r.stage = .toSlicer ∨ r.stage = .toBag → Noticed t .bagger .bagWithdrawn))

/-- O32. A leave (R82): the records of that tag are gone and the others stay in order; the product entry of its code, a new one at the end,
or OTHER beyond 24 counts it: its outcome, late and blind, and for GOOD slices, shortest and longest (R154; OTHER too for a slot that holds
no code: the model's choice, log 21); the slot's in-flight count falls, and a RETIRING slot at 0 becomes EMPTY (R31); the entry whose id the
record carries counts it by R104's table, its carried count falls, and a FILLED entry at 0 becomes CLOSED with ENTRY_CLOSED (R105); its
pending tie is withdrawn, and the other ties, a tie in flight and its fire stay (R127; the mark that its record has left: log 17);
QUEUE_FULL is released when the count falls to 40, and no other hold changes (R84); the start of blasts is judged on the loaves that remain
(R135, R136). A loss is a leave with LOST_LOAF, and BAG_WITHDRAWN for a fetched record in TO_SLICER or TO_BAG (R72, R74). The outcome at the
exit is the first of R81's four that applies. -/
def Obligations.LeaveHandsTheRecordOn : Prop :=
  (∀ (s : State) (r : LoafRecord) (o : LeaveOutcome),
    (s.leave r o).queue.records = s.queue.records.filter (fun x => decide (x.tag ≠ r.tag))
      ∧ (s.leave r o).totals = { s.totals with
          openShift := s.totals.openShift.countLeave ((s.slot r.slot).product.map Product.code) r o }
      ∧ ((s.slot r.slot).state = .retiring → (s.slot r.slot).inFlight ≤ 1 →
          (s.leave r o).slot r.slot = { state := .empty, product := none, inFlight := 0 }
            ∧ Noticed (s.leave r o) .office .recipeFreed)
      ∧ ((s.slot r.slot).state ≠ .retiring ∨ 1 < (s.slot r.slot).inFlight →
          (s.leave r o).slot r.slot = { s.slot r.slot with inFlight := (s.slot r.slot).inFlight - 1 })
      ∧ (∀ i, i ≠ r.slot → (s.leave r o).slot i = s.slot i)
      ∧ (s.leave r o).bag = { s.bag with
          pendingTies := s.bag.pendingTies.filter fun x => decide (x.tag ≠ r.tag)
          tieInFlight := s.bag.tieInFlight.map fun f => if f.tag = r.tag then { f with present := false } else f }
      ∧ ((s.leave r o).queue.records.length = 40 →
          (s.leave r o).held .queueFull = false ∧ (s.held .queueFull = true → ∀ p, Noticed (s.leave r o) p .holdChanged))
      ∧ ((s.leave r o).queue.records.length ≠ 40 → (s.leave r o).held .queueFull = s.held .queueFull)
      ∧ (∀ x : HoldReason, x ≠ .queueFull → (s.leave r o).held x = s.held x)
      ∧ SameLoads s (s.leave r o) ∧ BlastsJudged s (s.leave r o) false ∧ OnlyTouches queueParts s (s.leave r o)
      ∧ (Noticed (s.lose r) .office .lostLoaf
          ∧ (r.fetched = true → r.stage = .toSlicer ∨ r.stage = .toBag → Noticed (s.lose r) .bagger .bagWithdrawn)
          ∧ OnlyTouches [.ports] (s.leave r .lost) (s.lose r)))
    ∧ (∀ (s : State) (r : LoafRecord) (o : LeaveOutcome), r.entry = none → (s.leave r o).schedule = s.schedule)
    ∧ (∀ (s : State) (r : LoafRecord) (o : LeaveOutcome) (e : Entry), r.entry = some e.id → e ∈ s.schedule.entries →
      (s.schedule.entries.map Entry.id).Nodup →
      let sized := r.reasons.undersize = true ∨ r.reasons.oversize = true
      let base : Entry := { e with
        carried := e.carried - 1, state := if e.state = .filled ∧ e.carried ≤ 1 then .closed else e.state }
      (e.state = .filled → e.carried ≤ 1 → Noticed (s.leave r o) .office .entryClosed)
        ∧ ∃ x, (s.leave r o).schedule = { s.schedule with
              entries := s.schedule.entries.map fun y => if y.id = e.id then x else y }
          ∧ (r.plan = none → x = { base with unmeasured := min (e.unmeasured + 1) 4294967295 })
          ∧ (r.plan ≠ none → sized →
              (o = .diverted → e.diverted < 4294967295 →
                x = { base with
                  diverted := min (e.diverted + 1) 4294967295, sizeDiverted := min (e.sizeDiverted + 1) 4294967295 })
              ∧ (o = .diverted → e.diverted = 4294967295 → x = base)
              ∧ (o = .lost ∨ o = .flushed → x = { base with sizeLost := min (e.sizeLost + 1) 4294967295 }))
          ∧ (r.plan ≠ none → ¬sized →
              (o = .diverted → x = { base with diverted := min (e.diverted + 1) 4294967295 })
              ∧ (o = .lost → x = { base with lost := min (e.lost + 1) 4294967295 })
              ∧ (o = .flushed → x = { base with flushed := min (e.flushed + 1) 4294967295 })
              ∧ (o = .good → x = { base with good := min (e.good + 1) 4294967295 })
              ∧ (o = .bagFail → x = { base with bagFail := min (e.bagFail + 1) 4294967295 })
              ∧ (o = .untied → x = { base with untied := min (e.untied + 1) 4294967295 })
              ∧ (o = .unconfirmed → x = { base with unconfirmed := min (e.unconfirmed + 1) 4294967295 })))
    ∧ (∀ (x : ShiftRecord) (r : LoafRecord) (o : LeaveOutcome),
      let inOther := fun code => ∃ y, x.countLeave code r o = { x with other := y } ∧ x.other.Counts y r o
      inOther none
        ∧ ∀ c,
          (∀ before e after, x.products = before ++ e :: after → e.code = c → (∀ y ∈ before ++ after, y.code ≠ c) →
            ∃ y, x.countLeave (some c) r o = { x with products := before ++ y :: after } ∧ e.Counts y r o)
          ∧ ((∀ e ∈ x.products, e.code ≠ c) → x.products.length < 24 →
            ∃ y, x.countLeave (some c) r o = { x with products := x.products ++ [y] }
              ∧ ProductEntry.Counts
                { code := c, good := 0, diverted := 0, lost := 0, bagFail := 0, untied := 0, unconfirmed := 0, flushed := 0
                  slices := 0, late := 0, blind := 0, shortest := none, longest := none } y r o)
          ∧ ((∀ e ∈ x.products, e.code ≠ c) → 24 ≤ x.products.length → inOther (some c)))
    ∧ (∀ r : LoafRecord,
    (r.result = some .fail → r.exitOutcome = .bagFail)
      ∧ (r.result ≠ some .fail → r.tie ≠ .tied → r.exitOutcome = .untied)
      ∧ (r.result = none → r.tie = .tied → r.exitOutcome = .unconfirmed)
      ∧ (r.result = some .ok → r.tie = .tied → r.exitOutcome = .good))

/-- O33. MARK_DIVERT of a record found by its tag follows its stage; a tag outside 1..255 is OUT_OF_RANGE, one held by no record
NO_SUCH_TAG, and a refusal changes nothing (R83). The response carries the tag and the record's stage and reasons, or no record (their
layout: log 10). -/
def Obligations.MarkDivertFollowsTheStage : Prop :=
  (∀ (s : State) (p : Port) (seq : Byte) (tag : Nat), p ≠ .bagger →
    (tag = 0 ∨ 255 < tag → exec (.markDivert p seq tag) s = .next (s.respond p 16 seq .outOfRange (u8 tag ++ u8 0 ++ u8 0 ++ u8 0)))
    ∧ (1 ≤ tag → tag ≤ 255 → s.record? tag = none →
      exec (.markDivert p seq tag) s = .next (s.respond p 16 seq .noSuchTag (u8 tag ++ u8 0 ++ u8 0 ++ u8 0))))
  ∧ ∀ (s : State) (p : Port) (seq : Byte) (tag : Nat) (r : LoafRecord), p ≠ .bagger → 1 ≤ tag → tag ≤ 255 → s.record? tag = some r →
    let marked : Reasons := { r.reasons with marked := true }
    (r.stage = .measuring ∨ r.stage = .toSlicer →
      ∃ t, exec (.markDivert p seq tag) s = .next t
        ∧ t.queue = { s.queue with
            records := s.queue.records.map fun x => if x.tag = tag then { r with reasons := marked } else x }
        ∧ Answers t p .markDivert seq .ok (u8 tag ++ u8 1 ++ u8 r.stage.code ++ u8 marked.code)
        ∧ OnlyTouches [.queue, .ports] s t)
    ∧ (r.stage = .diverting →
      exec (.markDivert p seq tag) s = .next (s.respond p 16 seq .ok (u8 tag ++ u8 1 ++ u8 3 ++ u8 r.reasons.code)))
    ∧ (r.stage = .bagging ∨ r.stage = .tying ∨ r.stage = .exiting →
      exec (.markDivert p seq tag) s =
        .next (s.respond p 16 seq .tooLate (u8 tag ++ u8 1 ++ u8 r.stage.code ++ u8 r.reasons.code)))
    ∧ (∀ m g e, r.stage = .toBag → r.lastMatch = some m → s.gateStation .reject = some g → s.eyeStation .e1 = some e →
      let q := firePosition m (g.distance - e.distance) (lead s.pos.v g.latency)
      (0 < (q - s.pos.h).toInt →
        ∃ t, exec (.markDivert p seq tag) s = .next t
          ∧ t.queue = { s.queue with
              records := s.queue.records.map fun x =>
                if x.tag = tag then { r with reasons := marked, stage := .diverting, gateFire := some q } else x }
          ∧ (r.fetched = true → Noticed t .bagger .bagWithdrawn)
          ∧ Answers t p .markDivert seq .ok (u8 tag ++ u8 1 ++ u8 3 ++ u8 marked.code) ∧ OnlyTouches [.queue, .ports] s t)
      ∧ ((q - s.pos.h).toInt ≤ 0 →
        exec (.markDivert p seq tag) s =
          .next (s.respond p 16 seq .tooLate (u8 tag ++ u8 1 ++ u8 4 ++ u8 r.reasons.code))))

/-! ## The schedule -/

/-- O34. SCHEDULE_APPEND with values in range, room in the list and a LOADED or ACTIVE slot adds one PENDING entry at the tail with all its
counts at 0, under an id no entry holds (R90, R92). Otherwise it is refused, in the order of R92's table: OUT_OF_RANGE, LIST_FULL,
SLOT_STATE; a refusal changes nothing and carries the list count. -/
def Obligations.AppendAddsAPendingEntry : Prop :=
  (∀ (s : State) (seq : Byte) (slot target gap stop : Nat), 15 < slot ∨ target = 0 ∨ 65535 < target ∨ 60000 < gap →
      exec (.scheduleAppend .office seq slot target gap stop) s =
        .next (s.respond .office 18 seq .outOfRange (u8 s.schedule.entries.length)))
  ∧ (∀ (s : State) (seq : Byte) (i : Fin 16) (target gap : Nat) (stop : Bool), 1 ≤ target → target ≤ 65535 → gap ≤ 60000 →
      (12 ≤ s.schedule.entries.length →
        exec (.scheduleAppend .office seq i.val target gap (if stop then 1 else 0)) s =
          .next (s.respond .office 18 seq .listFull (u8 s.schedule.entries.length)))
      ∧ (s.schedule.entries.length < 12 → (s.slot i).state = .empty ∨ (s.slot i).state = .retiring →
        exec (.scheduleAppend .office seq i.val target gap (if stop then 1 else 0)) s =
          .next (s.respond .office 18 seq .slotState (u8 s.schedule.entries.length))))
  ∧ ∀ (s : State) (seq : Byte) (i : Fin 16) (target gap : Nat) (stop : Bool),
    1 ≤ target → target ≤ 65535 → gap ≤ 60000 → s.schedule.entries.length < 12 →
    ((s.slot i).state = .loaded ∨ (s.slot i).state = .active) → 1 ≤ s.schedule.idCounter → s.schedule.idCounter ≤ 255 →
    ∃ t id, exec (.scheduleAppend .office seq i.val target gap (if stop then 1 else 0)) s = .next t
      ∧ (∀ e ∈ s.schedule.entries, e.id ≠ id) ∧ 1 ≤ id ∧ id ≤ 255
      ∧ (s.schedule.idCounter ∉ s.schedule.entries.map Entry.id → id = s.schedule.idCounter)
      ∧ t.schedule = { s.schedule with
          entries := s.schedule.entries ++
            [{ id := id, slot := i, target := target, gap := gap, stopAfter := stop, state := .pending, admitted := 0, carried := 0
               good := 0, bagFail := 0, untied := 0, unconfirmed := 0, lost := 0, flushed := 0, diverted := 0, sizeDiverted := 0
               sizeLost := 0, unmeasured := 0 }]
          idCounter := if id < 255 then id + 1 else 1 }
      ∧ Answers t .office .scheduleAppend seq .ok (u8 id ++ u8 (s.schedule.entries.length + 1))
      ∧ OnlyTouches [.schedule, .ports] s t

/-- O35. SCHEDULE_START by the schedule state (R93). SCHEDULE_RESUME by the schedule state: in SUSPENDED the schedule runs on and the ACTIVE
entry's slot is written; in IDLE only the stop is released; in ACTIVE nothing changes; each is answered OK (R94). The slot is written as R37
gives, with the changeover at once when no slot is ACTIVE (R35). The layout of the bodies: log 10. -/
def Obligations.StartAndResumeFollowTheState : Prop :=
  (∀ (s : State) (seq : Byte),
    (∀ e, s.schedule.state = .idle → s.firstPending = some e →
      ∃ t, exec (.scheduleStart .office seq) s = .next t
        ∧ t.schedule = { s.schedule with
            state := .active
            entries := s.schedule.entries.map fun x => if x.id = e.id then { x with state := .active } else x }
        ∧ t.held .scheduleStop = false ∧ ScheduleWrote s t e.slot
        ∧ Answers t .office .scheduleStart seq .ok (u8 1 ++ optional 1 (t.activeEntry.map fun x => u8 x.id))
        ∧ OnlyTouches [.schedule, .recipes, .line, .ports] s t)
    ∧ (s.schedule.state = .idle → s.firstPending = none →
      exec (.scheduleStart .office seq) s =
        .next (s.respond .office 19 seq .scheduleState (u8 0 ++ optional 1 (s.activeEntry.map fun e => u8 e.id))))
    ∧ (s.schedule.state = .active →
      exec (.scheduleStart .office seq) s =
        .next (s.respond .office 19 seq .ok (u8 1 ++ optional 1 (s.activeEntry.map fun e => u8 e.id))))
    ∧ (s.schedule.state = .suspended →
      exec (.scheduleStart .office seq) s =
        .next (s.respond .office 19 seq .scheduleState (u8 2 ++ optional 1 (s.activeEntry.map fun e => u8 e.id)))))
    ∧ (∀ (s : State) (seq : Byte),
    (∀ e, s.schedule.state = .suspended → s.activeEntry = some e →
      ∃ t, exec (.scheduleResume .office seq) s = .next t
        ∧ t.schedule = { s.schedule with state := .active } ∧ t.held .scheduleStop = false ∧ ScheduleWrote s t e.slot
        ∧ Answers t .office .scheduleResume seq .ok (u8 1 ++ u8 1 ++ u8 e.id ++ u8 0)
        ∧ OnlyTouches [.schedule, .recipes, .line, .ports] s t)
    ∧ (s.schedule.state = .idle →
      ∃ t, exec (.scheduleResume .office seq) s = .next t ∧ t.held .scheduleStop = false
        ∧ (∀ r : HoldReason, r ≠ .scheduleStop → t.held r = s.held r)
        ∧ Answers t .office .scheduleResume seq .ok (u8 0 ++ optional 1 (s.activeEntry.map fun e => u8 e.id) ++ u8 0)
        ∧ OnlyTouches [.line, .ports] s t)
    ∧ (s.schedule.state = .active →
      exec (.scheduleResume .office seq) s =
        .next (s.respond .office 20 seq .ok
          (u8 1 ++ optional 1 (s.activeEntry.map fun e => u8 e.id) ++ yesNo (s.held .scheduleStop)))))

/-- O36. SCHEDULE_CANCEL (R95): a PENDING entry is removed; an ACTIVE one fills at its admitted count without gap or stop, and the next
entry is reached as at a fill: an ACTIVE schedule writes its slot (R100, R37); at a carried count of 0 it closes at once, with ENTRY_CLOSED
(R105); the other entries stay, and the answer is OK with the entry as it then stands; a FILLED or CLOSED one is refused SCHEDULE_STATE, an
id outside 1..255 OUT_OF_RANGE, one that no entry holds NOT_FOUND, and a refusal changes nothing. The layout of the bodies: log 10. -/
def Obligations.CancelFollowsTheEntry : Prop :=
  (∀ (s : State) (seq : Byte) (id : Nat),
    (id = 0 ∨ 255 < id →
      exec (.scheduleCancel .office seq id) s =
        .next (s.respond .office 21 seq .outOfRange (u8 s.schedule.state.code ++ u8 s.schedule.entries.length)))
    ∧ (1 ≤ id → id ≤ 255 → (∀ e ∈ s.schedule.entries, e.id ≠ id) →
      exec (.scheduleCancel .office seq id) s =
        .next (s.respond .office 21 seq .notFound (u8 s.schedule.state.code ++ u8 s.schedule.entries.length))))
  ∧ ∀ (s : State) (seq : Byte) (e : Entry), 1 ≤ e.id → e.id ≤ 255 → s.entry? e.id = some e →
    (e.state = .pending →
      exec (.scheduleCancel .office seq e.id) s =
        .next ((s.setSchedule { s.schedule with
            entries := s.schedule.entries.filter fun x => decide (x.id ≠ e.id) }).respond .office 21 seq .ok
          (u8 s.schedule.state.code ++ u8 (s.schedule.entries.filter fun x => decide (x.id ≠ e.id)).length)))
    ∧ (e.state = .active → (s.schedule.entries.map Entry.id).Nodup →
      let x := { e with target := e.admitted, state := if e.carried = 0 then .closed else .filled }
      ∃ t, exec (.scheduleCancel .office seq e.id) s = .next t
        ∧ t.schedule.entries = s.schedule.entries.map (fun y =>
            if y.id = e.id then x else if some y.id = s.firstPending.map Entry.id then { y with state := .active } else y)
        ∧ (e.carried = 0 → Noticed t .office .entryClosed)
        ∧ (e.carried ≠ 0 → (Noticed t .office .entryClosed ↔ Noticed s .office .entryClosed))
        ∧ t.schedule.idCounter = s.schedule.idCounter ∧ t.schedule.gapRelease = s.schedule.gapRelease
        ∧ t.held .scheduleGap = s.held .scheduleGap ∧ t.held .scheduleStop = s.held .scheduleStop
        ∧ (s.firstPending = none → t.schedule.state = .idle)
        ∧ ((∀ y ∈ s.schedule.entries, y.state = .active → y.id = e.id) →
            t.activeEntry = s.firstPending.map fun n => { n with state := .active })
        ∧ (∀ n, s.firstPending = some n →
            t.schedule.state = s.schedule.state ∧ t.activeEntry ≠ none
              ∧ (s.schedule.state = .active → ScheduleWrote s t n.slot))
        ∧ Answers t .office .scheduleCancel seq .ok (x.values (s.schedule.entries.findIdx fun y => decide (y.id = e.id)))
        ∧ (s.firstPending = none ∨ s.schedule.state ≠ .active → t.recipes = s.recipes)
        ∧ OnlyTouches [.schedule, .recipes, .line, .ports] s t)
    ∧ (e.state = .filled ∨ e.state = .closed →
      exec (.scheduleCancel .office seq e.id) s =
        .next (s.respond .office 21 seq .scheduleState (u8 s.schedule.state.code ++ u8 s.schedule.entries.length)))

/-- O37. SCHEDULE_REAP removes the CLOSED entries at the head and no other (R96); SCHEDULE_READ by position or by id answers with the
schedule's standing and the entry, value by value, and changes nothing; a position above 11 or an id outside 1..255 is OUT_OF_RANGE, a
position beyond the list or an id that no entry holds NOT_FOUND (R97). The layout of the bodies: log 10. -/
def Obligations.ReapAndScheduleRead : Prop :=
  ∀ (s : State) (seq : Byte),
    (∀ closed rest, s.schedule.entries = closed ++ rest → (∀ e ∈ closed, e.state = .closed) →
      (∀ e, rest.head? = some e → e.state ≠ .closed) →
      exec (.scheduleReap .office seq) s =
        .next ((s.setSchedule { s.schedule with entries := rest }).respond .office 22 seq .ok
          (u8 closed.length ++ u8 rest.length)))
    ∧ (∀ n e, n ≤ 11 → s.schedule.entries[n]? = some e →
      exec (.scheduleRead .office seq 1 n) s = .next (s.respond .office 23 seq .ok (s.scheduleValues n e)))
    ∧ (let refused := fun result => s.respond .office 23 seq result (u8 s.schedule.state.code ++ u8 s.schedule.entries.length);
        (∀ n, 11 < n → exec (.scheduleRead .office seq 1 n) s = .next (refused .outOfRange))
          ∧ (∀ n, n ≤ 11 → s.schedule.entries.length ≤ n → exec (.scheduleRead .office seq 1 n) s = .next (refused .notFound))
          ∧ (∀ id, id = 0 ∨ 255 < id → exec (.scheduleRead .office seq 0 id) s = .next (refused .outOfRange))
          ∧ ∀ id, 1 ≤ id → id ≤ 255 → (∀ e ∈ s.schedule.entries, e.id ≠ id) →
            exec (.scheduleRead .office seq 0 id) s = .next (refused .notFound))
    ∧ (∀ e, 1 ≤ e.id → e.id ≤ 255 → s.entry? e.id = some e →
      exec (.scheduleRead .office seq 0 e.id) s =
        .next (s.respond .office 23 seq .ok
          (s.scheduleValues (s.schedule.entries.findIdx fun x => decide (x.id = e.id)) e)))

/-- O38. Admission at the planning of a record (R99), and the fill of its entry (R100 to R103). A record with no entry id, or with a size
reason, leaves the schedule as it is and keeps its id. Otherwise an ACTIVE entry admits it; when that reaches the target, the entry becomes
FILLED, its gap is judged, and the next PENDING entry becomes ACTIVE, or the schedule IDLE; stop-after places SCHEDULE_STOP and suspends,
and without it an ACTIVE schedule writes the next entry's slot (R37). Of a FILLED entry the id is withdrawn, and the entry closes when its
carried count reaches 0 (R105). (A raw level change at a filter time of 0 does the same: EyeFiltersFollowTheRules.) -/
def Obligations.AdmissionAndFill : Prop :=
  ∀ (s : State) (c : PendingChange) (before after : List LoafRecord) (r : LoafRecord) (q : Product),
    s.pos.filters.e0 = ⟨.dark, some c⟩ → c.atH = true → (s.queue.records.map LoafRecord.tag).Nodup →
    (s.schedule.entries.map Entry.id).Nodup → s.queue.records = before ++ r :: after → r.stage = .measuring →
    (∀ x ∈ before, x.stage ≠ .measuring) → (s.slot r.slot).product = some q →
    let reasons := (makePlan r.reference c.captured s.pos.config q (s.held .bladeMismatch)).2
    ∃ t x, exec (.eyeFilterExpiry .e0) s = .next t ∧ t.record? r.tag = some x
      ∧ (r.entry = none ∨ reasons.undersize = true ∨ reasons.oversize = true → t.schedule = s.schedule ∧ x.entry = r.entry)
      ∧ ∀ e ∈ s.schedule.entries, r.entry = some e.id → reasons.undersize = false → reasons.oversize = false →
        (e.state = .active → x.entry = some e.id)
        ∧ (e.state = .active → e.admitted + 1 < e.target →
          t.schedule = { s.schedule with
            entries := s.schedule.entries.map fun y => if y.id = e.id then { e with admitted := e.admitted + 1 } else y })
        ∧ (e.state = .active → e.target ≤ e.admitted + 1 → 1 ≤ e.carried →
          t.schedule.idCounter = s.schedule.idCounter
          ∧ t.schedule.entries = s.schedule.entries.map (fun y =>
              if y.id = e.id then { e with admitted := e.admitted + 1, state := .filled }
              else if some y.id = s.firstPending.map Entry.id then { y with state := .active } else y)
          ∧ (let release := c.captured + BitVec.ofNat 32 e.gap
            (e.gap = 0 ∨ (release - s.pos.h).toInt ≤ 0 →
              t.schedule.gapRelease = s.schedule.gapRelease ∧ t.held .scheduleGap = s.held .scheduleGap)
            ∧ (e.gap ≠ 0 → 0 < (release - s.pos.h).toInt →
              t.held .scheduleGap = true
                ∧ (s.schedule.gapRelease = none → t.schedule.gapRelease = some release)
                ∧ ∀ w, s.schedule.gapRelease = some w →
                  t.schedule.gapRelease = some (if 0 < (release - w).toInt then release else w)))
          ∧ (e.stopAfter = true → t.held .scheduleStop = true ∧ t.recipes = s.recipes)
          ∧ (e.stopAfter = false → t.held .scheduleStop = s.held .scheduleStop)
          ∧ (s.firstPending = none → t.schedule.state = .idle ∧ t.recipes = s.recipes)
          ∧ ∀ n, s.firstPending = some n →
            (e.stopAfter = true →
              t.schedule.state = (if s.schedule.state = .active then .suspended else s.schedule.state)
                ∧ (s.schedule.state = .active → Noticed t .office .scheduleSuspended))
            ∧ (e.stopAfter = false → t.schedule.state = s.schedule.state
                ∧ (s.schedule.state ≠ .active → t.recipes = s.recipes)
                ∧ (s.schedule.state = .active → ScheduleWrote s t n.slot)))
        ∧ (e.state = .filled →
          x.entry = none
            ∧ t.schedule = { s.schedule with
                entries := s.schedule.entries.map fun y =>
                  if y.id = e.id then
                    { e with carried := e.carried - 1, state := if e.carried ≤ 1 then .closed else .filled }
                  else y }
            ∧ (e.carried ≤ 1 → Noticed t .office .entryClosed))

/-! ## Bags, clips, the tyer -/

/-- O39. BAG_NEXT offers the oldest planned, unfetched record in TO_SLICER or TO_BAG, marks it fetched and changes nothing else; with none
it is refused NOT_FOUND (R109). BAG_RESULT: a record past E2 takes the result, one before it is NOT_EXPECTED, none is NO_SUCH_TAG, a tag
outside 1..255 or a value that is no result OUT_OF_RANGE, and a refusal changes nothing (R112; the bodies of refusals: log 11). The presence
bytes of its body are the model's reading (log 10). -/
def Obligations.BagNextAndBagResult : Prop :=
  (∀ (s : State) (seq : Byte),
    (∀ before r after pl q, s.queue.records = before ++ r :: after → r.plan = some pl → (r.stage = .toSlicer ∨ r.stage = .toBag) →
      r.fetched = false → (s.slot r.slot).product = some q →
      (∀ x ∈ before, x.plan = none ∨ (x.stage ≠ .toSlicer ∧ x.stage ≠ .toBag) ∨ x.fetched = true) →
      exec (.bagNext .bagger seq) s =
        .next ((s.setQueue { s.queue with
            records := s.queue.records.map fun x => if x.tag = r.tag then { x with fetched := true } else x }).respond .bagger 24 seq
          .ok (u8 r.tag ++ u16 q.code ++ u8 pl.bagClass ++ u8 pl.n ++ u16 (printCode s.bag r q.shelf))))
    ∧ ((∀ x ∈ s.queue.records, x.plan = none ∨ (x.stage ≠ .toSlicer ∧ x.stage ≠ .toBag) ∨ x.fetched = true) →
      exec (.bagNext .bagger seq) s = .next (s.respond .bagger 24 seq .notFound (u8 s.queue.records.length))))
    ∧ (∀ (s : State) (seq : Byte) (tag : Nat), 1 ≤ tag → tag ≤ 255 →
    (∀ r x, s.record? tag = some r → (r.stage = .bagging ∨ r.stage = .tying ∨ r.stage = .exiting) →
      ∃ t, exec (.bagResult .bagger seq tag (if x = BagResult.ok then 0 else 1)) s = .next t
        ∧ t.queue = { s.queue with
            records := s.queue.records.map fun y => if y.tag = tag then { y with result := some x } else y }
        ∧ Answers t .bagger .bagResult seq .ok (u8 tag ++ u8 1 ++ u8 r.stage.code ++ u8 1 ++ u8 x.code)
        ∧ OnlyTouches [.queue, .ports] s t)
    ∧ (∀ r n, n ≤ 1 → s.record? tag = some r → r.stage ≠ .bagging → r.stage ≠ .tying → r.stage ≠ .exiting →
      ∃ body, exec (.bagResult .bagger seq tag n) s = .next (s.respond .bagger 25 seq .notExpected body))
    ∧ (∀ n, n ≤ 1 → s.record? tag = none →
      ∃ body, exec (.bagResult .bagger seq tag n) s = .next (s.respond .bagger 25 seq .noSuchTag body))
    ∧ ∀ n, 1 < n → ∃ body, exec (.bagResult .bagger seq tag n) s = .next (s.respond .bagger 25 seq .outOfRange body))
    ∧ ∀ (s : State) (seq : Byte) (tag n : Nat), tag = 0 ∨ 255 < tag →
      ∃ body, exec (.bagResult .bagger seq tag n) s = .next (s.respond .bagger 25 seq .outOfRange body)

/-- O40. The print code of R117 and its word of 11.7, for every day, shelf life, year digit, colour and leap flag in range. -/
def Obligations.PrintCodeFollowsR117 : Prop :=
  ∀ (b : BagClipUnit) (r : LoafRecord) (shelf : Nat),
    1 ≤ r.day → r.day ≤ 366 → 1 ≤ shelf → shelf ≤ 30 → b.date.yearDigit ≤ 9 → ∀ w : Fin 7, r.weekday = w.val → b.colours.get w ≤ 7 →
    let year := if b.date.leap then 366 else 365
    let day := if year < r.day + shelf then r.day + shelf - year else r.day + shelf
    let digit := if year < r.day + shelf then (b.date.yearDigit + 1) % 10 else b.date.yearDigit
    printCode b r shelf / 128 = day ∧ printCode b r shelf / 8 % 16 = digit ∧ printCode b r shelf % 8 = b.colours.get w
      ∧ 1 ≤ day ∧ day ≤ 366 ∧ printCode b r shelf < 65536

/-- O41. DATE_SET and COLOUR_TABLE with values in range replace the date and the table whole; the first date releases NO_DATE (R114, R115,
R116). CLIP_RELOAD and CLIP_CONFIG (R118, R119, R120): the count or the two values are replaced; CLIP_EMPTY stands exactly at a count of 0;
CLIP_LOW is set when the magazine becomes low that was not. The answers of the two carry the tyer view (R126). A value out of its range, and
a day 366 without the leap flag, is OUT_OF_RANGE, and a refusal changes nothing (its body: log 11). The layout of the bodies: log 10. -/
def Obligations.DateColoursAndClipsAreReplaced : Prop :=
  (∀ (s : State) (seq : Byte),
    (∀ day digit weekday leap, 1 ≤ day → day ≤ 366 → digit ≤ 9 → weekday ≤ 6 → (day ≤ 365 ∨ leap = true) →
      ∃ t, exec (.dateSet .office seq day digit weekday (if leap then 1 else 0)) s = .next t
        ∧ t.bag = { s.bag with date := ⟨day, digit, weekday, leap⟩, dateSet := true }
        ∧ t.held .noDate = false ∧ (∀ r : HoldReason, r ≠ .noDate → t.held r = s.held r)
        ∧ Answers t .office .dateSet seq .ok
            (u16 day ++ u8 digit ++ u8 weekday ++ u8 (if leap then 1 else 0) ++ u8 1 ++ u8 0)
        ∧ OnlyTouches [.bag, .line, .ports] s t)
    ∧ (∀ day digit weekday leap, day = 0 ∨ 366 < day ∨ 9 < digit ∨ 6 < weekday ∨ 1 < leap ∨ day = 366 ∧ leap = 0 →
      ∃ body, exec (.dateSet .office seq day digit weekday leap) s = .next (s.respond .office 26 seq .outOfRange body))
    ∧ (∀ c0 c1 c2 c3 c4 c5 c6, 7 < c0 ∨ 7 < c1 ∨ 7 < c2 ∨ 7 < c3 ∨ 7 < c4 ∨ 7 < c5 ∨ 7 < c6 →
      ∃ body, exec (.colourTable .office seq c0 c1 c2 c3 c4 c5 c6) s = .next (s.respond .office 27 seq .outOfRange body))
    ∧ (∀ c0 c1 c2 c3 c4 c5 c6, c0 ≤ 7 → c1 ≤ 7 → c2 ≤ 7 → c3 ≤ 7 → c4 ≤ 7 → c5 ≤ 7 → c6 ≤ 7 →
      exec (.colourTable .office seq c0 c1 c2 c3 c4 c5 c6) s =
        .next ((s.setBag { s.bag with colours := #v[c0, c1, c2, c3, c4, c5, c6] }).respond .office 27 seq .ok
          (u8 c0 ++ u8 c1 ++ u8 c2 ++ u8 c3 ++ u8 c4 ++ u8 c5 ++ u8 c6))))
    ∧ (∀ (s : State) (seq : Byte),
    (∀ count, count ≤ 65535 →
      ∃ t, exec (.clipReload .bagger seq count) s = .next t ∧ t.bag = { s.bag with magazine := count }
        ∧ (t.held .clipEmpty = true ↔ count = 0) ∧ (∀ r : HoldReason, r ≠ .clipEmpty → t.held r = s.held r)
        ∧ (s.bag.lowThreshold < s.bag.magazine → count ≤ s.bag.lowThreshold → Noticed t .bagger .clipLow)
        ∧ Answers t .bagger .clipReload seq .ok t.tyerValues ∧ OnlyTouches [.bag, .line, .ports] s t)
    ∧ (∀ count, 65535 < count →
      ∃ body, exec (.clipReload .bagger seq count) s = .next (s.respond .bagger 28 seq .outOfRange body))
    ∧ (∀ threshold timeout, 65535 < threshold ∨ timeout < 20 ∨ 500 < timeout →
      ∃ body, exec (.clipConfig .office seq threshold timeout) s = .next (s.respond .office 29 seq .outOfRange body))
    ∧ ∀ threshold timeout, threshold ≤ 65535 → 20 ≤ timeout → timeout ≤ 500 →
      ∃ t, exec (.clipConfig .office seq threshold timeout) s = .next t
        ∧ t.bag = { s.bag with lowThreshold := threshold, tieTimeout := timeout }
        ∧ (s.bag.lowThreshold < s.bag.magazine → s.bag.magazine ≤ threshold → Noticed t .bagger .clipLow)
        ∧ Answers t .office .clipConfig seq .ok t.tyerValues ∧ OnlyTouches [.bag, .line, .ports] s t)

/-- O42. The fire of a tie (R122), by the tyer state and the magazine count: fired, or missed with its cause. An advance of H that reaches a
pending tie takes the tie off the list and takes its fire (R121); the ties it does not reach stay. Where the same advance makes a record
leave, the order is free (log 15), so these clauses are of an advance that makes none leave. (A late tie position has its fire taken within
the E3 match: MatchesAtE3AndE4.) -/
def Obligations.TieFiresFollowR122 : Prop :=
  (∀ (s : State) (tag : Nat),
    (s.bag.tyer = .ready → 0 < s.bag.magazine →
      (s.takeTieFire tag).bag = { s.bag with
          fireLine := .driven (s.now + 10)
          tyer := .firing
          tieInFlight := some ⟨tag, true, s.now + s.bag.tieTimeout⟩
          magazine := s.bag.magazine - 1 }
        ∧ (s.takeTieFire tag).totals.openShift.clipsUsed = min (s.totals.openShift.clipsUsed + 1) 4294967295
        ∧ ((s.takeTieFire tag).held .clipEmpty = true ↔ s.bag.magazine = 1)
        ∧ (s.takeTieFire tag).queue = { s.queue with
            records := s.queue.records.map fun r => if r.tag = tag then { r with tie := .inFlight } else r })
    ∧ (∀ cause,
      (s.bag.tyer = .ready ∧ s.bag.magazine = 0 ∧ cause = .clipEmpty) ∨ (s.bag.tyer = .firing ∧ cause = .tyerBusy)
        ∨ (s.bag.tyer = .fault ∧ cause = .tyerFault) →
      s.takeTieFire tag =
        (s.setBag { s.bag with lastMiss := some (tag, cause) }).setQueue { s.queue with
          records := s.queue.records.map fun r => if r.tag = tag then { r with tie := .missed } else r }))
    ∧ ∀ (s : State) (q : Quad), q = nextQuad s.pos.lines → s.pos.x = 0 → (s.bag.pendingTies.map PendingTie.tag).Nodup →
      (∀ r ∈ s.queue.records, s.outcomeAt (s.pos.p + 1) r = none) →
      ∃ t, exec (.encoderStep q) s = .next t
        ∧ t.bag.pendingTies = s.bag.pendingTies.filter (fun x => decide (0 < (x.position - (s.pos.p + 1)).toInt))
        ∧ ((∀ x ∈ s.bag.pendingTies, 0 < (x.position - (s.pos.p + 1)).toInt) → t.bag = s.bag ∧ t.queue = s.queue)
        ∧ ∀ before x after, s.bag.pendingTies = before ++ x :: after → (x.position - (s.pos.p + 1)).toInt ≤ 0 →
          (∀ y ∈ before ++ after, 0 < (y.position - (s.pos.p + 1)).toInt) →
          (s.bag.tyer = .ready → 0 < s.bag.magazine →
            t.bag = { s.bag with
                pendingTies := before ++ after
                fireLine := .driven (s.now + 10)
                tyer := .firing
                tieInFlight := some ⟨x.tag, true, s.now + s.bag.tieTimeout⟩
                magazine := s.bag.magazine - 1 }
              ∧ t.totals.openShift.clipsUsed = min (s.totals.openShift.clipsUsed + 1) 4294967295
              ∧ t.queue = { s.queue with
                  records := s.queue.records.map fun r => if r.tag = x.tag then { r with tie := .inFlight } else r })
          ∧ ∀ cause,
            (s.bag.tyer = .ready ∧ s.bag.magazine = 0 ∧ cause = .clipEmpty) ∨ (s.bag.tyer = .firing ∧ cause = .tyerBusy)
              ∨ (s.bag.tyer = .fault ∧ cause = .tyerFault) →
            t.bag = { s.bag with pendingTies := before ++ after, lastMiss := some (x.tag, cause) }
              ∧ t.queue = { s.queue with
                  records := s.queue.records.map fun r => if r.tag = x.tag then { r with tie := .missed } else r }

/-- O43. What ends a tie: a done in FIRING makes the tyer READY and the record TIED (R123); the timeout makes it FAULT, places TYER_FAULT
and the record is MISSED (R124); TYER_RESET makes a FAULT tyer READY and releases TYER_FAULT, and of another changes nothing; its answer
carries the tyer view (R125, R126; layout: log 10). Of a record that has left, nothing changes. -/
def Obligations.TyerEndsFollowTheRules : Prop :=
  (∀ (s : State) (f : TieInFlight), s.bag.tyer = .firing → s.bag.tieInFlight = some f →
      exec .tyerDone s =
        .next ((s.setBag { s.bag with tyer := .ready, tieInFlight := none }).setQueue { s.queue with
          records := if f.present then s.queue.records.map fun r => if r.tag = f.tag then { r with tie := .tied } else r
            else s.queue.records }))
    ∧ (∀ s : State, s.bag.tyer ≠ .firing → exec .tyerDone s = .next s)
    ∧ (∀ (s : State) (f : TieInFlight), s.bag.tyer = .firing → s.bag.tieInFlight = some f →
      ∃ t, exec .tieTimeoutExpiry s = .next t
        ∧ t.bag = { s.bag with tyer := .fault, tieInFlight := none, lastMiss := some (f.tag, .tyerFault) }
        ∧ t.queue = { s.queue with
            records := if f.present then s.queue.records.map fun r => if r.tag = f.tag then { r with tie := .missed } else r
              else s.queue.records }
        ∧ t.held .tyerFault = true ∧ (∀ r : HoldReason, r ≠ .tyerFault → t.held r = s.held r)
        ∧ Noticed t .bagger .tyerFault ∧ OnlyTouches [.now, .totals, .bag, .queue, .line, .ports] s t)
    ∧ ∀ (s : State) (seq : Byte),
      (s.bag.tyer = .fault →
        ∃ t, exec (.tyerReset .bagger seq) s = .next t ∧ t.bag = { s.bag with tyer := .ready } ∧ t.held .tyerFault = false
          ∧ (∀ r : HoldReason, r ≠ .tyerFault → t.held r = s.held r)
          ∧ Answers t .bagger .tyerReset seq .ok t.tyerValues ∧ OnlyTouches [.bag, .line, .ports] s t)
      ∧ (s.bag.tyer ≠ .fault →
        exec (.tyerReset .bagger seq) s = .next (s.respond .bagger 30 seq .ok s.tyerValues))

/-! ## Crumb -/

/-- O44. A fitted zone is occupied while a record's nose is at or beyond the bar's distance less its half-span less the blast counts, and
its tail at or before the distance plus the half-span; the occupant is the oldest such record, and an unfitted zone has none (R133, R134,
R59). An advance of H, which drops the purges owed if it ends IDLE, judges the start of both zones' blasts on where the loaves then are
(R135, R136); that the line has left IDLE before they are judged is the model's choice (log 14). A reverse step at the excursion limit,
which lowers H, judges none: the model's choice (log 27). CRUMB_CONFIG with thresholds in range replaces them, and CRUMB_FULL and the start
of a blast are judged (R131, R132, R135); CRUMB_CLEAR of a fitted zone makes a manual clear pending, or changes nothing where one is (R139),
and a blast that starts is driven for the bar's blast time (R136); each is answered OK with the zone view (its layout: log 10; the B of an
unfitted zone is given as 0, the model's choice: log 12). A zone other than 0 and 1, and thresholds out of range or not in order, are
OUT_OF_RANGE, a clear of an unfitted zone NOT_FOUND, and a refusal changes nothing (R131, R139). -/
def Obligations.OccupancyBlastsAndCrumbRequests : Prop :=
  (∀ (s : State) (z : Zone),
    ((s.zone z).fitted = false → s.occupant z = none)
      ∧ ∀ b, (s.zone z).fitted = true → s.bar z = some b →
        let nose := fun r : LoafRecord => (s.pos.h - r.reference).toInt
        let occupies := fun r : LoafRecord =>
          (b.distance : Int) - b.halfSpan - roundNat (s.pos.v * b.blastTime) 256 ≤ nose r
            ∧ (match r.plan with | some pl => nose r - (pl.lc : Int) | none => 0) ≤ (b.distance : Int) + b.halfSpan
        (s.occupant z = none ↔ ∀ r ∈ s.queue.records, ¬ occupies r)
          ∧ ∀ before r after, s.queue.records = before ++ r :: after → occupies r → (∀ x ∈ before, ¬ occupies x) →
            s.occupant z = some r)
    ∧ (∀ (s : State) (q : Quad), q = nextQuad s.pos.lines → s.pos.x = 0 →
      ∃ t, exec (.encoderStep q) s = .next t ∧ BlastsJudged s t (decide (s.line.state = .idle))
        ∧ SameLoads s t)
    ∧ (∀ (s : State) (q : Quad), nextQuad q = s.pos.lines → s.pos.x = 2147483647 →
      ∃ t, exec (.encoderStep q) s = .next t ∧ OnlyTouches [.pos] s t)
    ∧ (∀ (s : State) (seq : Byte) (z : Zone) (soft hard : Nat), 1 ≤ soft → soft < hard → hard ≤ 65535 →
      ∃ t, exec (.crumbConfig .office seq (zoneCode z) soft hard) s = .next t
        ∧ (t.zone z).soft = soft ∧ (t.zone z).hard = hard ∧ (t.zone z).load = (s.zone z).load
        ∧ (t.zone z).fitted = (s.zone z).fitted ∧ (t.zone z).manualClear = (s.zone z).manualClear
        ∧ (∀ w, w ≠ z → t.zone w = s.zone w)
        ∧ (hard ≤ (s.zone z).load → t.held (fullReason z) = true)
        ∧ ((s.zone z).load < soft → t.held (fullReason z) = false)
        ∧ (soft ≤ (s.zone z).load → (s.zone z).load < hard → t.held (fullReason z) = s.held (fullReason z))
        ∧ (∀ r : HoldReason, r ≠ fullReason z → t.held r = s.held r)
        ∧ ((s.zone z).blastEnd ≠ none → (t.zone z).blastEnd = (s.zone z).blastEnd)
        ∧ (∀ b, (s.zone z).fitted = true → (s.zone z).blastEnd = none → s.bar z = some b →
            let wanted := soft ≤ (s.zone z).load ∨ (s.zone z).manualClear = true ∨ (s.zone z).purgeOwed = true
            (wanted → s.occupant z = none →
                (t.zone z).blastEnd = some (s.now + b.blastTime) ∧ (t.zone z).valve = .driven ∧ (t.zone z).purgeOwed = false)
              ∧ (¬wanted ∨ s.occupant z ≠ none → (t.zone z).blastEnd = none ∧ (t.zone z).valve = (s.zone z).valve))
        ∧ Answers t .office .crumbConfig seq .ok (t.zoneValues z) ∧ OnlyTouches [.crumb, .line, .ports] s t)
    ∧ (∀ (s : State) (seq : Byte) (zone soft hard : Nat),
      1 < zone ∨ soft < 1 ∨ 65534 < soft ∨ hard < 2 ∨ 65535 < hard ∨ hard ≤ soft →
      ∃ body, exec (.crumbConfig .office seq zone soft hard) s = .next (s.respond .office 31 seq .outOfRange body))
    ∧ ∀ (s : State) (p : Port) (seq : Byte), p ≠ .slicer →
      (∀ z,
        ((s.zone z).fitted = true → (s.zone z).manualClear = true →
          exec (.crumbClear p seq (zoneCode z)) s = .next (s.respond p 32 seq .ok (s.zoneValues z)))
        ∧ ((s.zone z).fitted = true →
          ∃ t, exec (.crumbClear p seq (zoneCode z)) s = .next t ∧ (t.zone z).manualClear = true
            ∧ (∀ w, w ≠ z → t.zone w = s.zone w)
            ∧ (t.zone z).load = (s.zone z).load ∧ (t.zone z).soft = (s.zone z).soft ∧ (t.zone z).hard = (s.zone z).hard
            ∧ ((s.zone z).manualClear = false → (s.zone z).blastEnd = none → s.occupant z = none → ∀ b, s.bar z = some b →
                (t.zone z).blastEnd = some (s.now + b.blastTime) ∧ (t.zone z).valve = .driven)
            ∧ ((s.zone z).blastEnd ≠ none ∨ s.occupant z ≠ none → (t.zone z).blastEnd = (s.zone z).blastEnd)
            ∧ Answers t p .crumbClear seq .ok (t.zoneValues z) ∧ OnlyTouches [.crumb, .ports] s t)
        ∧ ((s.zone z).fitted = false →
          ∃ body, exec (.crumbClear p seq (zoneCode z)) s = .next (s.respond p 32 seq .notFound body)))
      ∧ ∀ zone, 1 < zone → ∃ body, exec (.crumbClear p seq zone) s = .next (s.respond p 32 seq .outOfRange body)

/-- O45. The end of a blast (R137): the load is reduced with the bar's yield, the manual clear is served and the blast is counted;
CRUMB_FULL is judged on the reduced load (R132), and no other hold changes; the zone rests when no new blast is wanted, or one is wanted and
the zone is occupied; one wanted and clear starts at once for the bar's blast time (R135, R136). -/
def Obligations.BlastEndReducesTheLoad : Prop :=
  ∀ (s : State) (z : Zone) (d : Nat) (b : Bar), (s.zone z).blastEnd = some d → s.bar z = some b →
    ∃ t, exec (.blastEnd z) s = .next t
      ∧ (t.zone z).load = (s.zone z).load - roundNat ((s.zone z).load * b.yield) 256
      ∧ (t.zone z).manualClear = false ∧ (t.zone z).fitted = (s.zone z).fitted ∧ (t.zone z).soft = (s.zone z).soft
      ∧ (t.zone z).hard = (s.zone z).hard
      ∧ ((t.zone z).load < (s.zone z).soft → (s.zone z).purgeOwed = false →
          (t.zone z).blastEnd = none ∧ (t.zone z).valve = .released)
      ∧ (s.occupant z ≠ none →
          (t.zone z).blastEnd = none ∧ (t.zone z).valve = .released ∧ (t.zone z).purgeOwed = (s.zone z).purgeOwed)
      ∧ ((s.zone z).fitted = true → (s.zone z).soft ≤ (t.zone z).load ∨ (s.zone z).purgeOwed = true → s.occupant z = none →
          (t.zone z).blastEnd = some (t.now + b.blastTime) ∧ (t.zone z).valve = .driven ∧ (t.zone z).purgeOwed = false)
      ∧ ((s.zone z).hard ≤ (t.zone z).load → t.held (fullReason z) = true)
      ∧ ((t.zone z).load < (s.zone z).hard → (t.zone z).load < (s.zone z).soft → t.held (fullReason z) = false)
      ∧ ((t.zone z).load < (s.zone z).hard → (s.zone z).soft ≤ (t.zone z).load → t.held (fullReason z) = s.held (fullReason z))
      ∧ (∀ r : HoldReason, r ≠ fullReason z → t.held r = s.held r)
      ∧ (match z with
          | .z0 => t.totals.openShift.blasts0 = min (s.totals.openShift.blasts0 + 1) 4294967295
          | .z1 => t.totals.openShift.blasts1 = min (s.totals.openShift.blasts1 + 1) 4294967295)
      ∧ (∀ w, w ≠ z → t.zone w = s.zone w) ∧ OnlyTouches [.now, .totals, .crumb, .line, .ports] s t

/-! ## Totals and the store -/

/-- O46. The ends of the three pulses: the output is RELEASED, and besides only time passes (R76, R80, R122). An accumulator that time
passes into reaches its second: its count rises by 1 and it falls to 0; one that time does not pass into, run outside RUNNING, idle outside
IDLE, stopped outside STOPPED, held in STOPPED or with an empty hold set, reaches nothing (R156). That the time up to it passes is the
model's clock (log 4, DESIGN CHOICE). -/
def Obligations.PulsesAndAccumulatorsEnd : Prop :=
  (∀ (s : State) (g : Gate) (d : Nat), s.queue.gate g = .driven d →
      ∃ t, exec (.gatePulseEnd g) s = .next t ∧ t.queue.gate g = .released ∧ t.queue.records = s.queue.records
        ∧ (∀ g', g' ≠ g → t.queue.gate g' = s.queue.gate g') ∧ OnlyTouches [.now, .totals, .queue] s t)
    ∧ (∀ (s : State) (d : Nat), s.bag.fireLine = .driven d →
      ∃ t, exec .firePulseEnd s = .next t ∧ t.bag = { s.bag with fireLine := .released }
        ∧ OnlyTouches [.now, .totals, .bag] s t)
    ∧ ∀ s : State,
    (s.line.state = .running → s.totals.runMs < 1000 →
      ∃ t, exec (.secondsAccumulatorFull .run) s = .next t ∧ t.totals.runMs = 0
        ∧ t.totals.openShift.runSeconds = min (s.totals.openShift.runSeconds + 1) 4294967295 ∧ OnlyTouches [.now, .totals] s t)
    ∧ (s.line.state = .idle → s.totals.idleMs < 1000 →
      ∃ t, exec (.secondsAccumulatorFull .idle) s = .next t ∧ t.totals.idleMs = 0
        ∧ t.totals.openShift.idleSeconds = min (s.totals.openShift.idleSeconds + 1) 4294967295 ∧ OnlyTouches [.now, .totals] s t)
    ∧ (s.line.state = .stopped → s.totals.stoppedMs < 1000 →
      ∃ t, exec (.secondsAccumulatorFull .stopped) s = .next t ∧ t.totals.stoppedMs = 0
        ∧ t.totals.openShift.stoppedSeconds = min (s.totals.openShift.stoppedSeconds + 1) 4294967295
        ∧ OnlyTouches [.now, .totals] s t)
    ∧ (s.line.state ≠ .stopped → s.line.holds ≠ 0 → s.totals.heldMs < 1000 →
      ∃ t, exec (.secondsAccumulatorFull .held) s = .next t ∧ t.totals.heldMs = 0
        ∧ t.totals.openShift.heldSeconds = min (s.totals.openShift.heldSeconds + 1) 4294967295 ∧ OnlyTouches [.now, .totals] s t)
    ∧ (s.line.state ≠ .running → exec (.secondsAccumulatorFull .run) s = .next s)
    ∧ (s.line.state ≠ .idle → exec (.secondsAccumulatorFull .idle) s = .next s)
    ∧ (s.line.state ≠ .stopped → exec (.secondsAccumulatorFull .stopped) s = .next s)
    ∧ (s.line.state = .stopped ∨ s.line.holds = 0 → exec (.secondsAccumulatorFull .held) s = .next s)

/-- O47. SHIFT_CLOSE and STORE_FORMAT (R158, R162, R165): a close copies the open totals into the buffer, opens the next shift with the
queue count carried in and, in EMPTY or READY, starts a write of at most five older records and the buffer to the bank that is not current;
in WRITING both are refused STORE_BUSY and change nothing; a format erases both banks: their records and state words go (that their sequence
numbers stay is the model's choice, log 18). A taken one is answered OK (the layout of the bodies: log 10). -/
def Obligations.ShiftCloseAndFormat : Prop :=
  ∀ (s : State) (seq : Byte),
    (s.store.state ≠ .writing →
      ∃ t, exec (.shiftClose .office seq) s = .next t
        ∧ t.totals.buffer = some s.totals.openShift
        ∧ t.totals.openShift =
            ShiftRecord.opened (if s.totals.openShift.number < 65535 then s.totals.openShift.number + 1 else 1)
              s.queue.records.length
        ∧ t.totals.runMs = 0 ∧ t.totals.idleMs = 0 ∧ t.totals.stoppedMs = 0 ∧ t.totals.heldMs = 0
        ∧ t.store.bankA = s.store.bankA ∧ t.store.bankB = s.store.bankB ∧ t.store.current = s.store.current
        ∧ (s.store.state = .faulted → t.store = s.store)
        ∧ (s.store.state ≠ .faulted → t.store.state = .writing ∧
            ∃ w, t.store.write = some w ∧ w.step = .erase ∧ w.attempt = 1 ∧ s.store.current ≠ some w.target
              ∧ (s.store.current = none → w.target = .a ∧ w.chosen = [s.totals.openShift] ∧ w.newSeq = 1)
              ∧ (∀ i, s.store.current = some i →
                  w.chosen = (((s.store.bank i).records.filter fun r => decide (r.number ≠ s.totals.openShift.number)).reverse.take
                    5).reverse ++ [s.totals.openShift])
              ∧ ∀ i, s.store.current = some i →
                  w.newSeq = if (s.store.bank i).seq < 4294967295 then (s.store.bank i).seq + 1 else 1)
        ∧ Noticed t .office .shiftClosed
        ∧ Answers t .office .shiftClose seq .ok
            (u16 s.totals.openShift.number ++ u16 t.totals.openShift.number ++ u32 s.queue.records.length ++ u8 t.store.state.code)
        ∧ OnlyTouches [.totals, .store, .ports] s t)
    ∧ (s.store.state = .writing →
      (∃ body, exec (.shiftClose .office seq) s = .next (s.respond .office 34 seq .storeBusy body))
        ∧ exec (.storeFormat .office seq) s = .next (s.respond .office 35 seq .storeBusy (u8 2)))
    ∧ (s.store.state ≠ .writing →
      exec (.storeFormat .office seq) s =
        .next ((s.setStore
          { bankA := { s.store.bankA with records := [], stateWord := false }
            bankB := { s.store.bankB with records := [], stateWord := false }
            current := none, state := .empty, write := none }).respond .office 35 seq .ok (u8 0)))

/-- O48. The steps of a store write (R162, R163), each at its end: erase, program, verify, state word; a first failed verification starts
again on the same bank, a second leaves the store FAULTED. That an erase leaves the sequence number as it stood, until the state word is
written, is the model's choice (log 18). -/
def Obligations.StoreWriteSteps : Prop :=
  ∀ (s : State) (w : StoreWrite), s.store.write = some w →
    (w.step = .erase →
      ∃ t, exec .storeEraseDone s = .next t ∧ t.store.bank w.target = { s.store.bank w.target with records := [], stateWord := false }
        ∧ t.store.write = some { w with step := .program } ∧ t.store.state = s.store.state ∧ t.store.current = s.store.current
        ∧ (∀ i, i ≠ w.target → t.store.bank i = s.store.bank i) ∧ OnlyTouches [.store] s t)
    ∧ (w.step = .program →
      ∃ t, exec .storeProgramDone s = .next t ∧ t.store.bank w.target = { s.store.bank w.target with records := w.chosen }
        ∧ t.store.write = some { w with step := .verify } ∧ t.store.state = s.store.state ∧ t.store.current = s.store.current
        ∧ (∀ i, i ≠ w.target → t.store.bank i = s.store.bank i) ∧ OnlyTouches [.store] s t)
    ∧ (w.step = .verify →
      exec (.storeVerifyDone true) s = .next (s.setStore { s.store with write := some { w with step := .stateWord } })
        ∧ (w.attempt = 1 →
            exec (.storeVerifyDone false) s =
              .next (s.setStore { s.store with write := some { w with step := .erase, attempt := 2 } }))
        ∧ (w.attempt = 2 →
            ∃ t, exec (.storeVerifyDone false) s = .next t ∧ t.store = { s.store with state := .faulted, write := none }
              ∧ Noticed t .office .storeFault ∧ OnlyTouches [.store, .ports] s t))
    ∧ (w.step = .stateWord →
      ∃ t, exec .storeStateWordDone s = .next t ∧ t.store.current = some w.target ∧ t.store.state = .ready ∧ t.store.write = none
        ∧ t.store.bank w.target = { s.store.bank w.target with seq := w.newSeq, stateWord := true }
        ∧ (∀ i, i ≠ w.target → t.store.bank i = s.store.bank i)
        ∧ Noticed t .office .storeDone ∧ OnlyTouches [.store, .ports] s t)

/-- O49. TRACK_READ (R85): by tag or by position it answers with the record's view, value by value; it changes nothing but its port's
response. TOTALS_READ and STORE_READ answer with the page asked for and change nothing (R166, R167): page 0 with the shift-level counts, and
what each adds to them; a later page with the two entries it numbers, as far as they stand. A selector, a page or a shift number out of
range is OUT_OF_RANGE; an absent buffer, a shift the current bank does not hold, and a page past the last are NOT_FOUND; a refused
STORE_READ carries the store state and the numbers held. The layouts of the bodies are the model's reading (log 10), the bodies of a refused
TOTALS_READ its choice (log 11). -/
def Obligations.ReadsFindWhatTheyName : Prop :=
  (∀ (s : State) (p : Port) (seq : Byte),
    (∀ tag r, 1 ≤ tag → tag ≤ 255 → s.record? tag = some r →
      exec (.trackRead p seq 0 tag) s =
        .next (s.respond p 17 seq .ok
          (r.values s.queue.records.length (s.queue.records.findIdx fun x => decide (x.tag = tag)))))
    ∧ (∀ n r, n ≤ 47 → s.queue.records[n]? = some r →
      exec (.trackRead p seq 1 n) s = .next (s.respond p 17 seq .ok (r.values s.queue.records.length n)))
    ∧ (∀ tag, 1 ≤ tag → tag ≤ 255 → s.record? tag = none →
      exec (.trackRead p seq 0 tag) s = .next (s.respond p 17 seq .noSuchTag (u8 s.queue.records.length)))
    ∧ (∀ n, n ≤ 47 → s.queue.records[n]? = none →
      exec (.trackRead p seq 1 n) s = .next (s.respond p 17 seq .notFound (u8 s.queue.records.length)))
    ∧ (∀ n, n < 1 ∨ 255 < n →
      exec (.trackRead p seq 0 n) s = .next (s.respond p 17 seq .outOfRange (u8 s.queue.records.length)))
    ∧ ∀ n, 47 < n → exec (.trackRead p seq 1 n) s = .next (s.respond p 17 seq .outOfRange (u8 s.queue.records.length)))
    ∧ (∀ (s : State) (p : Port) (seq : Byte), p ≠ .bagger →
      (∀ selector page r, selector ≤ 1 → page ≤ 13 →
        (if selector = 0 then some s.totals.openShift else s.totals.buffer) = some r →
        let heading := u8 selector ++ u8 page ++ u16 r.number ++ u8 r.products.length ++ u8 s.store.state.code;
        (page = 0 → selector = 0 → ∀ b, s.totals.buffer = some b →
            exec (.totalsRead p seq selector page) s =
              .next (s.respond p 36 seq .ok (heading ++ (r.countValues ++ (u8 1 ++ u16 b.number)))))
          ∧ (page = 0 → selector = 0 → s.totals.buffer = none →
            exec (.totalsRead p seq selector page) s = .next (s.respond p 36 seq .ok (heading ++ (r.countValues ++ [0, 0, 0]))))
          ∧ (page = 0 → selector = 1 →
            exec (.totalsRead p seq selector page) s = .next (s.respond p 36 seq .ok (heading ++ r.countValues)))
          ∧ (1 ≤ page → page ≤ (r.products.length + 2) / 2 →
            exec (.totalsRead p seq selector page) s = .next (s.respond p 36 seq .ok (heading ++ r.pageValues page)))
          ∧ ((r.products.length + 2) / 2 < page →
            ∃ body, exec (.totalsRead p seq selector page) s = .next (s.respond p 36 seq .notFound body)))
      ∧ (∀ page, page ≤ 13 → s.totals.buffer = none →
        ∃ body, exec (.totalsRead p seq 1 page) s = .next (s.respond p 36 seq .notFound body))
      ∧ ∀ selector page, 1 < selector ∨ 13 < page →
        ∃ body, exec (.totalsRead p seq selector page) s = .next (s.respond p 36 seq .outOfRange body))
    ∧ ∀ (s : State) (seq : Byte),
      let records := match s.store.current with | some i => (s.store.bank i).records | none => []
      let refused := fun result => Host.Outcome.next (s.respond .office 37 seq result
        (u8 s.store.state.code ++ (if s.store.current = none then [0, 0] else u8 1 ++ s.listedNumbers)));
      (∀ n r i, 1 ≤ n → n ≤ 65535 → s.store.current = some i → records.find? (fun x => decide (x.number = n)) = some r →
        exec (.storeRead .office seq n 0) s =
          .next (s.respond .office 37 seq .ok (r.countValues ++ u8 r.products.length ++ u8 (if i = .a then 1 else 2)
            ++ u32 (s.store.bank i).seq ++ u8 s.store.state.code ++ s.listedNumbers)))
      ∧ (∀ n r page, 1 ≤ n → n ≤ 65535 → records.find? (fun x => decide (x.number = n)) = some r → 1 ≤ page → page ≤ 13 →
        (page ≤ (r.products.length + 2) / 2 →
          exec (.storeRead .office seq n page) s = .next (s.respond .office 37 seq .ok (r.pageValues page)))
        ∧ ((r.products.length + 2) / 2 < page → exec (.storeRead .office seq n page) s = refused .notFound))
      ∧ (∀ n page, 1 ≤ n → n ≤ 65535 → page ≤ 13 → (∀ x ∈ records, x.number ≠ n) →
        exec (.storeRead .office seq n page) s = refused .notFound)
      ∧ ∀ n page, n = 0 ∨ 65535 < n ∨ 13 < page → exec (.storeRead .office seq n page) s = refused .outOfRange

/-! ## The link -/

/-- O50. The link's own commands. A port reset clears its port and no other, and what is clocked then is ignored until select rises (R178).
A fetch drives the filler, then the whole frame, then filler (R172): one of every byte empties the slot, a shorter one keeps the response,
one that finds no response drives NO_RESPONSE with zeros; one that follows a request frame cut short finds the refusal of that frame (R171).
What a port drives stands in a field of the model's (log 9), and whether it listens in another (log 26). NOTICE_ACK and NOTICE_MASK of kinds
the port has, and of a set that names another (R175, R176). -/
def Obligations.LinkFollowsTheRules : Prop :=
  ∀ (s : State) (p : Port),
    (∃ t, exec (.portReset p) s = .next t ∧ OnlyTouches [.ports] s t ∧ (∀ q, q ≠ p → t.port q = s.port q)
      ∧ (t.port p).frame = .idle ∧ (t.port p).response = none ∧ (t.port p).flags = 0 ∧ (t.port p).mask = 0
      ∧ (t.port p).attention = .released
      ∧ (∀ bytes, exec (.frameRefused p bytes false) t = .next t)
      ∧ ∀ bytes, exec (.frameRefused p bytes true) t = .next (t.setPort p { t.port p with link := .listening }))
    ∧ (∀ r n, (s.port p).frame = .idle → (s.port p).response = some r → 1 ≤ n →
      ∃ t, exec (.fetch p n) s = .next t ∧ (t.port p).response = (if 5 + r.body.length ≤ n then none else some r)
        ∧ SameNotices s t p ∧ (t.port p).frame = .idle
        ∧ (t.port p).dataOut =
            ([0, r.kind, r.seq, r.result, BitVec.ofNat 8 r.body.length] ++ r.body ++ List.replicate n 0).take n
        ∧ (∀ q, q ≠ p → t.port q = s.port q) ∧ OnlyTouches [.ports] s t)
    ∧ (∀ n, (s.port p).frame = .idle → (s.port p).response = none → 1 ≤ n →
      ∃ t, exec (.fetch p n) s = .next t ∧ (t.port p).response = none ∧ SameNotices s t p ∧ (t.port p).frame = .idle
        ∧ (t.port p).dataOut = ([0, 0, 0, 1, 0] ++ List.replicate n 0).take n
        ∧ (∀ q, q ≠ p → t.port q = s.port q) ∧ OnlyTouches [.ports] s t)
    ∧ (∀ bytes n, (s.port p).frame = .receiving bytes → bytes.head? ≠ some 0 → 1 ≤ n →
      ∃ t, exec (.fetch p n) s = .next t ∧ (t.port p).frame = .idle ∧ SameNotices s t p
        ∧ (t.port p).response = (if 5 ≤ n then none else some ⟨bytes.getD 0 0, bytes.getD 1 0, 2, []⟩)
        ∧ (t.port p).dataOut = ([0, bytes.getD 0 0, bytes.getD 1 0, 2, 0] ++ List.replicate n 0).take n
        ∧ (∀ q, q ≠ p → t.port q = s.port q) ∧ OnlyTouches [.ports] s t)
    ∧ (∀ (seq : Byte) (kinds : Set16), kinds &&& ~~~(noticePositions p) ≠ 0 →
      exec (.noticeAck p seq kinds) s =
          .next (s.respond p 39 seq .outOfRange (set16 (s.port p).flags ++ set16 (s.port p).mask))
        ∧ exec (.noticeMask p seq kinds) s =
          .next (s.respond p 40 seq .outOfRange (set16 (s.port p).flags ++ set16 (s.port p).mask)))
    ∧ ∀ (seq : Byte) (kinds : Set16), kinds &&& ~~~(noticePositions p) = 0 →
      (∃ t, exec (.noticeAck p seq kinds) s = .next t ∧ (t.port p).flags = (s.port p).flags &&& ~~~kinds
        ∧ (t.port p).mask = (s.port p).mask ∧ (∀ q, q ≠ p → t.port q = s.port q)
        ∧ ((t.port p).attention = .asserted ↔ (t.port p).flags &&& ~~~(t.port p).mask ≠ 0)
        ∧ Answers t p .noticeAck seq .ok (set16 (t.port p).flags ++ set16 (t.port p).mask) ∧ OnlyTouches [.ports] s t)
      ∧ ∃ t, exec (.noticeMask p seq kinds) s = .next t ∧ (t.port p).mask = kinds ∧ (t.port p).flags = (s.port p).flags
        ∧ (∀ q, q ≠ p → t.port q = s.port q)
        ∧ ((t.port p).attention = .asserted ↔ (t.port p).flags &&& ~~~(t.port p).mask ≠ 0)
        ∧ Answers t p .noticeMask seq .ok (set16 (t.port p).flags ++ set16 (t.port p).mask) ∧ OnlyTouches [.ports] s t

/-- O51. FRAME_REFUSED by the bytes a listening port has of its transaction (R169, R171): a length byte above 60, a frame cut short, an
unknown kind, a kind not permitted on the port, a length that is not the kind's: refused in this order, with kind and sequence echoed, 0 for
what did not arrive, and an empty body. A frame still arriving is kept, and the filler is driven for each of its bytes. A frame whose bytes
are those of a request is that request, whatever becomes of it. Bytes that begin with 0 are a fetch. After a judgement, bytes are ignored
until select rises. The operands are the model's (log 7), and so are the marks of what a port hears and drives (logs 9, 26). -/
def Obligations.FramesFollowR171 : Prop :=
  ∀ (s : State) (p : Port) (bytes : List Byte),
    ((s.port p).link = .listening →
      (∀ (kind seq len : Byte) (body : List Byte), s.frameBytes p bytes = kind :: seq :: len :: body → kind ≠ 0 →
        (60 < len.toNat → ∀ released,
          exec (.frameRefused p bytes released) s = .next (s.refusedFrame p kind seq .badLength (3 + body.length) released))
        ∧ (len.toNat ≤ 60 → body.length < len.toNat →
          exec (.frameRefused p bytes true) s = .next (s.refusedFrame p kind seq .badLength (3 + body.length) true)
            ∧ exec (.frameRefused p bytes false) s =
              .next (s.setPort p { s.port p with
                frame := .receiving (kind :: seq :: len :: body), dataOut := List.replicate (3 + body.length) 0 }))
        ∧ (len.toNat ≤ 60 → len.toNat ≤ body.length → ∀ released,
          (40 < kind.toNat →
            exec (.frameRefused p bytes released) s = .next (s.refusedFrame p kind seq .badKind (3 + body.length) released))
            ∧ ∀ k : RequestKind, kind.toNat = k.code →
              (k.permitted p = false →
                exec (.frameRefused p bytes released) s =
                  .next (s.refusedFrame p kind seq .notPermitted (3 + body.length) released))
              ∧ (k.permitted p = true → k.bodyLength ≠ len.toNat →
                exec (.frameRefused p bytes released) s =
                  .next (s.refusedFrame p kind seq .badLength (3 + body.length) released))))
      ∧ (∀ kind : Byte, s.frameBytes p bytes = [kind] → kind ≠ 0 →
        exec (.frameRefused p bytes true) s = .next (s.refusedFrame p kind 0 .badLength 1 true))
      ∧ (∀ kind seq : Byte, s.frameBytes p bytes = [kind, seq] → kind ≠ 0 →
        exec (.frameRefused p bytes true) s = .next (s.refusedFrame p kind seq .badLength 2 true))
      ∧ (∀ (c : Instr) (h : RequestHeader), requestOf c = some h → h.port = p → c.wellFormed = true →
        s.frameBytes p bytes = requestFrame h (bodyOf c) →
        exec (.frameRefused p bytes true) s = exec c s
          ∧ ∃ t, exec c s = .next t
            ∧ exec (.frameRefused p bytes false) s = .next (t.setPort p { t.port p with link := .judged }))
      ∧ (∀ rest, (s.port p).frame = .idle → bytes = 0 :: rest →
        exec (.frameRefused p bytes true) s = exec (.fetch p bytes.length) s))
    ∧ ((s.port p).link = .judged → (s.port p).frame = .idle → ∀ released,
      exec (.frameRefused p bytes released) s =
        .next (s.setPort p { s.port p with
          link := if released then .listening else .judged
          dataOut := (s.port p).dataOut ++ List.replicate bytes.length 0 }))

/-- O52. A request of a kind its port does not permit reaches no block: it is refused NOT_PERMITTED with an empty body, for every one of the
forty kinds (R171). -/
def Obligations.ForbiddenPortsAreRefused : Prop :=
  ∀ (c : Instr) (h : RequestHeader) (s : State), requestOf c = some h → h.kind.permitted h.port = false →
    exec c s = .next (s.respond h.port (BitVec.ofNat 8 h.kind.code) h.seq .notPermitted [])

/-! ## What every step keeps -/

/-- O53. The machine at reset satisfies every invariant below. -/
def Obligations.ResetSatisfiesInvariants : Prop :=
  OutputsFollow State.reset ∧ NoticesNameKinds State.reset ∧ LinkFollows State.reset ∧ TimersFollow State.reset
    ∧ TyerHoldsFollow State.reset ∧ PositionsAgree State.reset ∧ TagsDistinct State.reset ∧ InFlightCounts State.reset
    ∧ RecipeLaw State.reset ∧ ShiftBalances State.reset ∧ StoreLaw State.reset ∧ UnfittedAtRest State.reset

/-- O54. Every step keeps the outputs at their conditions: the infeed permit (R150), the attention lines (R174), the valves (R128). -/
def Obligations.StepKeepsOutputs : Prop :=
  ∀ s t : State, OutputsFollow s → step s = .next t → OutputsFollow t

/-- O55. Every step keeps the notice flags and masks to the kinds of their port (R173, R176) and the transactions of the ports in order
(R169, R171, R178); the idle timer running exactly in RUNNING, with every accumulator below its second (R146, R156); and X at H − P and
within its limit, and v within its range (R3, R4, R7). -/
def Obligations.StepKeepsPortsTimersAndPositions : Prop :=
  (∀ s t : State, NoticesNameKinds s → step s = .next t → NoticesNameKinds t)
    ∧ (∀ s t : State, LinkFollows s → step s = .next t → LinkFollows t)
    ∧ (∀ s t : State, TimersFollow s → step s = .next t → TimersFollow t)
    ∧ (∀ s t : State, PositionsAgree s → step s = .next t → PositionsAgree t)

/-- O56. Every step keeps CLIP_EMPTY with the magazine, TYER_FAULT with the tyer, a tie in flight with FIRING, NO_DATE with the date (R118,
R124, R114). -/
def Obligations.StepKeepsTyerHolds : Prop :=
  ∀ s t : State, TyerHoldsFollow s → step s = .next t → TyerHoldsFollow t

/-- O57. Every step keeps at most 48 records with distinct tags in 1..255, and with them each slot's in-flight count at the number of
records that refer to it (R61, R64, R31); and at most one slot ACTIVE, a pending selection naming a LOADED slot, and a product in every slot
but the EMPTY ones (R27, R28, R33). -/
def Obligations.StepKeepsTagsAndSlots : Prop :=
  (∀ s t : State, TagsDistinct s → step s = .next t → TagsDistinct t)
    ∧ (∀ s t : State, TagsDistinct s → InFlightCounts s → step s = .next t → InFlightCounts t)
    ∧ (∀ s t : State, RecipeLaw s → step s = .next t → RecipeLaw t)

/-- O58. Every step keeps the open totals balanced: carried in plus created is the records present plus the leaves counted, until a count
has saturated (R157). -/
def Obligations.StepKeepsShiftBalance : Prop :=
  ∀ s t : State, TagsDistinct s → ShiftBalances s → step s = .next t → ShiftBalances t

/-- O59. Every step keeps the store's law: a write in progress exactly in WRITING, building six records at most with distinct shift numbers
in the bank that is not current; every bank's sequence number in its range with six records at most, and no shift number twice in one whose
state word is valid (R160, R162). -/
def Obligations.StepKeepsStoreLaw : Prop :=
  ∀ s t : State, StoreLaw s → step s = .next t → StoreLaw t

/-- O60. Every step keeps an unfitted zone at rest with load 0, no manual clear, no purge owed, and its hold reason absent (R128, R129). -/
def Obligations.StepKeepsUnfittedAtRest : Prop :=
  ∀ s t : State, UnfittedAtRest s → step s = .next t → UnfittedAtRest t
end

