-- ==== Sys2Proof/Laws/State.lean ====
section
/-! SUPPORT. What each update of a part of the state does to each field: one lemma per field per update, all by rfl. -/

namespace Sys2Proof.Machine

variable (s : State)

/-! ### setPending -/

@[simp] theorem setPending_pending (x : List Instr) : (s.setPending x).pending = x := rfl
@[simp] theorem setPending_now (x : List Instr) : (s.setPending x).now = s.now := rfl
@[simp] theorem setPending_choices (x : List Instr) : (s.setPending x).choices = s.choices := rfl
@[simp] theorem setPending_pos (x : List Instr) : (s.setPending x).pos = s.pos := rfl
@[simp] theorem setPending_chain (x : List Instr) : (s.setPending x).chain = s.chain := rfl
@[simp] theorem setPending_recipes (x : List Instr) : (s.setPending x).recipes = s.recipes := rfl
@[simp] theorem setPending_queue (x : List Instr) : (s.setPending x).queue = s.queue := rfl
@[simp] theorem setPending_schedule (x : List Instr) : (s.setPending x).schedule = s.schedule := rfl
@[simp] theorem setPending_bag (x : List Instr) : (s.setPending x).bag = s.bag := rfl
@[simp] theorem setPending_crumb (x : List Instr) : (s.setPending x).crumb = s.crumb := rfl
@[simp] theorem setPending_line (x : List Instr) : (s.setPending x).line = s.line := rfl
@[simp] theorem setPending_totals (x : List Instr) : (s.setPending x).totals = s.totals := rfl
@[simp] theorem setPending_store (x : List Instr) : (s.setPending x).store = s.store := rfl
@[simp] theorem setPending_ports (x : List Instr) : (s.setPending x).ports = s.ports := rfl

/-! ### setNow -/

@[simp] theorem setNow_pending (x : Nat) : (s.setNow x).pending = s.pending := rfl
@[simp] theorem setNow_now (x : Nat) : (s.setNow x).now = x := rfl
@[simp] theorem setNow_choices (x : Nat) : (s.setNow x).choices = s.choices := rfl
@[simp] theorem setNow_pos (x : Nat) : (s.setNow x).pos = s.pos := rfl
@[simp] theorem setNow_chain (x : Nat) : (s.setNow x).chain = s.chain := rfl
@[simp] theorem setNow_recipes (x : Nat) : (s.setNow x).recipes = s.recipes := rfl
@[simp] theorem setNow_queue (x : Nat) : (s.setNow x).queue = s.queue := rfl
@[simp] theorem setNow_schedule (x : Nat) : (s.setNow x).schedule = s.schedule := rfl
@[simp] theorem setNow_bag (x : Nat) : (s.setNow x).bag = s.bag := rfl
@[simp] theorem setNow_crumb (x : Nat) : (s.setNow x).crumb = s.crumb := rfl
@[simp] theorem setNow_line (x : Nat) : (s.setNow x).line = s.line := rfl
@[simp] theorem setNow_totals (x : Nat) : (s.setNow x).totals = s.totals := rfl
@[simp] theorem setNow_store (x : Nat) : (s.setNow x).store = s.store := rfl
@[simp] theorem setNow_ports (x : Nat) : (s.setNow x).ports = s.ports := rfl

/-! ### setChoices -/

@[simp] theorem setChoices_pending (x : Nat) : (s.setChoices x).pending = s.pending := rfl
@[simp] theorem setChoices_now (x : Nat) : (s.setChoices x).now = s.now := rfl
@[simp] theorem setChoices_choices (x : Nat) : (s.setChoices x).choices = x := rfl
@[simp] theorem setChoices_pos (x : Nat) : (s.setChoices x).pos = s.pos := rfl
@[simp] theorem setChoices_chain (x : Nat) : (s.setChoices x).chain = s.chain := rfl
@[simp] theorem setChoices_recipes (x : Nat) : (s.setChoices x).recipes = s.recipes := rfl
@[simp] theorem setChoices_queue (x : Nat) : (s.setChoices x).queue = s.queue := rfl
@[simp] theorem setChoices_schedule (x : Nat) : (s.setChoices x).schedule = s.schedule := rfl
@[simp] theorem setChoices_bag (x : Nat) : (s.setChoices x).bag = s.bag := rfl
@[simp] theorem setChoices_crumb (x : Nat) : (s.setChoices x).crumb = s.crumb := rfl
@[simp] theorem setChoices_line (x : Nat) : (s.setChoices x).line = s.line := rfl
@[simp] theorem setChoices_totals (x : Nat) : (s.setChoices x).totals = s.totals := rfl
@[simp] theorem setChoices_store (x : Nat) : (s.setChoices x).store = s.store := rfl
@[simp] theorem setChoices_ports (x : Nat) : (s.setChoices x).ports = s.ports := rfl

/-! ### setPos -/

@[simp] theorem setPos_pending (x : PositionUnit) : (s.setPos x).pending = s.pending := rfl
@[simp] theorem setPos_now (x : PositionUnit) : (s.setPos x).now = s.now := rfl
@[simp] theorem setPos_choices (x : PositionUnit) : (s.setPos x).choices = s.choices := rfl
@[simp] theorem setPos_pos (x : PositionUnit) : (s.setPos x).pos = x := rfl
@[simp] theorem setPos_chain (x : PositionUnit) : (s.setPos x).chain = s.chain := rfl
@[simp] theorem setPos_recipes (x : PositionUnit) : (s.setPos x).recipes = s.recipes := rfl
@[simp] theorem setPos_queue (x : PositionUnit) : (s.setPos x).queue = s.queue := rfl
@[simp] theorem setPos_schedule (x : PositionUnit) : (s.setPos x).schedule = s.schedule := rfl
@[simp] theorem setPos_bag (x : PositionUnit) : (s.setPos x).bag = s.bag := rfl
@[simp] theorem setPos_crumb (x : PositionUnit) : (s.setPos x).crumb = s.crumb := rfl
@[simp] theorem setPos_line (x : PositionUnit) : (s.setPos x).line = s.line := rfl
@[simp] theorem setPos_totals (x : PositionUnit) : (s.setPos x).totals = s.totals := rfl
@[simp] theorem setPos_store (x : PositionUnit) : (s.setPos x).store = s.store := rfl
@[simp] theorem setPos_ports (x : PositionUnit) : (s.setPos x).ports = s.ports := rfl

/-! ### setChain -/

@[simp] theorem setChain_pending (x : StationChain) : (s.setChain x).pending = s.pending := rfl
@[simp] theorem setChain_now (x : StationChain) : (s.setChain x).now = s.now := rfl
@[simp] theorem setChain_choices (x : StationChain) : (s.setChain x).choices = s.choices := rfl
@[simp] theorem setChain_pos (x : StationChain) : (s.setChain x).pos = s.pos := rfl
@[simp] theorem setChain_chain (x : StationChain) : (s.setChain x).chain = x := rfl
@[simp] theorem setChain_recipes (x : StationChain) : (s.setChain x).recipes = s.recipes := rfl
@[simp] theorem setChain_queue (x : StationChain) : (s.setChain x).queue = s.queue := rfl
@[simp] theorem setChain_schedule (x : StationChain) : (s.setChain x).schedule = s.schedule := rfl
@[simp] theorem setChain_bag (x : StationChain) : (s.setChain x).bag = s.bag := rfl
@[simp] theorem setChain_crumb (x : StationChain) : (s.setChain x).crumb = s.crumb := rfl
@[simp] theorem setChain_line (x : StationChain) : (s.setChain x).line = s.line := rfl
@[simp] theorem setChain_totals (x : StationChain) : (s.setChain x).totals = s.totals := rfl
@[simp] theorem setChain_store (x : StationChain) : (s.setChain x).store = s.store := rfl
@[simp] theorem setChain_ports (x : StationChain) : (s.setChain x).ports = s.ports := rfl

/-! ### setRecipes -/

@[simp] theorem setRecipes_pending (x : RecipeTable) : (s.setRecipes x).pending = s.pending := rfl
@[simp] theorem setRecipes_now (x : RecipeTable) : (s.setRecipes x).now = s.now := rfl
@[simp] theorem setRecipes_choices (x : RecipeTable) : (s.setRecipes x).choices = s.choices := rfl
@[simp] theorem setRecipes_pos (x : RecipeTable) : (s.setRecipes x).pos = s.pos := rfl
@[simp] theorem setRecipes_chain (x : RecipeTable) : (s.setRecipes x).chain = s.chain := rfl
@[simp] theorem setRecipes_recipes (x : RecipeTable) : (s.setRecipes x).recipes = x := rfl
@[simp] theorem setRecipes_queue (x : RecipeTable) : (s.setRecipes x).queue = s.queue := rfl
@[simp] theorem setRecipes_schedule (x : RecipeTable) : (s.setRecipes x).schedule = s.schedule := rfl
@[simp] theorem setRecipes_bag (x : RecipeTable) : (s.setRecipes x).bag = s.bag := rfl
@[simp] theorem setRecipes_crumb (x : RecipeTable) : (s.setRecipes x).crumb = s.crumb := rfl
@[simp] theorem setRecipes_line (x : RecipeTable) : (s.setRecipes x).line = s.line := rfl
@[simp] theorem setRecipes_totals (x : RecipeTable) : (s.setRecipes x).totals = s.totals := rfl
@[simp] theorem setRecipes_store (x : RecipeTable) : (s.setRecipes x).store = s.store := rfl
@[simp] theorem setRecipes_ports (x : RecipeTable) : (s.setRecipes x).ports = s.ports := rfl

/-! ### setQueue -/

@[simp] theorem setQueue_pending (x : TrackingQueue) : (s.setQueue x).pending = s.pending := rfl
@[simp] theorem setQueue_now (x : TrackingQueue) : (s.setQueue x).now = s.now := rfl
@[simp] theorem setQueue_choices (x : TrackingQueue) : (s.setQueue x).choices = s.choices := rfl
@[simp] theorem setQueue_pos (x : TrackingQueue) : (s.setQueue x).pos = s.pos := rfl
@[simp] theorem setQueue_chain (x : TrackingQueue) : (s.setQueue x).chain = s.chain := rfl
@[simp] theorem setQueue_recipes (x : TrackingQueue) : (s.setQueue x).recipes = s.recipes := rfl
@[simp] theorem setQueue_queue (x : TrackingQueue) : (s.setQueue x).queue = x := rfl
@[simp] theorem setQueue_schedule (x : TrackingQueue) : (s.setQueue x).schedule = s.schedule := rfl
@[simp] theorem setQueue_bag (x : TrackingQueue) : (s.setQueue x).bag = s.bag := rfl
@[simp] theorem setQueue_crumb (x : TrackingQueue) : (s.setQueue x).crumb = s.crumb := rfl
@[simp] theorem setQueue_line (x : TrackingQueue) : (s.setQueue x).line = s.line := rfl
@[simp] theorem setQueue_totals (x : TrackingQueue) : (s.setQueue x).totals = s.totals := rfl
@[simp] theorem setQueue_store (x : TrackingQueue) : (s.setQueue x).store = s.store := rfl
@[simp] theorem setQueue_ports (x : TrackingQueue) : (s.setQueue x).ports = s.ports := rfl

/-! ### setSchedule -/

@[simp] theorem setSchedule_pending (x : RunSchedule) : (s.setSchedule x).pending = s.pending := rfl
@[simp] theorem setSchedule_now (x : RunSchedule) : (s.setSchedule x).now = s.now := rfl
@[simp] theorem setSchedule_choices (x : RunSchedule) : (s.setSchedule x).choices = s.choices := rfl
@[simp] theorem setSchedule_pos (x : RunSchedule) : (s.setSchedule x).pos = s.pos := rfl
@[simp] theorem setSchedule_chain (x : RunSchedule) : (s.setSchedule x).chain = s.chain := rfl
@[simp] theorem setSchedule_recipes (x : RunSchedule) : (s.setSchedule x).recipes = s.recipes := rfl
@[simp] theorem setSchedule_queue (x : RunSchedule) : (s.setSchedule x).queue = s.queue := rfl
@[simp] theorem setSchedule_schedule (x : RunSchedule) : (s.setSchedule x).schedule = x := rfl
@[simp] theorem setSchedule_bag (x : RunSchedule) : (s.setSchedule x).bag = s.bag := rfl
@[simp] theorem setSchedule_crumb (x : RunSchedule) : (s.setSchedule x).crumb = s.crumb := rfl
@[simp] theorem setSchedule_line (x : RunSchedule) : (s.setSchedule x).line = s.line := rfl
@[simp] theorem setSchedule_totals (x : RunSchedule) : (s.setSchedule x).totals = s.totals := rfl
@[simp] theorem setSchedule_store (x : RunSchedule) : (s.setSchedule x).store = s.store := rfl
@[simp] theorem setSchedule_ports (x : RunSchedule) : (s.setSchedule x).ports = s.ports := rfl

/-! ### setBag -/

@[simp] theorem setBag_pending (x : BagClipUnit) : (s.setBag x).pending = s.pending := rfl
@[simp] theorem setBag_now (x : BagClipUnit) : (s.setBag x).now = s.now := rfl
@[simp] theorem setBag_choices (x : BagClipUnit) : (s.setBag x).choices = s.choices := rfl
@[simp] theorem setBag_pos (x : BagClipUnit) : (s.setBag x).pos = s.pos := rfl
@[simp] theorem setBag_chain (x : BagClipUnit) : (s.setBag x).chain = s.chain := rfl
@[simp] theorem setBag_recipes (x : BagClipUnit) : (s.setBag x).recipes = s.recipes := rfl
@[simp] theorem setBag_queue (x : BagClipUnit) : (s.setBag x).queue = s.queue := rfl
@[simp] theorem setBag_schedule (x : BagClipUnit) : (s.setBag x).schedule = s.schedule := rfl
@[simp] theorem setBag_bag (x : BagClipUnit) : (s.setBag x).bag = x := rfl
@[simp] theorem setBag_crumb (x : BagClipUnit) : (s.setBag x).crumb = s.crumb := rfl
@[simp] theorem setBag_line (x : BagClipUnit) : (s.setBag x).line = s.line := rfl
@[simp] theorem setBag_totals (x : BagClipUnit) : (s.setBag x).totals = s.totals := rfl
@[simp] theorem setBag_store (x : BagClipUnit) : (s.setBag x).store = s.store := rfl
@[simp] theorem setBag_ports (x : BagClipUnit) : (s.setBag x).ports = s.ports := rfl

/-! ### setCrumb -/

@[simp] theorem setCrumb_pending (x : CrumbUnit) : (s.setCrumb x).pending = s.pending := rfl
@[simp] theorem setCrumb_now (x : CrumbUnit) : (s.setCrumb x).now = s.now := rfl
@[simp] theorem setCrumb_choices (x : CrumbUnit) : (s.setCrumb x).choices = s.choices := rfl
@[simp] theorem setCrumb_pos (x : CrumbUnit) : (s.setCrumb x).pos = s.pos := rfl
@[simp] theorem setCrumb_chain (x : CrumbUnit) : (s.setCrumb x).chain = s.chain := rfl
@[simp] theorem setCrumb_recipes (x : CrumbUnit) : (s.setCrumb x).recipes = s.recipes := rfl
@[simp] theorem setCrumb_queue (x : CrumbUnit) : (s.setCrumb x).queue = s.queue := rfl
@[simp] theorem setCrumb_schedule (x : CrumbUnit) : (s.setCrumb x).schedule = s.schedule := rfl
@[simp] theorem setCrumb_bag (x : CrumbUnit) : (s.setCrumb x).bag = s.bag := rfl
@[simp] theorem setCrumb_crumb (x : CrumbUnit) : (s.setCrumb x).crumb = x := rfl
@[simp] theorem setCrumb_line (x : CrumbUnit) : (s.setCrumb x).line = s.line := rfl
@[simp] theorem setCrumb_totals (x : CrumbUnit) : (s.setCrumb x).totals = s.totals := rfl
@[simp] theorem setCrumb_store (x : CrumbUnit) : (s.setCrumb x).store = s.store := rfl
@[simp] theorem setCrumb_ports (x : CrumbUnit) : (s.setCrumb x).ports = s.ports := rfl

/-! ### setLine -/

@[simp] theorem setLine_pending (x : LineUnit) : (s.setLine x).pending = s.pending := rfl
@[simp] theorem setLine_now (x : LineUnit) : (s.setLine x).now = s.now := rfl
@[simp] theorem setLine_choices (x : LineUnit) : (s.setLine x).choices = s.choices := rfl
@[simp] theorem setLine_pos (x : LineUnit) : (s.setLine x).pos = s.pos := rfl
@[simp] theorem setLine_chain (x : LineUnit) : (s.setLine x).chain = s.chain := rfl
@[simp] theorem setLine_recipes (x : LineUnit) : (s.setLine x).recipes = s.recipes := rfl
@[simp] theorem setLine_queue (x : LineUnit) : (s.setLine x).queue = s.queue := rfl
@[simp] theorem setLine_schedule (x : LineUnit) : (s.setLine x).schedule = s.schedule := rfl
@[simp] theorem setLine_bag (x : LineUnit) : (s.setLine x).bag = s.bag := rfl
@[simp] theorem setLine_crumb (x : LineUnit) : (s.setLine x).crumb = s.crumb := rfl
@[simp] theorem setLine_line (x : LineUnit) : (s.setLine x).line = x := rfl
@[simp] theorem setLine_totals (x : LineUnit) : (s.setLine x).totals = s.totals := rfl
@[simp] theorem setLine_store (x : LineUnit) : (s.setLine x).store = s.store := rfl
@[simp] theorem setLine_ports (x : LineUnit) : (s.setLine x).ports = s.ports := rfl

/-! ### setTotals -/

@[simp] theorem setTotals_pending (x : TotalsUnit) : (s.setTotals x).pending = s.pending := rfl
@[simp] theorem setTotals_now (x : TotalsUnit) : (s.setTotals x).now = s.now := rfl
@[simp] theorem setTotals_choices (x : TotalsUnit) : (s.setTotals x).choices = s.choices := rfl
@[simp] theorem setTotals_pos (x : TotalsUnit) : (s.setTotals x).pos = s.pos := rfl
@[simp] theorem setTotals_chain (x : TotalsUnit) : (s.setTotals x).chain = s.chain := rfl
@[simp] theorem setTotals_recipes (x : TotalsUnit) : (s.setTotals x).recipes = s.recipes := rfl
@[simp] theorem setTotals_queue (x : TotalsUnit) : (s.setTotals x).queue = s.queue := rfl
@[simp] theorem setTotals_schedule (x : TotalsUnit) : (s.setTotals x).schedule = s.schedule := rfl
@[simp] theorem setTotals_bag (x : TotalsUnit) : (s.setTotals x).bag = s.bag := rfl
@[simp] theorem setTotals_crumb (x : TotalsUnit) : (s.setTotals x).crumb = s.crumb := rfl
@[simp] theorem setTotals_line (x : TotalsUnit) : (s.setTotals x).line = s.line := rfl
@[simp] theorem setTotals_totals (x : TotalsUnit) : (s.setTotals x).totals = x := rfl
@[simp] theorem setTotals_store (x : TotalsUnit) : (s.setTotals x).store = s.store := rfl
@[simp] theorem setTotals_ports (x : TotalsUnit) : (s.setTotals x).ports = s.ports := rfl

/-! ### setStore -/

@[simp] theorem setStore_pending (x : TotalsStore) : (s.setStore x).pending = s.pending := rfl
@[simp] theorem setStore_now (x : TotalsStore) : (s.setStore x).now = s.now := rfl
@[simp] theorem setStore_choices (x : TotalsStore) : (s.setStore x).choices = s.choices := rfl
@[simp] theorem setStore_pos (x : TotalsStore) : (s.setStore x).pos = s.pos := rfl
@[simp] theorem setStore_chain (x : TotalsStore) : (s.setStore x).chain = s.chain := rfl
@[simp] theorem setStore_recipes (x : TotalsStore) : (s.setStore x).recipes = s.recipes := rfl
@[simp] theorem setStore_queue (x : TotalsStore) : (s.setStore x).queue = s.queue := rfl
@[simp] theorem setStore_schedule (x : TotalsStore) : (s.setStore x).schedule = s.schedule := rfl
@[simp] theorem setStore_bag (x : TotalsStore) : (s.setStore x).bag = s.bag := rfl
@[simp] theorem setStore_crumb (x : TotalsStore) : (s.setStore x).crumb = s.crumb := rfl
@[simp] theorem setStore_line (x : TotalsStore) : (s.setStore x).line = s.line := rfl
@[simp] theorem setStore_totals (x : TotalsStore) : (s.setStore x).totals = s.totals := rfl
@[simp] theorem setStore_store (x : TotalsStore) : (s.setStore x).store = x := rfl
@[simp] theorem setStore_ports (x : TotalsStore) : (s.setStore x).ports = s.ports := rfl

/-! ### setPorts -/

@[simp] theorem setPorts_pending (x : PortStates) : (s.setPorts x).pending = s.pending := rfl
@[simp] theorem setPorts_now (x : PortStates) : (s.setPorts x).now = s.now := rfl
@[simp] theorem setPorts_choices (x : PortStates) : (s.setPorts x).choices = s.choices := rfl
@[simp] theorem setPorts_pos (x : PortStates) : (s.setPorts x).pos = s.pos := rfl
@[simp] theorem setPorts_chain (x : PortStates) : (s.setPorts x).chain = s.chain := rfl
@[simp] theorem setPorts_recipes (x : PortStates) : (s.setPorts x).recipes = s.recipes := rfl
@[simp] theorem setPorts_queue (x : PortStates) : (s.setPorts x).queue = s.queue := rfl
@[simp] theorem setPorts_schedule (x : PortStates) : (s.setPorts x).schedule = s.schedule := rfl
@[simp] theorem setPorts_bag (x : PortStates) : (s.setPorts x).bag = s.bag := rfl
@[simp] theorem setPorts_crumb (x : PortStates) : (s.setPorts x).crumb = s.crumb := rfl
@[simp] theorem setPorts_line (x : PortStates) : (s.setPorts x).line = s.line := rfl
@[simp] theorem setPorts_totals (x : PortStates) : (s.setPorts x).totals = s.totals := rfl
@[simp] theorem setPorts_store (x : PortStates) : (s.setPorts x).store = s.store := rfl
@[simp] theorem setPorts_ports (x : PortStates) : (s.setPorts x).ports = x := rfl

/-! ### Updates of one zone, one port, one slot -/

@[simp] theorem setZone_pending (z : Zone) (x : ZoneState) : (s.setZone z x).pending = s.pending := rfl
@[simp] theorem setZone_now (z : Zone) (x : ZoneState) : (s.setZone z x).now = s.now := rfl
@[simp] theorem setZone_choices (z : Zone) (x : ZoneState) : (s.setZone z x).choices = s.choices := rfl
@[simp] theorem setZone_pos (z : Zone) (x : ZoneState) : (s.setZone z x).pos = s.pos := rfl
@[simp] theorem setZone_chain (z : Zone) (x : ZoneState) : (s.setZone z x).chain = s.chain := rfl
@[simp] theorem setZone_recipes (z : Zone) (x : ZoneState) : (s.setZone z x).recipes = s.recipes := rfl
@[simp] theorem setZone_queue (z : Zone) (x : ZoneState) : (s.setZone z x).queue = s.queue := rfl
@[simp] theorem setZone_schedule (z : Zone) (x : ZoneState) : (s.setZone z x).schedule = s.schedule := rfl
@[simp] theorem setZone_bag (z : Zone) (x : ZoneState) : (s.setZone z x).bag = s.bag := rfl
@[simp] theorem setZone_line (z : Zone) (x : ZoneState) : (s.setZone z x).line = s.line := rfl
@[simp] theorem setZone_totals (z : Zone) (x : ZoneState) : (s.setZone z x).totals = s.totals := rfl
@[simp] theorem setZone_store (z : Zone) (x : ZoneState) : (s.setZone z x).store = s.store := rfl
@[simp] theorem setZone_ports (z : Zone) (x : ZoneState) : (s.setZone z x).ports = s.ports := rfl

@[simp] theorem setPort_pending (p : Port) (x : PortState) : (s.setPort p x).pending = s.pending := rfl
@[simp] theorem setPort_now (p : Port) (x : PortState) : (s.setPort p x).now = s.now := rfl
@[simp] theorem setPort_choices (p : Port) (x : PortState) : (s.setPort p x).choices = s.choices := rfl
@[simp] theorem setPort_pos (p : Port) (x : PortState) : (s.setPort p x).pos = s.pos := rfl
@[simp] theorem setPort_chain (p : Port) (x : PortState) : (s.setPort p x).chain = s.chain := rfl
@[simp] theorem setPort_recipes (p : Port) (x : PortState) : (s.setPort p x).recipes = s.recipes := rfl
@[simp] theorem setPort_queue (p : Port) (x : PortState) : (s.setPort p x).queue = s.queue := rfl
@[simp] theorem setPort_schedule (p : Port) (x : PortState) : (s.setPort p x).schedule = s.schedule := rfl
@[simp] theorem setPort_bag (p : Port) (x : PortState) : (s.setPort p x).bag = s.bag := rfl
@[simp] theorem setPort_crumb (p : Port) (x : PortState) : (s.setPort p x).crumb = s.crumb := rfl
@[simp] theorem setPort_line (p : Port) (x : PortState) : (s.setPort p x).line = s.line := rfl
@[simp] theorem setPort_totals (p : Port) (x : PortState) : (s.setPort p x).totals = s.totals := rfl
@[simp] theorem setPort_store (p : Port) (x : PortState) : (s.setPort p x).store = s.store := rfl

@[simp] theorem setSlot_pending (i : Fin 16) (x : Slot) : (s.setSlot i x).pending = s.pending := rfl
@[simp] theorem setSlot_now (i : Fin 16) (x : Slot) : (s.setSlot i x).now = s.now := rfl
@[simp] theorem setSlot_choices (i : Fin 16) (x : Slot) : (s.setSlot i x).choices = s.choices := rfl
@[simp] theorem setSlot_pos (i : Fin 16) (x : Slot) : (s.setSlot i x).pos = s.pos := rfl
@[simp] theorem setSlot_chain (i : Fin 16) (x : Slot) : (s.setSlot i x).chain = s.chain := rfl
@[simp] theorem setSlot_queue (i : Fin 16) (x : Slot) : (s.setSlot i x).queue = s.queue := rfl
@[simp] theorem setSlot_schedule (i : Fin 16) (x : Slot) : (s.setSlot i x).schedule = s.schedule := rfl
@[simp] theorem setSlot_bag (i : Fin 16) (x : Slot) : (s.setSlot i x).bag = s.bag := rfl
@[simp] theorem setSlot_crumb (i : Fin 16) (x : Slot) : (s.setSlot i x).crumb = s.crumb := rfl
@[simp] theorem setSlot_line (i : Fin 16) (x : Slot) : (s.setSlot i x).line = s.line := rfl
@[simp] theorem setSlot_totals (i : Fin 16) (x : Slot) : (s.setSlot i x).totals = s.totals := rfl
@[simp] theorem setSlot_store (i : Fin 16) (x : Slot) : (s.setSlot i x).store = s.store := rfl
@[simp] theorem setSlot_ports (i : Fin 16) (x : Slot) : (s.setSlot i x).ports = s.ports := rfl

@[simp] theorem setShift_pending (x : ShiftRecord) : (s.setShift x).pending = s.pending := rfl
@[simp] theorem setShift_now (x : ShiftRecord) : (s.setShift x).now = s.now := rfl
@[simp] theorem setShift_choices (x : ShiftRecord) : (s.setShift x).choices = s.choices := rfl
@[simp] theorem setShift_pos (x : ShiftRecord) : (s.setShift x).pos = s.pos := rfl
@[simp] theorem setShift_chain (x : ShiftRecord) : (s.setShift x).chain = s.chain := rfl
@[simp] theorem setShift_recipes (x : ShiftRecord) : (s.setShift x).recipes = s.recipes := rfl
@[simp] theorem setShift_queue (x : ShiftRecord) : (s.setShift x).queue = s.queue := rfl
@[simp] theorem setShift_schedule (x : ShiftRecord) : (s.setShift x).schedule = s.schedule := rfl
@[simp] theorem setShift_bag (x : ShiftRecord) : (s.setShift x).bag = s.bag := rfl
@[simp] theorem setShift_crumb (x : ShiftRecord) : (s.setShift x).crumb = s.crumb := rfl
@[simp] theorem setShift_line (x : ShiftRecord) : (s.setShift x).line = s.line := rfl
@[simp] theorem setShift_store (x : ShiftRecord) : (s.setShift x).store = s.store := rfl
@[simp] theorem setShift_ports (x : ShiftRecord) : (s.setShift x).ports = s.ports := rfl

@[simp] theorem updateRecord_pending (tag : Nat) (f : LoafRecord → LoafRecord) : (s.updateRecord tag f).pending = s.pending := rfl
@[simp] theorem updateRecord_now (tag : Nat) (f : LoafRecord → LoafRecord) : (s.updateRecord tag f).now = s.now := rfl
@[simp] theorem updateRecord_choices (tag : Nat) (f : LoafRecord → LoafRecord) : (s.updateRecord tag f).choices = s.choices := rfl
@[simp] theorem updateRecord_pos (tag : Nat) (f : LoafRecord → LoafRecord) : (s.updateRecord tag f).pos = s.pos := rfl
@[simp] theorem updateRecord_chain (tag : Nat) (f : LoafRecord → LoafRecord) : (s.updateRecord tag f).chain = s.chain := rfl
@[simp] theorem updateRecord_recipes (tag : Nat) (f : LoafRecord → LoafRecord) : (s.updateRecord tag f).recipes = s.recipes := rfl
@[simp] theorem updateRecord_schedule (tag : Nat) (f : LoafRecord → LoafRecord) : (s.updateRecord tag f).schedule = s.schedule := rfl
@[simp] theorem updateRecord_bag (tag : Nat) (f : LoafRecord → LoafRecord) : (s.updateRecord tag f).bag = s.bag := rfl
@[simp] theorem updateRecord_crumb (tag : Nat) (f : LoafRecord → LoafRecord) : (s.updateRecord tag f).crumb = s.crumb := rfl
@[simp] theorem updateRecord_line (tag : Nat) (f : LoafRecord → LoafRecord) : (s.updateRecord tag f).line = s.line := rfl
@[simp] theorem updateRecord_totals (tag : Nat) (f : LoafRecord → LoafRecord) : (s.updateRecord tag f).totals = s.totals := rfl
@[simp] theorem updateRecord_store (tag : Nat) (f : LoafRecord → LoafRecord) : (s.updateRecord tag f).store = s.store := rfl
@[simp] theorem updateRecord_ports (tag : Nat) (f : LoafRecord → LoafRecord) : (s.updateRecord tag f).ports = s.ports := rfl

@[simp] theorem updateEntry_pending (id : Nat) (f : Entry → Entry) : (s.updateEntry id f).pending = s.pending := rfl
@[simp] theorem updateEntry_now (id : Nat) (f : Entry → Entry) : (s.updateEntry id f).now = s.now := rfl
@[simp] theorem updateEntry_choices (id : Nat) (f : Entry → Entry) : (s.updateEntry id f).choices = s.choices := rfl
@[simp] theorem updateEntry_pos (id : Nat) (f : Entry → Entry) : (s.updateEntry id f).pos = s.pos := rfl
@[simp] theorem updateEntry_chain (id : Nat) (f : Entry → Entry) : (s.updateEntry id f).chain = s.chain := rfl
@[simp] theorem updateEntry_recipes (id : Nat) (f : Entry → Entry) : (s.updateEntry id f).recipes = s.recipes := rfl
@[simp] theorem updateEntry_queue (id : Nat) (f : Entry → Entry) : (s.updateEntry id f).queue = s.queue := rfl
@[simp] theorem updateEntry_bag (id : Nat) (f : Entry → Entry) : (s.updateEntry id f).bag = s.bag := rfl
@[simp] theorem updateEntry_crumb (id : Nat) (f : Entry → Entry) : (s.updateEntry id f).crumb = s.crumb := rfl
@[simp] theorem updateEntry_line (id : Nat) (f : Entry → Entry) : (s.updateEntry id f).line = s.line := rfl
@[simp] theorem updateEntry_totals (id : Nat) (f : Entry → Entry) : (s.updateEntry id f).totals = s.totals := rfl
@[simp] theorem updateEntry_store (id : Nat) (f : Entry → Entry) : (s.updateEntry id f).store = s.store := rfl
@[simp] theorem updateEntry_ports (id : Nat) (f : Entry → Entry) : (s.updateEntry id f).ports = s.ports := rfl

@[simp] theorem setZone_crumb (z : Zone) (x : ZoneState) : (s.setZone z x).crumb = s.crumb.set z x := rfl
@[simp] theorem setPort_ports (p : Port) (x : PortState) : (s.setPort p x).ports = s.ports.set p x := rfl
@[simp] theorem setShift_totals (x : ShiftRecord) : (s.setShift x).totals = { s.totals with openShift := x } := rfl

/-! ### Reading back what an update wrote -/

@[simp] theorem CrumbUnit.get_set_self (c : CrumbUnit) (z : Zone) (x : ZoneState) : (c.set z x).get z = x := by cases z <;> rfl

theorem CrumbUnit.get_set_of_ne (c : CrumbUnit) (z w : Zone) (x : ZoneState) (h : w ≠ z) : (c.set z x).get w = c.get w := by
  cases z <;> cases w <;> simp_all [CrumbUnit.get, CrumbUnit.set]

@[simp] theorem PortStates.get_set_self (c : PortStates) (p : Port) (x : PortState) : (c.set p x).get p = x := by cases p <;> rfl

theorem PortStates.get_set_of_ne (c : PortStates) (p q : Port) (x : PortState) (h : q ≠ p) : (c.set p x).get q = c.get q := by
  cases p <;> cases q <;> simp_all [PortStates.get, PortStates.set]

@[simp] theorem zone_setZone_self (z : Zone) (x : ZoneState) : (s.setZone z x).zone z = x := CrumbUnit.get_set_self s.crumb z x

theorem zone_setZone_of_ne (z w : Zone) (x : ZoneState) (h : w ≠ z) : (s.setZone z x).zone w = s.zone w :=
  CrumbUnit.get_set_of_ne s.crumb z w x h

@[simp] theorem port_setPort_self (p : Port) (x : PortState) : (s.setPort p x).port p = x := PortStates.get_set_self s.ports p x

theorem port_setPort_of_ne (p q : Port) (x : PortState) (h : q ≠ p) : (s.setPort p x).port q = s.port q :=
  PortStates.get_set_of_ne s.ports p q x h

@[simp] theorem EyeFilters.get_set_self (f : EyeFilters) (e : Eye) (x : EyeFilter) : (f.set e x).get e = x := by cases e <;> rfl

theorem EyeFilters.get_set_of_ne (f : EyeFilters) (e d : Eye) (x : EyeFilter) (h : d ≠ e) : (f.set e x).get d = f.get d := by
  cases e <;> cases d <;> simp_all [EyeFilters.get, EyeFilters.set]

@[simp] theorem bank_setBank_self (t : TotalsStore) (i : BankId) (x : Bank) : (t.setBank i x).bank i = x := by cases i <;> rfl

theorem bank_setBank_of_ne (t : TotalsStore) (i j : BankId) (x : Bank) (h : j ≠ i) : (t.setBank i x).bank j = t.bank j := by
  cases i <;> cases j <;> simp_all [TotalsStore.bank, TotalsStore.setBank]

@[simp] theorem slot_setSlot_self (i : Fin 16) (x : Slot) : (s.setSlot i x).slot i = x := by
  show (s.recipes.slots.set i x)[i] = x
  simp

theorem slot_setSlot_of_ne (i j : Fin 16) (x : Slot) (h : j ≠ i) : (s.setSlot i x).slot j = s.slot j := by
  have hv : i.val ≠ j.val := fun e => h (Fin.ext e.symm)
  show (s.recipes.slots.set i x)[j] = s.recipes.slots[j]
  simp [hv]

end Sys2Proof.Machine
end

