-- ==== Sys2Proof/Laws/Frames.lean ====
section
/-! SUPPORT. The frame of each shared operation: the fields of State it may touch. A proof about what an operation leaves unchanged
cites these instead of unfolding it. -/

namespace Sys2Proof.Machine

variable {s t u : State} {ps qs : List Part}

/-! ## Composition -/

theorem OnlyTouches.refl (ps : List Part) (s : State) : OnlyTouches ps s s := by
  intro x _; cases x <;> rfl

theorem SamePart.trans {x : Part} (h : SamePart s t x) (k : SamePart t u x) : SamePart s u x := by
  cases x <;> exact Eq.trans k h

theorem OnlyTouches.within (h : OnlyTouches qs s t) (sub : qs.all ps.contains = true) : OnlyTouches ps s t := by
  intro x hx
  refine h x fun hm => hx ?_
  have := List.all_eq_true.mp sub x hm
  simpa using this

theorem OnlyTouches.trans (h : OnlyTouches ps s t) (k : OnlyTouches ps t u) : OnlyTouches ps s u :=
  fun x hx => SamePart.trans (h x hx) (k x hx)

/-- One more operation after others, whose fields are among theirs. -/
theorem OnlyTouches.andThen (h : OnlyTouches ps s t) (k : OnlyTouches qs t u) (sub : qs.all ps.contains = true) :
    OnlyTouches ps s u := h.trans (k.within sub)

theorem OnlyTouches.foldl {α : Type} (f : State → α → State) (h : ∀ s a, OnlyTouches ps s (f s a)) (l : List α) (s : State) :
    OnlyTouches ps s (l.foldl f s) := by
  induction l generalizing s with
  | nil => exact .refl ps s
  | cons a l ih => exact (h s a).trans (ih (f s a))

theorem OnlyTouches.ite {c : Prop} [Decidable c] (h : OnlyTouches ps s t) (k : OnlyTouches ps s u) :
    OnlyTouches ps s (if c then t else u) := by
  split <;> assumption

/-! ## The updates -/

theorem setPending_frame (s : State) (x : List Instr) : OnlyTouches [.pending] s (s.setPending x) := by
  intro y hy; cases y <;> first | rfl | exact absurd (by decide) hy

theorem setNow_frame (s : State) (x : Nat) : OnlyTouches [.now] s (s.setNow x) := by
  intro y hy; cases y <;> first | rfl | exact absurd (by decide) hy

theorem setChoices_frame (s : State) (x : Nat) : OnlyTouches [.choices] s (s.setChoices x) := by
  intro y hy; cases y <;> first | rfl | exact absurd (by decide) hy

theorem setPos_frame (s : State) (x : PositionUnit) : OnlyTouches [.pos] s (s.setPos x) := by
  intro y hy; cases y <;> first | rfl | exact absurd (by decide) hy

theorem setChain_frame (s : State) (x : StationChain) : OnlyTouches [.chain] s (s.setChain x) := by
  intro y hy; cases y <;> first | rfl | exact absurd (by decide) hy

theorem setRecipes_frame (s : State) (x : RecipeTable) : OnlyTouches [.recipes] s (s.setRecipes x) := by
  intro y hy; cases y <;> first | rfl | exact absurd (by decide) hy

theorem setQueue_frame (s : State) (x : TrackingQueue) : OnlyTouches [.queue] s (s.setQueue x) := by
  intro y hy; cases y <;> first | rfl | exact absurd (by decide) hy

theorem setSchedule_frame (s : State) (x : RunSchedule) : OnlyTouches [.schedule] s (s.setSchedule x) := by
  intro y hy; cases y <;> first | rfl | exact absurd (by decide) hy

theorem setBag_frame (s : State) (x : BagClipUnit) : OnlyTouches [.bag] s (s.setBag x) := by
  intro y hy; cases y <;> first | rfl | exact absurd (by decide) hy

theorem setCrumb_frame (s : State) (x : CrumbUnit) : OnlyTouches [.crumb] s (s.setCrumb x) := by
  intro y hy; cases y <;> first | rfl | exact absurd (by decide) hy

theorem setLine_frame (s : State) (x : LineUnit) : OnlyTouches [.line] s (s.setLine x) := by
  intro y hy; cases y <;> first | rfl | exact absurd (by decide) hy

theorem setTotals_frame (s : State) (x : TotalsUnit) : OnlyTouches [.totals] s (s.setTotals x) := by
  intro y hy; cases y <;> first | rfl | exact absurd (by decide) hy

theorem setStore_frame (s : State) (x : TotalsStore) : OnlyTouches [.store] s (s.setStore x) := by
  intro y hy; cases y <;> first | rfl | exact absurd (by decide) hy

theorem setPorts_frame (s : State) (x : PortStates) : OnlyTouches [.ports] s (s.setPorts x) := by
  intro y hy; cases y <;> first | rfl | exact absurd (by decide) hy

theorem setZone_frame (s : State) (z : Zone) (x : ZoneState) : OnlyTouches [.crumb] s (s.setZone z x) := by
  intro y hy; cases y <;> first | rfl | exact absurd (by decide) hy

theorem setPort_frame (s : State) (p : Port) (x : PortState) : OnlyTouches [.ports] s (s.setPort p x) := by
  intro y hy; cases y <;> first | rfl | exact absurd (by decide) hy

theorem setSlot_frame (s : State) (i : Fin 16) (x : Slot) : OnlyTouches [.recipes] s (s.setSlot i x) := by
  intro y hy; cases y <;> first | rfl | exact absurd (by decide) hy

theorem setShift_frame (s : State) (x : ShiftRecord) : OnlyTouches [.totals] s (s.setShift x) := by
  intro y hy; cases y <;> first | rfl | exact absurd (by decide) hy

theorem updateRecord_frame (s : State) (tag : Nat) (f : LoafRecord → LoafRecord) : OnlyTouches [.queue] s (s.updateRecord tag f) := by
  intro y hy; cases y <;> first | rfl | exact absurd (by decide) hy

theorem updateEntry_frame (s : State) (id : Nat) (f : Entry → Entry) : OnlyTouches [.schedule] s (s.updateEntry id f) := by
  intro y hy; cases y <;> first | rfl | exact absurd (by decide) hy

end Sys2Proof.Machine
end

