-- ==== Sys2Proof/Laws/OpFrames.lean ====
section
/-! SUPPORT. The frames of the blocks' shared operations, from notices and holds up to an advance of H. -/

namespace Sys2Proof.Machine

variable (s : State)

/-! ## Notices, holds, the permit -/

theorem notify_frame (p : Port) (k : NoticeKind) : OnlyTouches [.ports] s (s.notify p k) := setPort_frame s p _

theorem respond_frame (p : Port) (kind seq : Byte) (result : ResultCode) (body : List Byte) :
    OnlyTouches [.ports] s (s.respond p kind seq result body) := setPort_frame s p _

theorem notifyHoldChanged_frame : OnlyTouches [.ports] s s.notifyHoldChanged :=
  ((notify_frame s _ _).trans (notify_frame _ _ _)).trans (notify_frame _ _ _)

theorem changeHolds_frame (w : Set16) : OnlyTouches [.line, .ports] s (s.changeHolds w) :=
  ((setLine_frame s _).within rfl).andThen (notifyHoldChanged_frame _) rfl

theorem placeHold_frame (r : HoldReason) : OnlyTouches [.line, .ports] s (s.placeHold r) :=
  .ite (.refl _ s) (changeHolds_frame s _)

theorem releaseHold_frame (r : HoldReason) : OnlyTouches [.line, .ports] s (s.releaseHold r) :=
  .ite (changeHolds_frame s _) (.refl _ s)

theorem judgeHold_frame (r : HoldReason) (c : Bool) : OnlyTouches [.line, .ports] s (s.judgeHold r c) :=
  .ite (placeHold_frame s r) (releaseHold_frame s r)

theorem setLineState_frame (l : LineState) (x : Option Nat) : OnlyTouches [.line] s (s.setLineState l x) := setLine_frame s _

/-! ## Crumb -/

theorem judgeBlast_frame (z : Zone) : OnlyTouches [.crumb] s (s.judgeBlast z) := by
  unfold State.judgeBlast
  split
  · exact .ite (setZone_frame s z _) (.refl _ s)
  · exact .refl _ s

theorem judgeBlasts_frame : OnlyTouches [.crumb] s s.judgeBlasts := (judgeBlast_frame s _).trans (judgeBlast_frame _ _)

theorem judgeFull_frame (z : Zone) : OnlyTouches [.line, .ports] s (s.judgeFull z) :=
  .ite (placeHold_frame s _) (.ite (releaseHold_frame s _) (.refl _ s))

theorem charge_frame (z : Zone) (c : Nat) : OnlyTouches [.crumb, .line, .ports] s (s.charge z c) :=
  .ite ((((setZone_frame s z _).within rfl).andThen (judgeFull_frame _ z) rfl).andThen (judgeBlast_frame _ z) rfl) (.refl _ s)

theorem unfitZone_frame (z : Zone) : OnlyTouches [.crumb, .line, .ports] s (s.unfitZone z) :=
  .ite (((setZone_frame s z _).within rfl).andThen (releaseHold_frame _ _) rfl) (.refl _ s)

theorem fitZone_frame (z : Zone) : OnlyTouches [.crumb] s (s.fitZone z) :=
  .ite (.refl _ s) (.ite ((setZone_frame s z _).trans (judgeBlast_frame _ z)) (.refl _ s))

theorem dropPurges_frame : OnlyTouches [.crumb] s s.dropPurges := setCrumb_frame s _

theorem enterIdlePurge_frame : OnlyTouches [.crumb] s s.enterIdlePurge := (setCrumb_frame s _).trans (judgeBlasts_frame _)

theorem cutBlast_frame (z : Zone) : OnlyTouches [.crumb] s (s.cutBlast z) := by
  unfold State.cutBlast
  split
  · exact (setZone_frame s z _).trans (judgeBlast_frame _ z)
  · exact .refl _ s

/-! ## Totals and time -/

theorem countLeave_frame (r : LoafRecord) (o : LeaveOutcome) : OnlyTouches [.totals] s (s.countLeave r o) := setShift_frame s _

theorem countBlast_frame (z : Zone) : OnlyTouches [.totals] s (s.countBlast z) := by cases z <;> exact setShift_frame s _

theorem passInto_frame (d : Nat) (a : TimeCount) : OnlyTouches [.totals] s (s.passInto d a) :=
  .ite (setTotals_frame s _) (.refl _ s)

theorem elapse_frame (d : Nat) : OnlyTouches [.now, .totals] s (s.elapse d) :=
  (((((setNow_frame s _).within rfl).andThen (passInto_frame _ d _) rfl).andThen (passInto_frame _ d _) rfl).andThen
    (passInto_frame _ d _) rfl).andThen (passInto_frame _ d _) rfl

theorem reach_frame (x : Nat) : OnlyTouches [.now, .totals] s (s.reach x) :=
  .ite (elapse_frame s _) (.refl _ s)

/-! ## Recipes -/

theorem raiseInFlight_frame (i : Fin 16) : OnlyTouches [.recipes] s (s.raiseInFlight i) := setSlot_frame s i _

theorem lowerInFlight_frame (i : Fin 16) : OnlyTouches [.recipes, .ports] s (s.lowerInFlight i) :=
  .ite (((setSlot_frame s i _).within rfl).andThen (notify_frame _ _ _) rfl) ((setSlot_frame s i _).within rfl)

theorem setSelection_frame (x : Option Selection) : OnlyTouches [.recipes] s (s.setSelection x) := setRecipes_frame s _

theorem setSlotState_frame (i : Fin 16) (x : SlotState) : OnlyTouches [.recipes] s (s.setSlotState i x) := setSlot_frame s i _

theorem unloadActive_frame : OnlyTouches [.recipes] s s.unloadActive := by
  unfold State.unloadActive
  split
  · exact setSlotState_frame s _ _
  · exact .refl _ s

theorem judgeBlade_frame : OnlyTouches [.line, .ports] s s.judgeBlade := judgeHold_frame s _ _

theorem changeover_frame (i : Fin 16) : OnlyTouches [.recipes, .line, .ports] s (s.changeover i) :=
  (((((((unloadActive_frame s).within rfl).andThen (setSlotState_frame _ i _) rfl).andThen (setSelection_frame _ _) rfl).andThen
    (notify_frame _ _ _) rfl).andThen (notify_frame _ _ _) rfl).andThen (releaseHold_frame _ _) rfl).andThen
    (judgeBlade_frame _) rfl

theorem notifyDisplaced_frame (w : Source) : OnlyTouches [.ports] s (s.notifyDisplaced w) := by
  unfold State.notifyDisplaced
  split
  · refine .ite (.refl _ s) ?_
    split
    · exact notify_frame s _ _
    · exact notify_frame s _ _
    · exact .refl _ s
  · exact .refl _ s

theorem writeSelection_frame (i : Fin 16) (w : Source) : OnlyTouches [.recipes, .line, .ports] s (s.writeSelection i w) := by
  unfold State.writeSelection
  split
  · split
    · exact ((notifyDisplaced_frame s w).within rfl).andThen (changeover_frame _ i) rfl
    · exact ((notifyDisplaced_frame s w).within rfl).andThen (setSelection_frame _ _) rfl
  · exact ((notifyDisplaced_frame s w).within rfl).andThen (setSelection_frame _ _) rfl
  · exact .refl _ s
  · exact .refl _ s

theorem takePending_frame : OnlyTouches [.recipes, .line, .ports] s s.takePending := by
  unfold State.takePending
  split
  · exact changeover_frame s _
  · exact .refl _ s

/-! ## Schedule -/

theorem setScheduleState_frame (x : ScheduleState) : OnlyTouches [.schedule] s (s.setScheduleState x) := setSchedule_frame s _

theorem suspendSchedule_frame : OnlyTouches [.schedule, .ports] s s.suspendSchedule :=
  .ite (((setScheduleState_frame s _).within rfl).andThen (notify_frame _ _ _) rfl) (.refl _ s)

theorem raiseCarried_frame (id : Option Nat) : OnlyTouches [.schedule] s (s.raiseCarried id) := by
  cases id
  · exact .refl _ s
  · exact updateEntry_frame s _ _

theorem closeEntry_frame (id : Nat) : OnlyTouches [.schedule, .ports] s (s.closeEntry id) := by
  unfold State.closeEntry
  split
  · exact .ite (((updateEntry_frame s _ _).within rfl).andThen (notify_frame _ _ _) rfl) (.refl _ s)
  · exact .refl _ s

theorem countInEntry_frame (r : LoafRecord) (o : LeaveOutcome) : OnlyTouches [.schedule, .ports] s (s.countInEntry r o) := by
  unfold State.countInEntry
  split
  · exact ((updateEntry_frame s _ _).within rfl).andThen (closeEntry_frame _ _) rfl
  · exact .refl _ s

theorem judgeGap_frame (p : Pos) (gap : Nat) : OnlyTouches [.schedule, .line, .ports] s (s.judgeGap p gap) :=
  .ite (.refl _ s) (.ite (.refl _ s) (((placeHold_frame s _).within rfl).andThen (setSchedule_frame _ _) rfl))

theorem activateNext_frame (stop : Bool) : OnlyTouches [.schedule, .recipes, .line, .ports] s (s.activateNext stop) := by
  unfold State.activateNext
  split
  · rename_i e _
    refine OnlyTouches.trans (t := s.updateEntry e.id fun x => { x with state := .active })
      ((updateEntry_frame s _ _).within rfl) ?_
    refine .ite (((placeHold_frame _ _).within rfl).andThen (suspendSchedule_frame _) rfl) ?_
    exact .ite ((writeSelection_frame _ _ _).within rfl) (.refl _ _)
  · refine OnlyTouches.trans (t := s.setScheduleState .idle) ((setScheduleState_frame s _).within rfl) ?_
    exact .ite ((placeHold_frame _ _).within rfl) (.refl _ _)

theorem fillByAdmission_frame (e : Entry) (p : Pos) :
    OnlyTouches [.schedule, .recipes, .line, .ports] s (s.fillByAdmission e p) :=
  ((((updateEntry_frame s _ _).within rfl).andThen (judgeGap_frame _ p _) rfl).andThen (activateNext_frame _ _) rfl).andThen
    (closeEntry_frame _ _) rfl

theorem fillByCancel_frame (e : Entry) : OnlyTouches [.schedule, .recipes, .line, .ports] s (s.fillByCancel e) :=
  (((updateEntry_frame s _ _).within rfl).andThen (activateNext_frame _ _) rfl).andThen (closeEntry_frame _ _) rfl

theorem judgeAdmission_frame (r : LoafRecord) (x : Reasons) (p : Pos) :
    OnlyTouches [.queue, .schedule, .recipes, .line, .ports] s (s.judgeAdmission r x p) := by
  unfold State.judgeAdmission
  split
  · exact .refl _ s
  · refine .ite (.refl _ s) ?_
    split
    · exact .refl _ s
    · rename_i id _ _ e _
      refine .ite ?_ ?_
      · refine OnlyTouches.trans (t := s.updateEntry id fun x => { x with admitted := x.admitted + 1 }) ((updateEntry_frame s _ _).within rfl) ?_
        exact .ite ((fillByAdmission_frame _ _ p).within rfl) (.refl _ _)
      · exact (((updateRecord_frame s _ _).within rfl).andThen (updateEntry_frame _ _ _) rfl).andThen (closeEntry_frame _ _) rfl

theorem watchGap_frame : OnlyTouches [.schedule, .line, .ports] s s.watchGap := by
  unfold State.watchGap
  split
  · exact .ite (((releaseHold_frame s _).within rfl).andThen (setSchedule_frame _ _) rfl) (.refl _ s)
  · exact .refl _ s

/-! ## Bags and ties -/

theorem judgeClips_frame (low : Bool) : OnlyTouches [.line, .ports] s (s.judgeClips low) := by
  refine OnlyTouches.trans (t := s.judgeHold .clipEmpty (decide (s.bag.magazine = 0))) (judgeHold_frame s _ _) ?_
  exact .ite ((notify_frame _ _ _).within rfl) (.refl _ _)

theorem setMagazine_frame (count threshold : Nat) : OnlyTouches [.bag, .line, .ports] s (s.setMagazine count threshold) :=
  ((setBag_frame s _).within rfl).andThen (judgeClips_frame _ _) rfl

theorem setTieStatus_frame (tag : Nat) (x : TieStatus) : OnlyTouches [.queue] s (s.setTieStatus tag x) := updateRecord_frame s _ _

theorem missTie_frame (tag : Nat) (c : MissCause) : OnlyTouches [.bag, .queue] s (s.missTie tag c) :=
  ((setBag_frame s _).within rfl).andThen (setTieStatus_frame _ _ _) rfl

theorem fireTyer_frame (tag : Nat) : OnlyTouches [.bag, .queue, .totals, .line, .ports] s (s.fireTyer tag) :=
  ((((setBag_frame s _).within rfl).andThen (setMagazine_frame _ _ _) rfl).andThen (setShift_frame _ _) rfl).andThen
    (setTieStatus_frame _ _ _) rfl

theorem takeTieFire_frame (tag : Nat) : OnlyTouches [.bag, .queue, .totals, .line, .ports] s (s.takeTieFire tag) := by
  unfold State.takeTieFire
  split
  · exact .ite ((missTie_frame s _ _).within rfl) (fireTyer_frame s tag)
  · exact (missTie_frame s _ _).within rfl
  · exact (missTie_frame s _ _).within rfl

theorem enterTie_frame (tag : Nat) (q : Pos) : OnlyTouches [.bag] s (s.enterTie tag q) := setBag_frame s _

theorem withdrawTie_frame (tag : Nat) : OnlyTouches [.bag] s (s.withdrawTie tag) := setBag_frame s _

theorem endTie_frame (f : TieInFlight) (x : TieStatus) : OnlyTouches [.queue] s (s.endTie f x) :=
  .ite (setTieStatus_frame s _ _) (.refl _ s)

/-! ## The queue -/

theorem removeRecord_frame (tag : Nat) : OnlyTouches [.queue, .line, .ports] s (s.removeRecord tag) := by
  refine OnlyTouches.trans (t := s.setQueue { s.queue with records := dropRecord tag s.queue.records })
    ((setQueue_frame s _).within rfl) ?_
  exact .ite ((releaseHold_frame _ _).within rfl) (.refl _ _)

theorem leave_frame (r : LoafRecord) (o : LeaveOutcome) : OnlyTouches queueParts s (s.leave r o) :=
  ((((((countLeave_frame s r o).within rfl).andThen (countInEntry_frame _ r o) rfl).andThen (lowerInFlight_frame _ _) rfl).andThen
    (removeRecord_frame _ _) rfl).andThen (withdrawTie_frame _ _) rfl).andThen (judgeBlasts_frame _) rfl

theorem judgeWithdrawn_frame (r : LoafRecord) : OnlyTouches [.ports] s (s.judgeWithdrawn r) :=
  .ite (notify_frame s _ _) (.refl _ s)

theorem lose_frame (r : LoafRecord) : OnlyTouches queueParts s (s.lose r) :=
  ((leave_frame s r _).andThen (notify_frame _ _ _) rfl).andThen (judgeWithdrawn_frame _ r) rfl

theorem setGate_frame (g : Gate) (x : Pulse) : OnlyTouches [.queue] s (s.setGate g x) := by
  cases g <;> exact setQueue_frame s _

theorem driveGate_frame (g : Gate) : OnlyTouches [.queue] s (s.driveGate g) := by
  unfold State.driveGate
  split
  · exact setGate_frame s g _
  · exact .refl _ s

theorem rejectFire_frame (r : LoafRecord) : OnlyTouches queueParts s (s.rejectFire r) :=
  ((driveGate_frame s _).within rfl).andThen (leave_frame _ r _) rfl

theorem exitFire_frame (r : LoafRecord) : OnlyTouches queueParts s (s.exitFire r) :=
  OnlyTouches.trans (.ite (.refl _ s) ((driveGate_frame s _).within rfl)) (leave_frame _ r _)

theorem joinRecord_frame (r : LoafRecord) : OnlyTouches [.queue, .line, .ports] s (s.joinRecord r) := by
  refine OnlyTouches.trans
    (t := s.setQueue { s.queue with records := s.queue.records ++ [r], tagCounter := after255 r.tag })
    ((setQueue_frame s _).within rfl) ?_
  exact .ite ((placeHold_frame _ _).within rfl) (.refl _ _)

theorem createRecord_frame (i : Fin 16) (p : Pos) : OnlyTouches queueParts s (s.createRecord i p) :=
  (((((joinRecord_frame s _).within rfl).andThen (raiseInFlight_frame _ i) rfl).andThen (raiseCarried_frame _ _) rfl).andThen
    (setShift_frame _ _) rfl).andThen (judgeBlasts_frame _) rfl

theorem enterLoaf_frame (p : Pos) : OnlyTouches queueParts s (s.enterLoaf p) := by
  unfold State.enterLoaf
  split
  · exact .refl _ s
  · refine .ite (((setShift_frame s _).within rfl).andThen (notify_frame _ _ _) rfl) ?_
    split
    · exact (takePending_frame s).within rfl
    · exact ((takePending_frame s).within rfl).andThen (createRecord_frame _ _ p) rfl

theorem infeedLeading_frame (p : Pos) : OnlyTouches queueParts s (s.infeedLeading p) := by
  unfold State.infeedLeading
  split
  · exact (lose_frame s _).trans (enterLoaf_frame _ p)
  · exact enterLoaf_frame s p

theorem judgeBagReady_frame (x : Reasons) : OnlyTouches [.ports] s (s.judgeBagReady x) := .ite (.refl _ s) (notify_frame s _ _)

theorem planRecord_frame (r : LoafRecord) (q : Product) (p : Pos) : OnlyTouches queueParts s (s.planRecord r q p) :=
  ((((updateRecord_frame s _ _).within rfl).andThen (judgeAdmission_frame _ r _ p) rfl).andThen (judgeBagReady_frame _ _) rfl).andThen
    (judgeBlasts_frame _) rfl

theorem infeedTrailing_frame (p : Pos) : OnlyTouches queueParts s (s.infeedTrailing p) := by
  unfold State.infeedTrailing
  split
  · exact .refl _ s
  · split
    · exact planRecord_frame s _ _ p
    · exact .refl _ s

theorem strayEdge_frame : OnlyTouches [.totals, .ports] s s.strayEdge :=
  ((setShift_frame s _).within rfl).andThen (notify_frame _ _ _) rfl

theorem putRecord_frame (r : LoafRecord) : OnlyTouches [.queue] s (s.putRecord r) := updateRecord_frame s _ _

theorem matchE1_frame (r : LoafRecord) (p : Pos) : OnlyTouches queueParts s (s.matchE1 r p) := by
  unfold State.matchE1
  refine OnlyTouches.trans (t := (s.putRecord r).charge .z0 (r.plan.elim 0 Plan.crumb))
    (((putRecord_frame s r).within rfl).andThen (charge_frame _ _ _) rfl) ?_
  refine .ite ?_ (((putRecord_frame _ _).within rfl).andThen (judgeBlasts_frame _) rfl)
  split
  · exact .refl _ _
  · refine .ite ?_ ?_
    · exact (((putRecord_frame _ _).within rfl).andThen (judgeWithdrawn_frame _ r) rfl).andThen (rejectFire_frame _ _) rfl
    · exact (((putRecord_frame _ _).within rfl).andThen (judgeWithdrawn_frame _ r) rfl).andThen (judgeBlasts_frame _) rfl

theorem matchE2_frame (r : LoafRecord) (p : Pos) : OnlyTouches queueParts s (s.matchE2 r p) := by
  unfold State.matchE2
  refine OnlyTouches.andThen (t := ite _ _ _) ?_ (judgeBlasts_frame _) rfl
  refine .ite ?_ ?_
  · exact (((putRecord_frame s r).within rfl).andThen (charge_frame _ _ _) rfl).andThen (putRecord_frame _ _) rfl
  · exact ((((putRecord_frame s r).within rfl).andThen (charge_frame _ _ _) rfl).andThen (putRecord_frame _ _) rfl).andThen
      (notify_frame _ _ _) rfl

theorem matchE3_frame (r : LoafRecord) (p : Pos) : OnlyTouches queueParts s (s.matchE3 r p) := by
  unfold State.matchE3
  refine .ite (((putRecord_frame s _).within rfl).andThen (judgeBlasts_frame _) rfl) ?_
  split
  · exact ((putRecord_frame s _).within rfl).andThen (judgeBlasts_frame _) rfl
  · refine OnlyTouches.andThen (t := ite _ _ _) ?_ (judgeBlasts_frame _) rfl
    exact .ite (((putRecord_frame s _).within rfl).andThen (takeTieFire_frame _ _) rfl)
      (((putRecord_frame s _).within rfl).andThen (enterTie_frame _ _ _) rfl)

theorem matchE4_frame (r : LoafRecord) (p : Pos) : OnlyTouches queueParts s (s.matchE4 r p) := by
  unfold State.matchE4
  split
  · exact ((putRecord_frame s r).within rfl).trans (leave_frame _ r _)
  · exact .ite (((putRecord_frame s _).within rfl).trans (exitFire_frame _ _))
      (((putRecord_frame s _).within rfl).andThen (judgeBlasts_frame _) rfl)

theorem matchAt_frame (e : Eye) (r : LoafRecord) (p : Pos) : OnlyTouches queueParts s (s.matchAt e r p) := by
  cases e
  · exact .refl _ s
  · exact matchE1_frame s r p
  · exact matchE2_frame s r p
  · exact matchE3_frame s r p
  · exact matchE4_frame s r p

theorem tryCandidates_frame (e : Eye) (st : EyeStation) (p : Pos) (rs : List LoafRecord) :
    OnlyTouches queueParts s (s.tryCandidates e st p rs) := by
  induction rs generalizing s with
  | nil => exact (strayEdge_frame s).within rfl
  | cons r rest ih =>
    unfold State.tryCandidates
    exact .ite ((strayEdge_frame s).within rfl) (.ite ((lose_frame s r).trans (ih _)) (matchAt_frame s e _ p))

theorem downstreamLeading_frame (e : Eye) (p : Pos) : OnlyTouches queueParts s (s.downstreamLeading e p) := by
  unfold State.downstreamLeading
  split
  · exact (strayEdge_frame s).within rfl
  · exact tryCandidates_frame s e _ p _

theorem takeEdge_frame (e : Eye) (l : Level) (p : Pos) : OnlyTouches queueParts s (s.takeEdge e l p) := by
  unfold State.takeEdge
  split
  · exact infeedLeading_frame s p
  · exact infeedTrailing_frame s p
  · exact downstreamLeading_frame s _ p
  · exact downstreamLeading_frame s _ p
  · exact downstreamLeading_frame s _ p
  · exact downstreamLeading_frame s _ p
  · exact .refl _ s
  · exact .refl _ s
  · exact .refl _ s
  · exact .refl _ s

/-! ## An advance of H -/

theorem takeDue_frame (tag : Nat) : OnlyTouches queueParts s (s.takeDue tag) := by
  unfold State.takeDue
  split
  · exact .refl _ s
  · split
    · exact .refl _ s
    · exact lose_frame s _
    · exact rejectFire_frame s _
    · exact exitFire_frame s _

theorem watchRecords_frame : OnlyTouches queueParts s s.watchRecords := .foldl _ takeDue_frame _ s

theorem watchTie_frame (x : PendingTie) : OnlyTouches (.choices :: queueParts) s (s.watchTie x) := by
  unfold State.watchTie
  refine .ite ?_ (.refl _ s)
  refine .ite ?_ (((setBag_frame s _).within rfl).andThen (takeTieFire_frame _ _) rfl)
  refine OnlyTouches.trans (t := s.setChoices (s.choices + 1)) ((setChoices_frame s _).within rfl) ?_
  exact .ite (.refl _ _) (((setBag_frame _ _).within rfl).andThen (takeTieFire_frame _ _) rfl)

theorem watchTies_frame : OnlyTouches (.choices :: queueParts) s s.watchTies := .foldl _ watchTie_frame _ s

theorem activity_frame : OnlyTouches [.line, .crumb] s s.activity := by
  unfold State.activity
  split
  · exact .refl _ s
  · exact (setLine_frame s _).within rfl
  · exact ((setLineState_frame s _ _).within rfl).andThen (dropPurges_frame _) rfl

theorem advanced_frame : OnlyTouches (.choices :: queueParts) s s.advanced :=
  (((((activity_frame s).within rfl).andThen (watchTies_frame _) rfl).andThen (watchRecords_frame _) rfl).andThen
    (watchGap_frame _) rfl).andThen (judgeBlasts_frame _) rfl

theorem edgeActivity_frame (e : Eye) : OnlyTouches [.line, .crumb] s (s.edgeActivity e) := by
  cases e
  · exact activity_frame s
  all_goals exact .refl _ s

theorem acceptEdge_frame (e : Eye) (l : Level) (c : PendingChange) :
    OnlyTouches (.pos :: queueParts) s (s.acceptEdge e l c) := by
  have h : OnlyTouches (.pos :: queueParts) s ((s.setFilter e { accepted := l, change := none }).edgeActivity e) :=
    ((setPos_frame s _).within rfl).andThen (edgeActivity_frame _ e) rfl
  exact .ite (h.andThen (takeEdge_frame _ e l _) rfl) h

end Sys2Proof.Machine
end

