-- ==== Sys2Proof/Laws/Ops.lean ====
section
/-! SUPPORT. What the shared operations do to the fields they touch: responses, notices, holds and the permit, time, records by tag,
firstFree, rounding of small cases. -/

namespace Sys2Proof.Machine

variable (s : State)

/-! ## Responses -/

theorem respond_answers (p : Port) (k : RequestKind) (seq : Byte) (result : ResultCode) (body : List Byte) :
    Answers (s.respond p (BitVec.ofNat 8 k.code) seq result body) p k seq result body := by
  refine ⟨?_, ?_, ?_⟩ <;> simp [State.respond, PortState.answered, filler]
  cases k <;> rfl

theorem respond_sameNotices (p q : Port) (kind seq : Byte) (result : ResultCode) (body : List Byte) :
    SameNotices s (s.respond p kind seq result body) q := by
  by_cases h : q = p
  · subst h; simp [SameNotices, State.respond, PortState.answered]
  · simp [SameNotices, State.respond, port_setPort_of_ne _ _ _ _ h]

theorem respond_port_of_ne (p q : Port) (kind seq : Byte) (result : ResultCode) (body : List Byte) (h : q ≠ p) :
    (s.respond p kind seq result body).port q = s.port q := by
  simp [State.respond, port_setPort_of_ne _ _ _ _ h]

theorem answer_permitted (k : RequestKind) (p : Port) (seq : Byte) (r : Reply) (h : k.permitted p = true) :
    s.answer k p seq r = r.state.respond p (BitVec.ofNat 8 k.code) seq r.result r.body := by
  simp [State.answer, h]

theorem answer_notPermitted (k : RequestKind) (p : Port) (seq : Byte) (r : Reply) (h : k.permitted p = false) :
    s.answer k p seq r = s.respond p (BitVec.ofNat 8 k.code) seq .notPermitted [] := by
  simp [State.answer, h]

/-- What an answer may touch: the ports, and what the block's reply touches. -/
theorem answer_frame (k : RequestKind) (p : Port) (seq : Byte) (r : Reply) {ps : List Part} (h : OnlyTouches ps s r.state)
    (hp : Part.ports ∈ ps) : OnlyTouches ps s (s.answer k p seq r) := by
  have sub : [Part.ports].all ps.contains = true := by simpa using hp
  exact .ite (h.andThen (respond_frame _ _ _ _ _ _) sub) ((respond_frame _ _ _ _ _ _).within sub)

/-- What a request command leaves in its port: the response, an idle frame, a port that listens, the filler driven (R169, R171). -/
theorem respond_port_self (p : Port) (kind seq : Byte) (result : ResultCode) (body : List Byte) :
    (s.respond p kind seq result body).port p =
      { s.port p with
        frame := .idle, link := .listening, response := some ⟨kind, seq, BitVec.ofNat 8 result.code, body⟩
        dataOut := List.replicate (requestLength kind) 0 } := by
  simp [State.respond, PortState.answered, filler]

/-! ## Transactions -/

@[simp] theorem released_link (x : PortState) : x.released.link = .listening := rfl

theorem released_of_idle (x : PortState) (h : x.frame = .idle) : x.released = { x with link := .listening } := by
  simp [PortState.released, PortState.endTransaction, h]

/-- The rise of select leaves no transaction in progress (R169). -/
@[simp] theorem released_frame (x : PortState) : x.released.frame = .idle := by
  unfold PortState.released PortState.endTransaction
  split
  · assumption
  · dsimp only; split <;> rfl

/-- The rise of select reaches no notice of the port. -/
theorem released_notices (x : PortState) :
    x.released.flags = x.flags ∧ x.released.mask = x.mask ∧ x.released.attention = x.attention := by
  unfold PortState.released PortState.endTransaction
  split
  · exact ⟨rfl, rfl, rfl⟩
  · dsimp only; split <;> exact ⟨rfl, rfl, rfl⟩

/-- A fetch transaction reaches no notice of the port (R172). -/
theorem fetched_notices (x : PortState) (n : Nat) :
    (x.fetched n).flags = x.flags ∧ (x.fetched n).mask = x.mask ∧ (x.fetched n).attention = x.attention := by
  unfold PortState.fetched
  split <;> exact released_notices x

theorem releaseSelect_frame (p : Port) : OnlyTouches [.ports] s (s.releaseSelect p) := setPort_frame s p _

/-- A frame that is not taken reaches nothing outside the ports (R171, R172). -/
theorem judgeFrame_frame (p : Port) (frame : List Byte) (h : ∀ k, judgeFrame p frame ≠ .taken k) :
    OnlyTouches [.ports] s (s.judgeFrame p frame) := by
  unfold State.judgeFrame
  split
  · exact .refl _ s
  · exact setPort_frame s p _
  · exact setPort_frame s p _
  · exact setPort_frame s p _
  · next k e => exact absurd e (h k)

/-! ## Notices -/

theorem notify_port_self (p : Port) (k : NoticeKind) : (s.notify p k).port p = (s.port p).raiseFlags (noticeBit p k) :=
  port_setPort_self s p _

theorem notify_port_of_ne (p q : Port) (k : NoticeKind) (h : q ≠ p) : (s.notify p k).port q = s.port q :=
  port_setPort_of_ne s p q _ h

@[simp] theorem judged_attention (x : PortState) : x.judged.attention = attentionOf x.flags x.mask := rfl

@[simp] theorem raiseFlags_flags (x : PortState) (b : Set16) : (x.raiseFlags b).flags = x.flags ||| b := rfl

@[simp] theorem raiseFlags_mask (x : PortState) (b : Set16) : (x.raiseFlags b).mask = x.mask := rfl

@[simp] theorem raiseFlags_response (x : PortState) (b : Set16) : (x.raiseFlags b).response = x.response := rfl

theorem attentionOf_asserted (flags mask : Set16) : attentionOf flags mask = .asserted ↔ flags &&& ~~~mask ≠ 0 := by
  unfold attentionOf
  split <;> simp_all

/-! ## Holds and the permit -/

theorem permitOf_driven (l : LineState) (w : Set16) : permitOf l w = .driven ↔ l ≠ .stopped ∧ w = 0 := by
  unfold permitOf
  split <;> simp_all

theorem code_injective (r q : HoldReason) (h : r.code = q.code) : r = q := by
  cases r <;> cases q <;> first | rfl | exact absurd h (by decide)

theorem code_lt (r : HoldReason) : r.code < 16 := by cases r <;> decide

theorem changeHolds_line (w : Set16) :
    (s.changeHolds w).line = { s.line with holds := w, permit := permitOf s.line.state w } := rfl

theorem placeHold_line_state (r : HoldReason) : (s.placeHold r).line.state = s.line.state := by
  unfold State.placeHold; split <;> rfl

theorem releaseHold_line_state (r : HoldReason) : (s.releaseHold r).line.state = s.line.state := by
  unfold State.releaseHold; split <;> rfl

theorem placeHold_idleTimer (r : HoldReason) : (s.placeHold r).line.idleTimer = s.line.idleTimer := by
  unfold State.placeHold; split <;> rfl

theorem releaseHold_idleTimer (r : HoldReason) : (s.releaseHold r).line.idleTimer = s.line.idleTimer := by
  unfold State.releaseHold; split <;> rfl

theorem bit_getLsbD (r q : HoldReason) : r.bit.getLsbD q.code = decide (r = q) := by
  cases r <;> cases q <;> decide

/-- After a placing the reason stands, and every other is as it was. -/
theorem held_placeHold (r q : HoldReason) : (s.placeHold r).held q = (decide (r = q) || s.held q) := by
  unfold State.placeHold
  split
  · rename_i h
    by_cases e : r = q
    · subst e; simp [h]
    · simp [e]
  · show ((s.line.holds ||| r.bit).getLsbD q.code) = _
    rw [BitVec.getLsbD_or, bit_getLsbD, Bool.or_comm]
    rfl

/-- After a release the reason is absent, and every other is as it was. -/
theorem held_releaseHold (r q : HoldReason) : (s.releaseHold r).held q = (!decide (r = q) && s.held q) := by
  unfold State.releaseHold
  split
  · show ((s.line.holds &&& ~~~r.bit).getLsbD q.code) = _
    rw [BitVec.getLsbD_and, BitVec.getLsbD_not, bit_getLsbD, Bool.and_comm]
    simp [code_lt q, State.held]
  · rename_i h
    by_cases e : r = q
    · subst e; simpa using h
    · simp [e]

theorem held_judgeHold (r q : HoldReason) (c : Bool) :
    (s.judgeHold r c).held q = if r = q then c else s.held q := by
  unfold State.judgeHold
  cases c <;> by_cases e : r = q <;> simp [held_placeHold, held_releaseHold, e]

/-- The permit follows its condition through a placing. -/
theorem placeHold_permit (r : HoldReason) (h : s.line.permit = permitOf s.line.state s.line.holds) :
    (s.placeHold r).line.permit = permitOf (s.placeHold r).line.state (s.placeHold r).line.holds := by
  unfold State.placeHold; split
  · exact h
  · rfl

/-- The permit follows its condition through a release. -/
theorem releaseHold_permit (r : HoldReason) (h : s.line.permit = permitOf s.line.state s.line.holds) :
    (s.releaseHold r).line.permit = permitOf (s.releaseHold r).line.state (s.releaseHold r).line.holds := by
  unfold State.releaseHold; split
  · rfl
  · exact h

/-! ## Time -/

theorem elapse_now (d : Nat) : (s.elapse d).now = s.now + d := by
  have h : ∀ (t : State) (a : TimeCount), (t.passInto d a).now = t.now := fun t a => passInto_frame t d a .now (by decide)
  simp [State.elapse, h]

theorem reach_now (x : Nat) : (s.reach x).now = s.now + (x - s.now) := by
  unfold State.reach; split
  · exact elapse_now s _
  · omega

/-- A time that has been reached already passes none. -/
theorem reach_of_le (x : Nat) (h : x ≤ s.now) : s.reach x = s := if_neg (by omega)

theorem reach_self : s.reach s.now = s := reach_of_le s _ (Nat.le_refl _)

theorem reach_now_of_le (x : Nat) (h : s.now ≤ x) : (s.reach x).now = x := by
  rw [reach_now]; omega

/-! ## Records by tag -/

theorem changeRecord_tags (tag : Nat) (f : LoafRecord → LoafRecord) (h : ∀ r, (f r).tag = r.tag) (rs : List LoafRecord) :
    (changeRecord tag f rs).map LoafRecord.tag = rs.map LoafRecord.tag := by
  unfold changeRecord
  rw [List.map_map]
  refine List.map_congr_left fun r _ => ?_
  simp only [Function.comp]
  split
  · exact h r
  · rfl

theorem changeRecord_length (tag : Nat) (f : LoafRecord → LoafRecord) (rs : List LoafRecord) :
    (changeRecord tag f rs).length = rs.length := by simp [changeRecord]

theorem dropRecord_tags (tag : Nat) (rs : List LoafRecord) :
    (dropRecord tag rs).map LoafRecord.tag = (rs.map LoafRecord.tag).filter fun t => decide (t ≠ tag) := by
  simp only [dropRecord, List.filter_map]
  rfl

theorem mem_dropRecord (tag : Nat) (rs : List LoafRecord) (r : LoafRecord) : r ∈ dropRecord tag rs ↔ r ∈ rs ∧ r.tag ≠ tag := by
  simp [dropRecord]

theorem removeRecord_records (tag : Nat) : (s.removeRecord tag).queue.records = dropRecord tag s.queue.records := by
  unfold State.removeRecord
  simp only
  split
  · rw [releaseHold_frame _ _ .queue (by decide)]; rfl
  · rfl

/-- A leave takes out the records that hold the tag, and no others. -/
theorem leave_records (r : LoafRecord) (o : LeaveOutcome) : (s.leave r o).queue.records = dropRecord r.tag s.queue.records := by
  unfold State.leave
  rw [judgeBlasts_frame _ .queue (by decide), withdrawTie_frame _ _ .queue (by decide), removeRecord_records,
    lowerInFlight_frame _ _ .queue (by decide), countInEntry_frame _ _ _ .queue (by decide),
    countLeave_frame _ _ _ .queue (by decide)]

/-- A leave counts in the open shift. -/
theorem leave_totals (r : LoafRecord) (o : LeaveOutcome) : (s.leave r o).totals = (s.countLeave r o).totals := by
  unfold State.leave
  rw [judgeBlasts_frame _ .totals (by decide), withdrawTie_frame _ _ .totals (by decide), removeRecord_frame _ _ .totals (by decide),
    lowerInFlight_frame _ _ .totals (by decide), countInEntry_frame _ _ _ .totals (by decide)]

/-- A good leave of a planned record takes its length as shortest and longest where it is (R154). -/
theorem ProductEntry.countGood_lengths (e : ProductEntry) (pl : Plan) :
    (e.countGood pl).shortest = some (min (e.shortest.getD pl.lt) pl.lt)
      ∧ (e.countGood pl).longest = some (max (e.longest.getD pl.lt) pl.lt) := by
  unfold ProductEntry.countGood
  constructor
  · cases e.shortest with
    | none => simp
    | some m => by_cases h : pl.lt < m <;> simp [h] <;> omega
  · cases e.longest with
    | none => simp
    | some m => by_cases h : m < pl.lt <;> simp [h] <;> omega

/-- All that the counting of a leave does to an entry (R154). -/
theorem ProductEntry.countLeave_counts (e : ProductEntry) (r : LoafRecord) (o : LeaveOutcome) :
    e.Counts (e.countLeave r o) r o := by
  unfold ProductEntry.countLeave
  cases hp : r.plan <;> cases o <;>
    simp [ProductEntry.Counts, hp, ProductEntry.countOutcome, ProductEntry.countFlags, ProductEntry.countGood_lengths] <;>
    simp [ProductEntry.countGood, raise, raiseBy, countLimit]

/-! ## Tags -/

theorem after255_range (t : Nat) : 1 ≤ after255 t ∧ after255 t ≤ 255 := by
  unfold after255; split <;> omega

/-- The sequence number after one in range is in range (R160). -/
theorem nextSeq_range (n : Nat) : 1 ≤ nextSeq n ∧ nextSeq n ≤ 4294967295 := by
  unfold nextSeq countLimit; split <;> omega

/-- The search for a free tag stays in 1..255. -/
theorem firstFree_range (used : List Nat) (fuel t : Nat) (h : 1 ≤ t ∧ t ≤ 255) :
    1 ≤ firstFree used fuel t ∧ firstFree used fuel t ≤ 255 := by
  induction fuel generalizing t with
  | zero => exact h
  | succ n ih =>
    unfold firstFree; split
    · exact ih _ (after255_range t)
    · exact h

end Sys2Proof.Machine
end

