-- ==== Sys2Proof/Laws/PerInstr.lean ====
section
/-! SUPPORT. A statement about every command as syntax, one lemma per constructor: a request's body is as long as the request-kind
table of 11.7 gives for its kind. -/

namespace Sys2Proof.Laws.Arrival

/-- A command that is a request has the body length of its kind (R170, 11.7). -/
def Statement (i : Instr) : Prop :=
  ∀ h, Machine.requestOf i = some h → (Machine.bodyOf i).length = h.kind.bodyLength

theorem powerOnReset (lines : Quad) (eyes : EyeLevels) : Statement (.powerOnReset lines eyes) := by
  intro h e; cases e

theorem encoderStep (lines : Quad) : Statement (.encoderStep lines) := by
  intro h e; cases e

theorem eyeRawLevelChange (e : Eye) (l : Level) : Statement (.eyeRawLevelChange e l) := by
  intro h e; cases e

theorem eyeFilterExpiry (e : Eye) : Statement (.eyeFilterExpiry e) := by
  intro h e; cases e

theorem speedSamplerExpiry : Statement .speedSamplerExpiry := by
  intro h e; cases e

theorem gatePulseEnd (g : Gate) : Statement (.gatePulseEnd g) := by
  intro h e; cases e

theorem firePulseEnd : Statement .firePulseEnd := by
  intro h e; cases e

theorem tyerDone : Statement .tyerDone := by
  intro h e; cases e

theorem tieTimeoutExpiry : Statement .tieTimeoutExpiry := by
  intro h e; cases e

theorem blastEnd (z : Zone) : Statement (.blastEnd z) := by
  intro h e; cases e

theorem idleTimerExpiry : Statement .idleTimerExpiry := by
  intro h e; cases e

theorem secondsAccumulatorFull (a : TimeCount) : Statement (.secondsAccumulatorFull a) := by
  intro h e; cases e

theorem storeEraseDone : Statement .storeEraseDone := by
  intro h e; cases e

theorem storeProgramDone : Statement .storeProgramDone := by
  intro h e; cases e

theorem storeVerifyDone (ok : Bool) : Statement (.storeVerifyDone ok) := by
  intro h e; cases e

theorem storeStateWordDone : Statement .storeStateWordDone := by
  intro h e; cases e

theorem portReset (p : Port) : Statement (.portReset p) := by
  intro h e; cases e

theorem frameRefused (p : Port) (bytes : List Byte) (released : Bool) : Statement (.frameRefused p bytes released) := by
  intro h e; cases e

theorem fetch (p : Port) (clocked : Nat) : Statement (.fetch p clocked) := by
  intro h e; cases e

theorem statusRead (p : Port) (seq : Byte) : Statement (.statusRead p seq) := by
  intro h e; cases e; rfl

theorem lineStart (p : Port) (seq : Byte) : Statement (.lineStart p seq) := by
  intro h e; cases e; rfl

theorem lineStop (p : Port) (seq : Byte) : Statement (.lineStop p seq) := by
  intro h e; cases e; rfl

theorem lineReset (p : Port) (seq : Byte) : Statement (.lineReset p seq) := by
  intro h e; cases e; rfl

theorem lineConfig (p : Port) (seq : Byte) (pitch offset filterTime idleTime : Nat) :
    Statement (.lineConfig p seq pitch offset filterTime idleTime) := by
  intro h e; cases e; rfl

theorem holdSet (p : Port) (seq : Byte) (reason : Nat) :
    Statement (.holdSet p seq reason) := by
  intro h e; cases e; rfl

theorem holdRelease (p : Port) (seq : Byte) (reason : Nat) :
    Statement (.holdRelease p seq reason) := by
  intro h e; cases e; rfl

theorem chainWrite (p : Port) (seq : Byte) (index kind distance nextIndex : Nat) (area : Vector Byte 7) :
    Statement (.chainWrite p seq index kind distance nextIndex area) := by
  intro h e; cases e; simp [Machine.bodyOf, Machine.RequestKind.bodyLength, Machine.u8, Machine.u32]

theorem chainHead (p : Port) (seq : Byte) (index : Nat) :
    Statement (.chainHead p seq index) := by
  intro h e; cases e; rfl

theorem chainRead (p : Port) (seq : Byte) (index : Nat) :
    Statement (.chainRead p seq index) := by
  intro h e; cases e; rfl

theorem recipeLoad (p : Port) (seq : Byte) (slot code thickness heel minLen maxLen shortMax regularMax crumb shelf : Nat) :
    Statement (.recipeLoad p seq slot code thickness heel minLen maxLen shortMax regularMax crumb shelf) := by
  intro h e; cases e; rfl

theorem recipeRetire (p : Port) (seq : Byte) (slot : Nat) :
    Statement (.recipeRetire p seq slot) := by
  intro h e; cases e; rfl

theorem recipeRead (p : Port) (seq : Byte) (slot : Nat) :
    Statement (.recipeRead p seq slot) := by
  intro h e; cases e; rfl

theorem select (p : Port) (seq : Byte) (slot : Nat) :
    Statement (.select p seq slot) := by
  intro h e; cases e; rfl

theorem bladeReport (p : Port) (seq : Byte) (pitch : Nat) :
    Statement (.bladeReport p seq pitch) := by
  intro h e; cases e; rfl

theorem markDivert (p : Port) (seq : Byte) (tag : Nat) :
    Statement (.markDivert p seq tag) := by
  intro h e; cases e; rfl

theorem trackRead (p : Port) (seq : Byte) (selector value : Nat) :
    Statement (.trackRead p seq selector value) := by
  intro h e; cases e; rfl

theorem scheduleAppend (p : Port) (seq : Byte) (slot target gap stopAfter : Nat) :
    Statement (.scheduleAppend p seq slot target gap stopAfter) := by
  intro h e; cases e; rfl

theorem scheduleStart (p : Port) (seq : Byte) : Statement (.scheduleStart p seq) := by
  intro h e; cases e; rfl

theorem scheduleResume (p : Port) (seq : Byte) : Statement (.scheduleResume p seq) := by
  intro h e; cases e; rfl

theorem scheduleCancel (p : Port) (seq : Byte) (id : Nat) :
    Statement (.scheduleCancel p seq id) := by
  intro h e; cases e; rfl

theorem scheduleReap (p : Port) (seq : Byte) : Statement (.scheduleReap p seq) := by
  intro h e; cases e; rfl

theorem scheduleRead (p : Port) (seq : Byte) (selector value : Nat) :
    Statement (.scheduleRead p seq selector value) := by
  intro h e; cases e; rfl

theorem bagNext (p : Port) (seq : Byte) : Statement (.bagNext p seq) := by
  intro h e; cases e; rfl

theorem bagResult (p : Port) (seq : Byte) (tag result : Nat) :
    Statement (.bagResult p seq tag result) := by
  intro h e; cases e; rfl

theorem dateSet (p : Port) (seq : Byte) (day yearDigit weekday leap : Nat) :
    Statement (.dateSet p seq day yearDigit weekday leap) := by
  intro h e; cases e; rfl

theorem colourTable (p : Port) (seq : Byte) (c0 c1 c2 c3 c4 c5 c6 : Nat) :
    Statement (.colourTable p seq c0 c1 c2 c3 c4 c5 c6) := by
  intro h e; cases e; rfl

theorem clipReload (p : Port) (seq : Byte) (count : Nat) :
    Statement (.clipReload p seq count) := by
  intro h e; cases e; rfl

theorem clipConfig (p : Port) (seq : Byte) (threshold timeout : Nat) :
    Statement (.clipConfig p seq threshold timeout) := by
  intro h e; cases e; rfl

theorem tyerReset (p : Port) (seq : Byte) : Statement (.tyerReset p seq) := by
  intro h e; cases e; rfl

theorem crumbConfig (p : Port) (seq : Byte) (zone soft hard : Nat) :
    Statement (.crumbConfig p seq zone soft hard) := by
  intro h e; cases e; rfl

theorem crumbClear (p : Port) (seq : Byte) (zone : Nat) :
    Statement (.crumbClear p seq zone) := by
  intro h e; cases e; rfl

theorem crumbRead (p : Port) (seq : Byte) : Statement (.crumbRead p seq) := by
  intro h e; cases e; rfl

theorem shiftClose (p : Port) (seq : Byte) : Statement (.shiftClose p seq) := by
  intro h e; cases e; rfl

theorem storeFormat (p : Port) (seq : Byte) : Statement (.storeFormat p seq) := by
  intro h e; cases e; rfl

theorem totalsRead (p : Port) (seq : Byte) (selector page : Nat) :
    Statement (.totalsRead p seq selector page) := by
  intro h e; cases e; rfl

theorem storeRead (p : Port) (seq : Byte) (shift page : Nat) :
    Statement (.storeRead p seq shift page) := by
  intro h e; cases e; rfl

theorem noticeRead (p : Port) (seq : Byte) : Statement (.noticeRead p seq) := by
  intro h e; cases e; rfl

theorem noticeAck (p : Port) (seq : Byte) (kinds : Set16) :
    Statement (.noticeAck p seq kinds) := by
  intro h e; cases e; rfl

theorem noticeMask (p : Port) (seq : Byte) (kinds : Set16) :
    Statement (.noticeMask p seq kinds) := by
  intro h e; cases e; rfl

end Sys2Proof.Laws.Arrival
end

