-- ==== Sys2Proof/Laws/Requests.lean ====
section
/-! SUPPORT. A request command, and the same request as the bytes of a frame: the values of a body read back, the answer of a command
through the block's reply to those bytes, and the judgement of a request's frame. -/

namespace Sys2Proof.Machine

/-! ## The values of a body read back -/

theorem read16_bytes (n : Nat) (h : n < 65536) : n / 256 % 256 * 256 + n % 256 = n := by omega

theorem read32_bytes (n : Nat) (h : n < 4294967296) :
    (n / 16777216 % 256 * 256 + n / 65536 % 256) * 65536 + (n / 256 % 256 * 256 + n % 256) = n := by omega

/-- The area of a CHAIN_WRITE stands after the seven bytes of its other values (11.7). -/
theorem areaAt_append (a : Vector Byte 7) (b : List Byte) (h : b.length = 7) : areaAt (b ++ a.toList) 7 = a := by
  apply Vector.ext
  intro i hi
  simp [areaAt, h, List.getD, List.getElem?_append_right]

/-! ## A command is the answer to its bytes -/

/-- A well-formed request is answered with what its block replies to the bytes of its body (R170, R171). -/
theorem exec_request (s : State) (c : Instr) (h : RequestHeader) (e : requestOf c = some h) (w : c.wellFormed = true) :
    exec c s = .next (s.answer h.kind h.port h.seq (replyTo h.kind h.port (bodyOf c) s)) := by
  cases c <;> simp only [requestOf, Option.some.injEq, reduceCtorEq] at e <;> subst e <;> try rfl
  all_goals
    simp only [Instr.wellFormed, fits8, fits16, fits32, Bool.and_eq_true, decide_eq_true_eq, Nat.reducePow] at w
  case chainWrite p seq index kind distance next area =>
    obtain ⟨⟨⟨w1, w2⟩, w3⟩, w4⟩ := w
    have h7 : (u8 index ++ u8 kind ++ u32 distance ++ u8 next).length = 7 := by simp [u8, u32]
    simp only [exec, replyTo, bodyOf, execChainWrite]
    rw [areaAt_append _ _ h7]
    simp only [at8, at16, at32, u8, u32, read16, List.cons_append, List.nil_append, List.getD_cons_zero, List.getD_cons_succ,
      BitVec.toNat_ofNat, Nat.reducePow, Nat.mod_eq_of_lt w1, Nat.mod_eq_of_lt w2, Nat.mod_eq_of_lt w4, read32_bytes _ w3]
  all_goals
    simp only [exec, replyTo, bodyOf, at8, at16, set16At, set16, u8, u16, read16, List.cons_append, List.nil_append,
      List.getD_cons_zero, List.getD_cons_succ, BitVec.toNat_ofNat, Nat.reducePow]
  all_goals
    simp only [Nat.mod_eq_of_lt, w, read16_bytes, execLineConfig, execHoldSet, execHoldRelease, execChainHead, execChainRead,
      execRecipeLoad, execRecipeRetire, execRecipeRead, execSelect, execBladeReport, execMarkDivert, execTrackRead,
      execScheduleAppend, execScheduleCancel, execScheduleRead, execBagResult, execDateSet, execColourTable, execClipReload,
      execClipConfig, execCrumbConfig, execCrumbClear, execTotalsRead, execStoreRead, execNoticeAck, execNoticeMask]
  all_goals (try rw [read16_bytes _ (BitVec.isLt _)]; try simp)

/-! ## The frame of a request -/

theorem requestKind?_code (k : RequestKind) : requestKind? (BitVec.ofNat 8 k.code).toNat = some k := by cases k <;> rfl

theorem code_ne_zero (k : RequestKind) : BitVec.ofNat 8 k.code ≠ 0 := by cases k <;> decide

theorem bodyLength_le (k : RequestKind) : k.bodyLength ≤ 16 := by cases k <;> decide

/-- A request's body has the length of its kind (11.7). -/
theorem bodyOf_length (c : Instr) (h : RequestHeader) (e : requestOf c = some h) : (bodyOf c).length = h.kind.bodyLength := by
  cases c <;> simp only [requestOf, Option.some.injEq, reduceCtorEq] at e <;> subst e <;>
    simp [bodyOf, u8, u16, u32, set16, RequestKind.bodyLength]

/-- A request's frame is complete: its port takes it, or refuses the kind (R171). -/
theorem judgeFrame_requestFrame (c : Instr) (h : RequestHeader) (e : requestOf c = some h) :
    judgeFrame h.port (requestFrame h (bodyOf c)) =
      if h.kind.permitted h.port then .taken h.kind else .refused .notPermitted := by
  have small := bodyLength_le h.kind
  have fits : h.kind.bodyLength % 256 = h.kind.bodyLength := by omega
  have limit : ¬ frameLengthLimit < h.kind.bodyLength := by unfold frameLengthLimit; omega
  have kind := requestKind?_code h.kind
  simp only [BitVec.toNat_ofNat, Nat.reducePow] at kind
  simp only [judgeFrame, requestFrame, List.cons_append, List.nil_append, code_ne_zero, bodyOf_length c h e, if_false,
    BitVec.toNat_ofNat, Nat.reducePow, fits, limit, Nat.lt_irrefl, judgeComplete, kind]
  cases h.kind.permitted h.port <;> simp

end Sys2Proof.Machine
end

