-- ==== Sys2Proof/Tests/Slice0.lean ====
section
/-! SUPPORT. The model's own tests: ill-formed commands that WellFormed refuses, cases worked in the spec, and for every obligation a
state and operands that meet its hypotheses, clause by clause. -/

namespace Sys2Proof.Tests

open Sys2Proof Sys2Proof.Machine

/-! ## Small states -/

/-- The state a command leads to. -/
def run (c : Instr) (s : State) : State :=
  match exec c s with
  | .next t => t
  | .fault _ => State.reset
  | .refused _ => State.reset

/-- Commands run one after another. -/
def runAll (cs : List Instr) (s : State) : State := cs.foldl (fun t c => run c t) s

/-- A byte of a number. -/
def byte (n : Nat) : Byte := BitVec.ofNat 8 n

/-- A place's seven-byte area from its first bytes. -/
def area (bs : List Nat) : Vector Byte 7 :=
  #v[byte (bs.getD 0 0), byte (bs.getD 1 0), byte (bs.getD 2 0), byte (bs.getD 3 0), byte (bs.getD 4 0), byte (bs.getD 5 0),
    byte (bs.getD 6 0)]

/-- The chain of 02, 2.5, with the next link of place 2 and of place 8 as given. -/
def chainOf (next2 next8 : Nat) : StationChain :=
  { places := #v[some ⟨.eyeSliced 400, 12000, 2⟩, some ⟨.gateReject 35 180, 14400, next2⟩,
      some ⟨.crumbBar .z0 900 120 192, 10500, 1⟩, some ⟨.eyeBag 500, 22000, 5⟩, some ⟨.crumbBar .z1 1200 150 160, 24500, 6⟩,
      some ⟨.eyeClip 500 1600 240 48, 30400, 7⟩, some ⟨.eyeExit 600, 38000, 8⟩, some ⟨.gateExit 30 200, 39200, next8⟩]
    head := 3, state := .unvalidated, lastFailure := none }

/-- The chain of 02, 2.5, VALID. -/
def validChain : StationChain := { chainOf 4 0 with state := .valid }

/-- The state after reset with the chain of 02, 2.5 in force. -/
def chained : State := State.reset.setChain validChain

/-- A product in range. -/
def bread : Product :=
  { code := 4110, thickness := 125, heel := 150, minLen := 3800, maxLen := 4400, shortMax := 3900, regularMax := 4300, crumb := 18
    shelf := 4 }

/-- A slot with that product. -/
def slotIn (x : SlotState) (n : Nat) : Slot := { state := x, product := some bread, inFlight := n }

/-- A record of slot 2 in a stage, with its plan. -/
def loaf (tag : Nat) (stage : Stage) : LoafRecord :=
  { newRecord tag 2 none ⟨121, 6, 2, false⟩ 1000000 with
    stage := stage, plan := some ⟨3307, 4122, 33, 2, 594⟩, lastMatch := some 1012050 }

/-- A state with these records. -/
def withLoaves (s : State) (rs : List LoafRecord) : State := s.setQueue { s.queue with records := rs }

/-- That many records, tags rising. -/
def loaves (n : Nat) : List LoafRecord := (List.range n).map fun k => loaf (k + 1) .toBag

/-- A state in a line state, with a timer. -/
def inLine (s : State) (l : LineState) (timer : Option Nat) : State := s.setLine { s.line with state := l, idleTimer := timer }

/-- A state whose slot 2 is in a state, and no other in use. -/
def withSlot (s : State) (x : SlotState) : State := s.setSlot 2 (slotIn x 0)

/-- A schedule entry of slot 2. -/
def entry (id : Nat) (x : EntryState) : Entry := { newEntry id 2 10 0 false with state := x }

/-- A state with these entries and a schedule state. -/
def withEntries (s : State) (x : ScheduleState) (es : List Entry) : State :=
  s.setSchedule { s.schedule with entries := es, state := x }

/-- A state with the tyer and the magazine so. -/
def withTyer (x : TyerState) (clips : Nat) (f : Option TieInFlight) : State :=
  State.reset.setBag { State.reset.bag with tyer := x, magazine := clips, tieInFlight := f }

/-- A bank with a valid state word. -/
def bankOf (seq : Nat) : Bank := { records := [ShiftRecord.opened 7 0], seq := seq, stateWord := true }

/-- A state with these banks. -/
def withBanks (a b : Bank) : State := State.reset.setStore { State.reset.store with bankA := a, bankB := b }

/-- A state with a write in progress at a step and attempt. -/
def writingAt (x : WriteStep) (attempt : Nat) : State :=
  State.reset.setStore { State.reset.store with
    state := .writing
    write := some { target := .a, step := x, attempt := attempt, chosen := [ShiftRecord.opened 1 0], newSeq := 1 } }

/-- A state with the excursion so. -/
def withX (x : Nat) : State := State.reset.setPos { State.reset.pos with x := x }

/-- A state whose zone 0 is fitted over the chain of 02, 2.5, with a load and a blast end time. -/
def withLoad (load : Nat) (blast : Option Nat) : State :=
  chained.setZone .z0 { ZoneState.initial with fitted := true, load := load, blastEnd := blast }

/-- A state whose office port holds a response. -/
def answered : State := run (.statusRead .office 9) State.reset

/-! ## WellFormed refuses -/

theorem test_wellFormed_refuses_link :
    [Instr.frameRefused .slicer [] false, .fetch .slicer 0, .lineConfig .office 0 65536 0 0 0, .lineConfig .office 0 0 256 0 0,
      .lineConfig .office 0 0 0 256 0, .lineConfig .office 0 0 0 0 65536, .holdSet .office 0 256, .holdRelease .office 0 256,
      .chainWrite .office 0 256 0 0 0 (area []), .chainWrite .office 0 0 256 0 0 (area []),
      .chainWrite .office 0 0 0 4294967296 0 (area []), .chainWrite .office 0 0 0 0 256 (area []), .chainHead .office 0 256,
      .chainRead .office 0 256].all (fun c => !c.wellFormed) = true := by decide

theorem test_wellFormed_refuses_recipes :
    [Instr.recipeLoad .office 0 256 0 0 0 0 0 0 0 0 0, .recipeLoad .office 0 0 65536 0 0 0 0 0 0 0 0,
      .recipeLoad .office 0 0 0 256 0 0 0 0 0 0 0, .recipeLoad .office 0 0 0 0 65536 0 0 0 0 0 0,
      .recipeLoad .office 0 0 0 0 0 65536 0 0 0 0 0, .recipeLoad .office 0 0 0 0 0 0 65536 0 0 0 0,
      .recipeLoad .office 0 0 0 0 0 0 0 65536 0 0 0, .recipeLoad .office 0 0 0 0 0 0 0 0 65536 0 0,
      .recipeLoad .office 0 0 0 0 0 0 0 0 0 256 0, .recipeLoad .office 0 0 0 0 0 0 0 0 0 0 256, .recipeRetire .office 0 256,
      .recipeRead .office 0 256, .select .office 0 256, .bladeReport .slicer 0 65536].all (fun c => !c.wellFormed) = true := by decide

theorem test_wellFormed_refuses_loaves :
    [Instr.markDivert .office 0 256, .trackRead .office 0 256 0, .trackRead .office 0 0 256, .scheduleAppend .office 0 256 0 0 0,
      .scheduleAppend .office 0 0 65536 0 0, .scheduleAppend .office 0 0 0 65536 0, .scheduleAppend .office 0 0 0 0 256,
      .scheduleCancel .office 0 256, .scheduleRead .office 0 256 0, .scheduleRead .office 0 0 256, .bagResult .bagger 0 256 0,
      .bagResult .bagger 0 0 256, .dateSet .office 0 65536 0 0 0, .dateSet .office 0 0 256 0 0, .dateSet .office 0 0 0 256 0,
      .dateSet .office 0 0 0 0 256].all (fun c => !c.wellFormed) = true := by decide

theorem test_wellFormed_refuses_rest :
    [Instr.colourTable .office 0 256 0 0 0 0 0 0, .colourTable .office 0 0 256 0 0 0 0 0, .colourTable .office 0 0 0 256 0 0 0 0,
      .colourTable .office 0 0 0 0 256 0 0 0, .colourTable .office 0 0 0 0 0 256 0 0, .colourTable .office 0 0 0 0 0 0 256 0,
      .colourTable .office 0 0 0 0 0 0 0 256, .clipReload .bagger 0 65536, .clipConfig .office 0 65536 0,
      .clipConfig .office 0 0 65536, .crumbConfig .office 0 256 0 0, .crumbConfig .office 0 0 65536 0,
      .crumbConfig .office 0 0 0 65536, .crumbClear .office 0 256, .totalsRead .office 0 256 0, .totalsRead .office 0 0 256,
      .storeRead .office 0 65536 0, .storeRead .office 0 0 256].all (fun c => !c.wellFormed) = true := by decide

/-! ## Cases the spec works -/

/-- The rounding table of 04, 4.1. -/
theorem test_rounding_table :
    [roundNat 1 2, roundNat 3 2, roundNat 5 2, roundNat 7 2, roundNat 413375 100, roundNat 3822 125, roundNat 75840 256]
        = [0, 2, 2, 4, 4134, 31, 296]
      ∧ [roundInt (-10) 4, roundInt (-14) 4, roundInt (-2602) 4] = [-2, -4, -650] := by decide

/-- The speed filter's worked windows (01, 1.3). -/
theorem test_speed_filter :
    [filteredSpeed 2560 2688, filteredSpeed 2592 2688, filteredSpeed 2616 2560, filteredSpeed 2602 0, filteredSpeed 1952 0,
      filteredSpeed 1464 576, filteredSpeed 2550 2560, filteredSpeed 2570 2560] = [2592, 2616, 2602, 1952, 1464, 1242, 2552, 2568] := by
  decide

/-- The worked plan of 04, 4.7. -/
theorem test_plan :
    makePlan 1000000 1003307 { pitch := 125, offset := 12, filterTime := 2, idleTime := 120 } bread false
      = (⟨3307, 4122, 33, 2, 594⟩, Reasons.empty) ∧ bagZoneCharge 594 = 148 := by decide

/-- The worked fire positions of 04, 4.7. -/
theorem test_fire_positions :
    (chained.setPos { chained.pos with v := 2560 }).rejectPosition 1012050 = some 1014100
      ∧ (chained.setPos { chained.pos with v := 2496 }).tiePosition 1030410 3307 = some 1035089
      ∧ (chained.setPos { chained.pos with v := 2528 }).exitPosition 1038020 = some 1038924 := by decide

/-- Leads and blast counts of 04, 4.8. -/
theorem test_leads : [lead 2600 16, lead 2616 16, lead 262080 250, blastCounts 2560 120, blastCounts 2561 128]
    = [162, 164, 255938, 1200, 1280] := by decide

/-- The jam of 04, 4.8: clamps at every step, and OVERSIZE. -/
theorem test_jam :
    makePlan 500000 570200 { pitch := 125, offset := 12, filterTime := 2, idleTime := 120 } { bread with maxLen := 9999 } false
      = (⟨65535, 9999, 63, 3, 1134⟩, ⟨false, true, false, false⟩) := by decide

/-- The three validations of 02, 2.5. -/
theorem test_validation :
    (chainOf 5 0).validate = .fails 6 .kindOrder ∧ (chainOf 4 3).validate = .fails 3 .distanceOrder
      ∧ ((run (.lineStart .slicer 1) (State.reset.setChain (chainOf 4 0))).chain = validChain) := by decide

/-- The bytes of a CHAIN_WRITE's area (11.7): descriptor 6 of 02, 2.5. -/
theorem test_chain_write :
    (run (.chainWrite .office 1 6 5 30400 7 (area [1, 244, 6, 64, 0, 240, 48])) State.reset).chain.places.get 5
      = some ⟨.eyeClip 500 1600 240 48, 30400, 7⟩ := by decide

/-- The print codes of 07, 7.3, as words of 11.7: day, year digit, colour. -/
theorem test_print_codes :
    let b : BagClipUnit := { State.reset.bag with date := ⟨1, 6, 0, false⟩, colours := #v[1, 2, 3, 4, 5, 6, 7] }
    let leap : BagClipUnit := { b with date := ⟨1, 9, 0, true⟩ }
    printCode b { loaf 1 .toBag with day := 121, weekday := 2 } 4 = 125 * 128 + 6 * 8 + 3
      ∧ printCode b { loaf 1 .toBag with day := 364, weekday := 5 } 5 = 4 * 128 + 7 * 8 + 6
      ∧ printCode leap { loaf 1 .toBag with day := 366, weekday := 3 } 1 = 1 * 128 + 0 * 8 + 4
      ∧ printCode leap { loaf 1 .toBag with day := 360, weekday := 0 } 6 = 366 * 128 + 9 * 8 + 1 := by decide

/-- The blast that waits for a gap (08, 8.4): occupied at 514,700, clear at 514,701, and the load after it. -/
theorem test_occupancy :
    let b : Bar := { distance := 10500, halfSpan := 900, blastTime := 120, yield := 192 }
    let r : LoafRecord := { loaf 200 .toBag with reference := 500000, plan := some ⟨3300, 4122, 33, 2, 594⟩ }
    occupies 514700 2560 b r = true ∧ occupies 514701 2560 b r = false ∧ reducedLoad 20294 192 = 5074 := by decide

/-- An eye with a filter time of 2 ms accepts an edge after it, captured at the start (01, 1.4). -/
theorem test_filter :
    ((run (.eyeRawLevelChange .e1 .dark) State.reset).pos.filters.get .e1).change = some ⟨0, true, 2, 2⟩
      ∧ (runAll [.eyeRawLevelChange .e1 .dark, .eyeFilterExpiry .e1] State.reset).pos.filters.get .e1 = ⟨.dark, none⟩ := by decide

/-- A fetch drives the filler and the frame; a short one keeps the response, a whole one empties the slot (R172). -/
theorem test_fetch :
    ((run (.fetch .office 6) answered).port .office).dataOut = [0, 1, 9, 0, 27, 0]
      ∧ ((run (.fetch .office 31) answered).port .office).response ≠ none
      ∧ ((run (.fetch .office 32) answered).port .office).response = none := by decide

/-- Frames R171 refuses, and the partial frame it keeps. -/
theorem test_refused_frames :
    ((run (.frameRefused .slicer [41, 7, 0] false) State.reset).port .slicer).response = some ⟨41, 7, 3, []⟩
      ∧ ((run (.frameRefused .slicer [24, 7, 0] false) State.reset).port .slicer).response = some ⟨24, 7, 4, []⟩
      ∧ ((run (.frameRefused .slicer [14, 7, 2, 0, 0] false) State.reset).port .slicer).response = some ⟨14, 7, 2, []⟩
      ∧ ((run (.frameRefused .slicer [14] true) State.reset).port .slicer).response = some ⟨14, 0, 2, []⟩
      ∧ ((run (.frameRefused .slicer [14, 7] false) State.reset).port .slicer).frame = .receiving [14, 7] := by decide

/-- A frame that arrives in two pieces is taken at its last byte, and what follows before select rises is ignored (R171). -/
theorem test_taken_frame :
    let judged := runAll [.frameRefused .office [13, 7] false, .frameRefused .office [1, 2] false] State.reset;
    (judged.port .office).response = ((run (.recipeRead .office 7 2) State.reset).port .office).response
      ∧ (judged.port .office).dataOut = [0, 0, 0, 0] ∧ (judged.port .office).link = .judged
      ∧ ((run (.frameRefused .office [13, 7, 1] false) judged).port .office).frame = .idle
      ∧ ((run (.frameRefused .office [13, 7, 1] false) judged).port .office).response = (judged.port .office).response
      ∧ run (.frameRefused .office [] true) judged = run (.recipeRead .office 7 2) State.reset := by decide

/-- After a port reset the bytes of the transaction in progress are ignored; the next transaction is heard (R178). -/
theorem test_reset_port_is_deaf :
    let deaf := runAll [.frameRefused .office [13, 7] false, .portReset .office, .frameRefused .office [13, 7, 1, 2] true] State.reset;
    (deaf.port .office).response = none ∧ (deaf.port .office).frame = .idle
      ∧ ((run (.frameRefused .office [41, 7, 0] true) deaf).port .office).response = some ⟨41, 7, 3, []⟩ := by decide

/-- A morning start (09, 9.7): a date, clips, a product, a blade, a chain; then the permit is driven. -/
theorem test_morning_start :
    (runAll [.dateSet .office 0 121 6 2 0, .clipReload .bagger 0 5000, .select .slicer 0 2, .bladeReport .slicer 0 125,
        .lineStart .slicer 0] ((withSlot State.reset .loaded).setChain (chainOf 4 0))).line
      = { state := .running, idleTimer := some 120000, holds := 0, permit := .driven } := by decide

/-! ## The hypotheses of the obligations are met -/

theorem test_meets_StepRunsFrontCommand :
    (State.reset.setPending [.tyerDone]).pending = .tyerDone :: [] := by decide

theorem test_meets_EmptyQueuePassesAMillisecond : State.reset.pending = [] := by decide

theorem test_meets_PowerOnResetsAndMounts :
    Bank.initial.validSeq = none ∧ (bankOf 3).validSeq = some 3 ∧ (bankOf 4294967295).validSeq = some 4294967295
      ∧ (withBanks (bankOf 3) (bankOf 4)).store.mounted.current = some .b
      ∧ (withBanks (bankOf 4294967295) (bankOf 1)).store.mounted.current = some .b
      ∧ (withBanks (bankOf 1) (bankOf 4294967295)).store.mounted.current = some .a
      ∧ (withBanks (bankOf 9) (bankOf 9)).store.mounted.current = some .a
      ∧ (withBanks (bankOf 9) (bankOf 4)).store.mounted.current = some .a
      ∧ (withBanks (bankOf 4) (bankOf 9)).store.mounted.current = some .b
      ∧ (withBanks .initial (bankOf 9)).store.mounted.current = some .b
      ∧ (withBanks (bankOf 9) .initial).store.mounted.current = some .a
      ∧ (withBanks .initial .initial).store.mounted.current = none := by decide

theorem test_meets_EncoderStepFollowsR3 :
    (Quad.q10 = nextQuad State.reset.pos.lines ∧ State.reset.pos.x = 0) ∧ 0 < (withX 1).pos.x
      ∧ (nextQuad .q01 = State.reset.pos.lines ∧ (withX 2147483646).pos.x < 2147483647) ∧ (withX 2147483647).pos.x = 2147483647
      ∧ ((State.reset.pos.h - State.reset.pos.p).toInt = (State.reset.pos.x : Int) ∧ State.reset.pos.x ≤ 2147483647)
      ∧ (Quad.q11 ≠ nextQuad State.reset.pos.lines ∧ nextQuad .q11 ≠ State.reset.pos.lines)
      ∧ (Quad.q00 ≠ nextQuad State.reset.pos.lines ∧ nextQuad .q00 ≠ State.reset.pos.lines) := by decide

theorem test_meets_SpeedSamplerFiltersSpeed :
    State.reset.pos.v ≤ State.reset.windowSpeed ∧ State.reset.windowSpeed ≤ State.reset.pos.v
      ∧ (State.reset.setPos { State.reset.pos with h := 4095 }).windowSpeed = 262080
      ∧ (State.reset.setPos { State.reset.pos with h := 4096 }).windowSpeed = 262080
      ∧ (State.reset.setPos { State.reset.pos with h := -1 }).windowSpeed = 0 := by decide

/-- A fitted resting zone, clear: wanted by its load, by a manual clear, by a purge owed, or not; and wanted under a loaf. -/
theorem test_meets_BlastsJudged :
    let with_ := fun (load : Nat) (clear purge : Bool) =>
      chained.setZone .z0 { ZoneState.initial with fitted := true, load := load, manualClear := clear, purgeOwed := purge }
    let blast := fun s => ((run .speedSamplerExpiry s).zone .z0).blastEnd;
    (((with_ 20000 false false).bar .z0).isSome = true ∧ ((with_ 20000 false false).zone .z0).fitted = true
        ∧ ((with_ 20000 false false).zone .z0).blastEnd = none)
      ∧ blast (with_ 20000 false false) = some 124 ∧ blast (with_ 19999 false false) = none
      ∧ blast (with_ 19999 true false) = some 124 ∧ blast (with_ 19999 false true) = some 124
      ∧ blast (withLoaves (with_ 20000 true true) [{ loaf 1 .toSlicer with reference := -10500 }]) = none
      ∧ ((run (.encoderStep .q10) (inLine (with_ 9 false true) .idle none)).zone .z0).blastEnd = none
      ∧ ((run (.encoderStep .q10) (inLine (with_ 9 false true) .running (some 5))).zone .z0).blastEnd = some 120 := by decide

theorem test_meets_EyeFiltersFollowTheRules :
    ((State.reset.pos.filters.get .e0).change = none ∧ Level.dark ≠ (State.reset.pos.filters.get .e0).accepted
        ∧ State.reset.pos.config.filterTime ≠ 0)
      ∧ (((run (.eyeRawLevelChange .e0 .dark) State.reset).pos.filters.get .e0).change ≠ none
        ∧ Level.clear = ((run (.eyeRawLevelChange .e0 .dark) State.reset).pos.filters.get .e0).accepted)
      ∧ (run (.lineConfig .office 0 100 0 0 120) State.reset).pos.config.filterTime = 0
      ∧ ((run (.eyeRawLevelChange .e0 .dark) (withX 1)).pos.filters.get .e0).change = some ⟨0, false, 2, 2⟩ := by decide

/-- A filter time of 0: an edge at once, where the expiry of the change captured there would take it. -/
theorem test_meets_EyeFiltersFollowTheRules_atOnce :
    let s := (withLoaves (withSlot chained .active) []).setPos { chained.pos with config := ⟨100, 0, 0, 120⟩ };
    ((s.pos.filters.get .e0).change = none ∧ Level.dark ≠ (s.pos.filters.get .e0).accepted ∧ s.pos.config.filterTime = 0)
      ∧ (run (.eyeRawLevelChange .e0 .dark) s).queue.records.map LoafRecord.reference = [0]
      ∧ run (.eyeRawLevelChange .e0 .dark) s = run (.eyeFilterExpiry .e0) (s.setFilter .e0 ⟨.clear, some ⟨0, true, 0, 0⟩⟩) := by
  decide

theorem test_meets_LineConfigFollowsR14 :
    (State.reset.line.state = .stopped ∧ State.reset.queue.records = [])
      ∧ ¬((inLine State.reset .running (some 5)).line.state = .stopped
          ∧ (inLine State.reset .running (some 5)).queue.records = [])
      ∧ ¬((withLoaves State.reset [loaf 1 .toBag]).line.state = .stopped
          ∧ (withLoaves State.reset [loaf 1 .toBag]).queue.records = [])
      ∧ ((run (.lineConfig .office 0 20 50 20 10) State.reset).pos.config = ⟨20, 50, 20, 10⟩)
      ∧ ((run (.lineConfig .office 0 2000 0 0 3600) State.reset).pos.config = ⟨2000, 0, 0, 3600⟩)
      ∧ ((run (.lineConfig .office 0 19 0 0 3600) State.reset).pos.config = State.reset.pos.config)
      ∧ ((run (.lineConfig .office 0 2000 0 0 3601) State.reset).pos.config = State.reset.pos.config)
      ∧ Port.slicer ≠ .office := by decide

theorem test_meets_ChainWriteFollowsR19 :
    (State.reset.line.state = .stopped ∧ State.reset.queue.records = []
        ∧ carriedPlace 1 1 0 (area [0, 10]) = some (some ⟨.eyeSliced 10, 1, 0⟩))
      ∧ carriedPlace 0 0 0 (area []) = some none ∧ ((withLoad 5 (some 3)).zone .z0).fitted = true
      ∧ ¬((inLine State.reset .running (some 5)).line.state = .stopped
          ∧ (inLine State.reset .running (some 5)).queue.records = [])
      ∧ ¬((withLoaves State.reset [loaf 1 .toBag]).line.state = .stopped
          ∧ (withLoaves State.reset [loaf 1 .toBag]).queue.records = [])
      ∧ carriedPlace 8 1 1 (area []) = none ∧ 8 < 9 ∧ Port.slicer ≠ .office := by decide

/-- A chain edit over a fitted and an unfitted zone; and a state, of no run, whose permit stays driven. -/
theorem test_meets_UnfittedByEdit :
    ((withLoad 5 (some 3)).line.state = .stopped ∧ (withLoad 5 (some 3)).queue.records = []
        ∧ ((withLoad 5 (some 3)).zone .z0).fitted = true ∧ ((withLoad 5 (some 3)).zone .z1).fitted = false)
      ∧ (run (.chainHead .office 0 3) (withLoad 5 (some 3))).zone .z0 = { ZoneState.initial with fitted := false }
      ∧ (HoldReason.noDate ≠ fullReason .z0 ∧ HoldReason.noDate ≠ fullReason .z1)
      ∧ (let driven := State.reset.setLine { State.reset.line with permit := .driven };
          driven.line.state = .stopped ∧ (run (.chainHead .office 0 3) driven).line.permit = .driven) := by decide

theorem test_meets_CarriedDescriptors :
    carriedPlace 8 1 1 (area []) = none ∧ carriedPlace 1 0 0 (area [0, 10]) = none ∧ carriedPlace 1 1000001 0 (area [0, 10]) = none
      ∧ carriedPlace 1 1 9 (area [0, 10]) = none
      ∧ carriedPlace 6 1000000 8 (area [31, 64]) = some (some ⟨.eyeExit 8000, 1000000, 8⟩)
      ∧ carriedPlace 2 1 0 (area [250, 3, 232]) = some (some ⟨.gateReject 250 1000, 1, 0⟩)
      ∧ carriedPlace 3 1 0 (area [1, 78, 32, 7, 208, 1, 0]) = some (some ⟨.crumbBar .z1 20000 2000 256, 1, 0⟩)
      ∧ carriedPlace 3 1 0 (area [0, 0, 0, 0, 10, 0, 1]) = some (some ⟨.crumbBar .z0 0 10 1, 1, 0⟩)
      ∧ carriedPlace 5 1 0 (area [0, 10, 78, 32, 15, 160, 250]) = some (some ⟨.eyeClip 10 20000 4000 250, 1, 0⟩) := by decide

/-- Each field of each kind, one outside its range. -/
theorem test_meets_CarriedDescriptors_out :
    [area [0, 9], area [31, 65]].all (fun a => [1, 4, 5, 6].all fun k => decide (carriedPlace k 1 0 a = none)) = true
      ∧ [area [251, 0, 10], area [0, 0, 9], area [0, 3, 233]].all (fun a =>
          [2, 7].all fun k => decide (carriedPlace k 1 0 a = none)) = true
      ∧ [area [2, 0, 0, 0, 10, 0, 1], area [0, 78, 33, 0, 10, 0, 1], area [0, 0, 0, 0, 9, 0, 1], area [0, 0, 0, 7, 209, 0, 1],
          area [0, 0, 0, 0, 10, 0, 0], area [0, 0, 0, 0, 10, 1, 1]].all (fun a => decide (carriedPlace 3 1 0 a = none)) = true
      ∧ [area [0, 10, 78, 33, 0, 0, 0], area [0, 10, 0, 0, 15, 161, 0], area [0, 10, 0, 0, 0, 0, 251]].all (fun a =>
          decide (carriedPlace 5 1 0 a = none)) = true := by decide

theorem test_meets_ChainHeadFollowsR20 :
    (State.reset.line.state = .stopped ∧ State.reset.queue.records = []) ∧ (run (.chainHead .office 0 8) State.reset).chain.head = 8
      ∧ (run (.chainHead .office 0 9) State.reset).chain.head = 0 ∧ Port.bagger ≠ .office := by decide

theorem test_meets_ValidationOfTheChain :
    validChain.validate = .complete validChain.inForce ∧ validChain.inForce.length = 8 := by decide

/-- The descriptors of these places of a chain. -/
def placed (c : StationChain) (is : List (Fin 8)) : List Descriptor := is.filterMap c.places.get

/-- The chain of 02, 2.5, with one place replaced. -/
def chainWith (i : Fin 8) (d : Option Descriptor) : StationChain :=
  { chainOf 4 0 with places := (chainOf 4 0).places.set i d }

/-- The links of the chain of 02, 2.5 lead through an admissible order to its end, whose kinds are all there. -/
theorem test_meets_ValidationOfTheChain_complete :
    let ds := placed validChain [2, 0, 1, 3, 4, 5, 6, 7];
    validChain.Leads validChain.head ds 0 ∧ Admissible ds ∧ kindsInOrder ds = [1, 2, 4, 5, 6, 7]
      ∧ validChain.validate = .complete ds := by
  refine ⟨?_, ⟨by decide, by decide, fun z => ?_, by decide⟩, by decide, by decide⟩
  · repeat first | exact rfl | refine And.intro rfl ?_
  · cases z <;> decide

/-- A broken link, at the place it leads to. -/
theorem test_meets_ValidationOfTheChain_brokenLink :
    let c := chainWith 3 none
    let ds := placed c [2, 0, 1];
    c.Leads c.head ds 4 ∧ Admissible ds ∧ c.head ≠ 0 ∧ c.place 4 = none ∧ c.validate = .fails 4 .brokenLink := by
  refine ⟨?_, ⟨by decide, by decide, fun z => ?_, by decide⟩, by decide, by decide, by decide⟩
  · repeat first | exact rfl | refine And.intro rfl ?_
  · cases z <;> decide

/-- A distance equal to the last. -/
theorem test_meets_ValidationOfTheChain_distanceOrder :
    let d : Descriptor := ⟨.eyeSliced 400, 10500, 2⟩
    let c := chainWith 0 (some d)
    let ds := placed c [2];
    c.Leads c.head ds 1 ∧ Admissible ds ∧ c.place 1 = some d ∧ d.distance ≤ lastDistance ds
      ∧ c.validate = .fails 1 .distanceOrder := by
  refine ⟨?_, ⟨by decide, by decide, fun z => ?_, by decide⟩, by decide, by decide, by decide⟩
  · repeat first | exact rfl | refine And.intro rfl ?_
  · cases z <;> decide

/-- A kind out of order, and a bar beyond E4. -/
theorem test_meets_ValidationOfTheChain_kindOrder :
    (let c := chainOf 5 0
      let ds := placed c [2, 0, 1, 4]
      let d : Descriptor := ⟨.eyeClip 500 1600 240 48, 30400, 7⟩
      c.Leads c.head ds 6 ∧ Admissible ds ∧ c.place 6 = some d ∧ lastDistance ds < d.distance ∧ d.station.code ≠ 3
        ∧ ¬ kindsInOrder (ds ++ [d]) <+: [1, 2, 4, 5, 6, 7] ∧ c.validate = .fails 6 .kindOrder)
      ∧ (let d : Descriptor := ⟨.crumbBar .z1 1200 150 160, 39200, 0⟩
        let c := { chainWith 7 (some d) with places := (chainWith 7 (some d)).places.set 3 (some ⟨.eyeBag 500, 22000, 6⟩) }
        let ds := placed c [2, 0, 1, 3, 5, 6]
        c.Leads c.head ds 8 ∧ Admissible ds ∧ c.place 8 = some d ∧ lastDistance ds < d.distance ∧ d.isBarOf .z1 = true
          ∧ 6 ∈ kindsInOrder ds ∧ c.validate = .fails 8 .kindOrder) := by
  refine ⟨⟨?_, ⟨by decide, by decide, fun z => ?_, by decide⟩, by decide, by decide, by decide, by decide, by decide⟩,
    ?_, ⟨by decide, by decide, fun z => ?_, by decide⟩, by decide, by decide, by decide, by decide, by decide⟩
  · repeat first | exact rfl | refine And.intro rfl ?_
  · cases z <;> decide
  · repeat first | exact rfl | refine And.intro rfl ?_
  · cases z <;> decide

/-- A zone's second bar. -/
theorem test_meets_ValidationOfTheChain_zoneRepeated :
    let d : Descriptor := ⟨.crumbBar .z0 1200 150 160, 24500, 6⟩
    let c := chainWith 4 (some d)
    let ds := placed c [2, 0, 1, 3];
    c.Leads c.head ds 5 ∧ Admissible ds ∧ c.place 5 = some d ∧ lastDistance ds < d.distance ∧ d.isBarOf .z0 = true
      ∧ 6 ∉ kindsInOrder ds ∧ (∃ e ∈ ds, e.isBarOf .z0 = true) ∧ c.validate = .fails 5 .zoneRepeated := by
  refine ⟨?_, ⟨by decide, by decide, fun z => ?_, by decide⟩, by decide, by decide, by decide, by decide, by decide, by decide⟩
  · repeat first | exact rfl | refine And.intro rfl ?_
  · cases z <;> decide

/-- A list that ends before E4. -/
theorem test_meets_ValidationOfTheChain_incomplete :
    let c := chainOf 0 0
    let ds := placed c [2, 0]
    let d : Descriptor := ⟨.gateReject 35 180, 14400, 0⟩;
    c.Leads c.head ds 2 ∧ c.place 2 = some d ∧ d.next = 0 ∧ Admissible (ds ++ [d]) ∧ 6 ∉ kindsInOrder (ds ++ [d])
      ∧ c.validate = .fails 2 .incomplete ∧ State.reset.chain.head = 0 := by
  refine ⟨?_, by decide, by decide, ⟨by decide, by decide, fun z => ?_, by decide⟩, by decide, by decide, by decide⟩
  · repeat first | exact rfl | refine And.intro rfl ?_
  · cases z <;> decide

theorem test_meets_LineStartFollowsR24 :
    State.reset.line.state = .stopped ∧ Port.slicer ≠ .bagger
      ∧ State.reset.chain.validate = .fails 0 .empty
      ∧ (run (.lineStart .slicer 1) (State.reset.setChain (chainOf 4 0))).line.state = .running
      ∧ (inLine State.reset .idle none).line.state ≠ .stopped := by decide

/-- A start that fits zone 0, one over a zone fitted before, and one of a chain without a bar of zone 1. -/
theorem test_meets_LineStartFollowsR24_zones :
    let fresh := State.reset.setChain (chainOf 4 0)
    let fitted := withLoad 25000 (some 3)
    let bare := State.reset.setChain
      { chainOf 4 0 with places := (chainOf 4 0).places.set 3 (some ⟨.eyeBag 500, 22000, 6⟩) };
    ((fresh.zone .z0).fitted = false ∧ (fresh.zone .z0).load = 0 ∧ (fresh.zone .z0).blastEnd = none
        ∧ (fresh.zone .z0).manualClear = false ∧ (fresh.zone .z0).purgeOwed = false ∧ 1 ≤ (fresh.zone .z0).soft
        ∧ (run (.lineStart .slicer 1) fresh).bar .z0 = some ⟨10500, 900, 120, 192⟩
        ∧ (run (.lineStart .slicer 1) fresh).zone .z0 = { fresh.zone .z0 with fitted := true })
      ∧ (fitted.line.state = .stopped ∧ fitted.chain.validate = .complete validChain.inForce ∧ (fitted.zone .z0).fitted = true
        ∧ (run (.lineStart .slicer 1) fitted).zone .z0 = fitted.zone .z0)
      ∧ ((run (.lineStart .slicer 1) bare).bar .z1 = none ∧ (run (.lineStart .slicer 1) bare).line.state = .running
        ∧ ((run (.lineStart .slicer 1) bare).zone .z1).fitted = false) := by decide

theorem test_meets_LineRequests :
    Port.office ≠ .bagger ∧ (inLine State.reset .running (some 5)).line.state ≠ .stopped ∧ State.reset.line.state = .stopped := by decide

/-- A reset over records of an entry and of a RETIRING slot; and zones that blast, rest and are wanted or not. -/
theorem test_meets_LineResetFlushes :
    let r := { loaf 1 .toBag with entry := some 7 }
    let s := (withEntries (withLoaves chained [r, { r with tag := 2 }]) .active [{ entry 7 .filled with carried := 2 }, entry 8 .active]).setSlot 2
      (slotIn .retiring 2)
    let t := run (.lineReset .slicer 0) s;
    ((∀ i : Fin 16, (s.slot i).inFlight = s.references i) ∧ (s.slot 2).state = .retiring ∧ 0 < (s.slot 2).inFlight
        ∧ (s.slot 3).state ≠ .retiring ∧ (s.schedule.entries.map Entry.id).Nodup ∧ (s.queue.records.map LoafRecord.tag).Nodup
        ∧ s.schedule.state = .active)
      ∧ (t.slot 2).state = .empty ∧ t.schedule.entries = [{ entry 7 .closed with flushed := 2 }, entry 8 .active]
      ∧ t.totals.openShift.products.map ProductEntry.flushed = [2] ∧ t.schedule.state = .suspended := by decide

theorem test_meets_LineResetFlushes_queueFull :
    let s := (withLoaves chained (loaves 41)).placeHold .queueFull;
    s.held .queueFull = true ∧ 40 < s.queue.records.length ∧ (s.queue.records.map LoafRecord.tag).Nodup
      ∧ (run (.lineReset .slicer 0) s).held .queueFull = false
      ∧ (withLoaves chained (loaves 40)).queue.records.length ≤ 40 := by decide +kernel

/-- Zone 0 fitted: a blast cut and not wanted again, cut and wanted, at rest and wanted under a record, at rest on an empty queue. -/
theorem test_meets_LineResetFlushes_zones :
    let zone := fun s => (run (.lineReset .slicer 0) s).zone .z0;
    ((withLoad 19999 (some 9)).bar .z0).isSome = true ∧ ((withLoad 19999 (some 9)).zone .z0).fitted = true
      ∧ (zone (withLoad 19999 (some 9))).blastEnd = none ∧ (zone (withLoad 20000 (some 9))).blastEnd = some 120
      ∧ (zone (withLoaves (withLoad 20000 none) [{ loaf 1 .toBag with reference := -10500 }])).blastEnd = some 120
      ∧ (zone (withLoad 20000 none)).blastEnd = none ∧ (zone (withLoad 0 none)).blastEnd = none := by decide

theorem test_meets_IdlenessFollowsActivity :
    ((inLine State.reset .running (some 5)).line.state = .running ∧ (inLine State.reset .running (some 5)).line.idleTimer = some 5)
      ∧ (((withLoad 9 none).zone .z0).fitted = true ∧ 0 < ((withLoad 9 none).zone .z0).load
        ∧ ((withLoad 9 none).zone .z0).blastEnd = none ∧ (withLoad 9 none).occupant .z0 = none
        ∧ (withLoad 9 none).bar .z0 = some ⟨10500, 900, 120, 192⟩)
      ∧ ((withLoad 9 (some 3)).zone .z0).blastEnd ≠ none ∧ ((withLoad 0 none).zone .z0).load = 0
      ∧ ((withLoad 0 none).zone .z1).fitted = false
      ∧ (Quad.q10 = nextQuad State.reset.pos.lines ∧ State.reset.pos.x = 0)
      ∧ (inLine State.reset .idle none).line.state ≠ .stopped
      ∧ (run (.eyeRawLevelChange .e0 .dark) State.reset).pos.filters.e0.change = some ⟨0, true, 2, 2⟩
      ∧ (State.reset.pos.filters.e0.change = none ∧ Level.dark ≠ State.reset.pos.filters.e0.accepted
        ∧ (run (.lineConfig .office 0 100 0 0 120) State.reset).pos.config.filterTime = 0)
      ∧ Eye.e1 ≠ .e0 := by decide

theorem test_meets_HoldRequestsFollowR149 :
    (ownHold .slicer).code = 0 ∧ State.reset.held (ownHold .slicer) = false
      ∧ (run (.holdSet .slicer 0 0) State.reset).held (ownHold .slicer) = true
      ∧ (12 : Nat) ≠ (ownHold .slicer).code ∧ (1 : Nat) ≠ (ownHold .slicer).code := by decide

/-- The answers of the line requests end with the hold set and the permit: driven and released at a start, released at a stop and a reset. -/
theorem test_line_bodies_report_the_permit :
    let free := (State.reset.setChain (chainOf 4 0)).setLine { State.reset.line with holds := 0 }
    let body := fun c s => ((run c s).port .office).response.map Response.body;
    body (.lineStart .office 1) free = some [1, 1, 0, 0, 1]
      ∧ body (.lineStart .office 1) (State.reset.setChain (chainOf 4 0)) = some [1, 1, 2, 40, 0]
      ∧ body (.lineStop .office 1) (run (.lineStart .slicer 1) free) = some [0, 0, 0, 0]
      ∧ body (.lineReset .office 1) (run (.lineStart .slicer 1) free) = some [0, 0, 0, 0, 0] := by decide

/-- A hold placed on a started line without one, and the last hold released there. -/
theorem test_meets_HoldRequestsFollowR149_permit :
    let s := State.reset.setLine { state := .running, idleTimer := some 5, holds := 0, permit := .driven }
    let t := run (.holdSet .slicer 0 0) s;
    (s.held (ownHold .slicer) = false ∧ t.line.permit = .released ∧ t.held (ownHold .slicer) = true)
      ∧ (run (.holdRelease .slicer 0 0) t).line = s.line := by decide

/-- The values of the views, spelled out, are what the link carries. -/
theorem test_views :
    let s := withEntries (withLoaves ((withLoad 9 (some 3)).setBag { chained.bag with
      pendingTies := [⟨1, 77⟩], tieInFlight := some ⟨2, true, 9⟩, lastMiss := some (3, .tyerBusy) }) [loaf 1 .tying]) .active [entry 7 .filled]
    let r := { ShiftRecord.opened 7 0 with products := [ProductEntry.zero 1, ProductEntry.zero 2] };
    (s.zoneValues .z0 = s.zoneView .z0 ∧ s.zoneValues .z1 = s.zoneView .z1 ∧ s.tyerValues = s.tyerView)
      ∧ s.scheduleValues 0 (entry 7 .filled) = s.scheduleView 0 (entry 7 .filled)
      ∧ (loaf 1 .tying).values 1 0 = loafView 1 0 (loaf 1 .tying)
      ∧ (r.pageValues 1 = r.pageBytes 1 ∧ r.pageValues 2 = r.pageBytes 2)
      ∧ (withSlot State.reset .active).slotValues 2 = (withSlot State.reset .active).slotBytes 2
      ∧ placeValues (chainOf 4 0).places[5] = placeBytes (chainOf 4 0).places[5] := by decide

theorem test_meets_RecipeLoadFollowsR29 :
    ((State.reset.slot 15).state = .empty
        ∧ ∀ j : Fin 16, ¬(((State.reset.slot j).state = .loaded ∨ (State.reset.slot j).state = .active)
            ∧ (State.reset.slot j).product.map Product.code = some 1))
      ∧ ((run (.recipeLoad .office 0 15 65534 60 400 300 9999 9999 9999 255 30) State.reset).slot 15).state = .loaded
      ∧ ((run (.recipeLoad .office 0 0 1 250 0 300 301 0 0 0 1) State.reset).slot 0).state = .loaded
      ∧ ((withSlot State.reset .retiring).slot 2).state ≠ .empty
      ∧ (((withSlot State.reset .loaded).slot 3).state = .empty ∧ ((withSlot State.reset .loaded).slot 2).state = .loaded
        ∧ ((withSlot State.reset .loaded).slot 2).product.map Product.code = some 4110)
      ∧ [Instr.recipeLoad .office 0 0 0 60 0 300 301 0 0 0 1, .recipeLoad .office 0 0 65535 60 0 300 301 0 0 0 1,
          .recipeLoad .office 0 0 1 59 0 300 301 0 0 0 1, .recipeLoad .office 0 0 1 251 0 300 301 0 0 0 1,
          .recipeLoad .office 0 0 1 60 401 300 301 0 0 0 1, .recipeLoad .office 0 0 1 60 0 299 301 0 0 0 1,
          .recipeLoad .office 0 0 1 60 0 301 301 0 0 0 1, .recipeLoad .office 0 0 1 60 0 300 10000 0 0 0 1,
          .recipeLoad .office 0 0 1 60 0 300 301 1 0 0 1, .recipeLoad .office 0 0 1 60 0 300 301 0 10000 0 1,
          .recipeLoad .office 0 0 1 60 0 300 301 0 0 0 0, .recipeLoad .office 0 0 1 60 0 300 301 0 0 0 31,
          .recipeLoad .office 0 16 1 60 0 300 301 0 0 0 1].all (fun c =>
          decide (((run c State.reset).port .office).response.map Response.result = some 5)) = true := by decide

theorem test_meets_RecipeRetireFollowsR30 :
    ((withSlot State.reset .active).slot 2).state = .active ∧ (State.reset.slot 2).state = .empty
      ∧ ((withSlot State.reset .retiring).slot 2).state = .retiring
      ∧ (((withSlot State.reset .loaded).setSelection (some ⟨2, .office⟩)).recipes.selection = some ⟨2, .office⟩
        ∧ (((withSlot State.reset .loaded).setSelection (some ⟨2, .office⟩)).slot 2).state = .loaded)
      ∧ ((withSlot State.reset .loaded).recipes.selection = none ∧ ((withSlot State.reset .loaded).slot 2).state = .loaded
        ∧ (withSlot State.reset .loaded).schedule.entries = [])
      ∧ ((entry 1 .pending).slot = 2 ∧ (entry 1 .pending).state = .pending)
      ∧ (withEntries (withSlot State.reset .loaded) .idle [entry 1 .pending]).schedule.entries = [entry 1 .pending] := by decide

theorem test_meets_SelectFollowsR34 :
    ((withSlot State.reset .loaded).activeSlot = none ∧ ((withSlot State.reset .loaded).slot 2).state = .loaded)
      ∧ (((withSlot State.reset .loaded).setSlot 3 (slotIn .active 0)).activeSlot = some 3
        ∧ (((withSlot State.reset .loaded).setSlot 3 (slotIn .active 0)).slot 2).state = .loaded)
      ∧ (withSlot State.reset .active).activeSlot = some 2 ∧ ((withSlot State.reset .active).slot 2).state = .active
      ∧ (State.reset.slot 0).state = .empty ∧ ((withSlot State.reset .retiring).slot 2).state = .retiring
      ∧ Port.office ≠ .bagger ∧ 15 < 16
      ∧ ((State.reset.setSelection (some ⟨2, .slicer⟩)).recipes.selection = some ⟨2, .slicer⟩
        ∧ (withEntries State.reset .active [entry 1 .active]).schedule.state = .active) := by decide

/-- The changeover at once, with the blade's mismatch and without it. -/
theorem test_meets_ChangedOver :
    let s := withSlot State.reset .loaded;
    (s.slot 2).product = some bread ∧ (run (.select .office 0 2) s).held .bladeMismatch = true
      ∧ (run (.select .office 0 2) (run (.bladeReport .slicer 0 125) s)).held .bladeMismatch = false := by decide

theorem test_meets_BladeReportJudgesTheBlade :
    State.reset.activeSlot = none ∧ (withSlot State.reset .active).activeSlot = some 2
      ∧ ((withSlot State.reset .active).slot 2).product = some bread
      ∧ (run (.bladeReport .slicer 0 123) (withSlot State.reset .active)).held .bladeMismatch = false
      ∧ (run (.bladeReport .slicer 0 127) (withSlot State.reset .active)).held .bladeMismatch = false
      ∧ (run (.bladeReport .slicer 0 122) (withSlot State.reset .active)).held .bladeMismatch = true
      ∧ (run (.bladeReport .slicer 0 128) (withSlot State.reset .active)).held .bladeMismatch = true
      ∧ (run (.bladeReport .slicer 0 301) (withSlot State.reset .active)).recipes.pitch = 0 := by decide

/-- A state whose E0 filter has a dark level pending, with these records and slot 2 ACTIVE. -/
def loafAtE0 (rs : List LoafRecord) : State :=
  (withLoaves (withSlot chained .active) rs).setFilter .e0 ⟨.clear, some ⟨77, true, 2, 2⟩⟩

theorem test_meets_LeadingEdgeFollowsR65 :
    ((loafAtE0 []).pos.filters.e0 = ⟨.clear, some ⟨77, true, 2, 2⟩⟩ ∧ (loafAtE0 []).chain.state = .valid
        ∧ (loafAtE0 []).recipes.selection = none ∧ (loafAtE0 []).activeSlot = some 2 ∧ (loafAtE0 []).queue.records.length < 48)
      ∧ ((loafAtE0 (loaves 43)).queue.records.length = 43 ∧ ∀ r ∈ (loafAtE0 (loaves 43)).queue.records, r.stage ≠ .measuring)
      ∧ 48 ≤ (loafAtE0 (loaves 48)).queue.records.length
      ∧ (loafAtE0 [loaf 1 .toBag, loaf 2 .measuring]).queue.records = [loaf 1 .toBag] ++ loaf 2 .measuring :: []
      ∧ (without 2 (loafAtE0 [loaf 1 .toBag, loaf 2 .measuring]).queue.records).length < 48
      ∧ (((loafAtE0 []).setSlot 5 (slotIn .loaded 0)).setSelection (some ⟨5, .office⟩)).recipes.selection = some ⟨5, .office⟩
      ∧ ((withSlot State.reset .active).setFilter .e0 ⟨.clear, some ⟨77, true, 2, 2⟩⟩).chain.state = .unvalidated
      ∧ (((chained.setFilter .e0 ⟨.clear, some ⟨77, true, 2, 2⟩⟩).activeSlot = none)
        ∧ (chained.setFilter .e0 ⟨.clear, some ⟨77, true, 2, 2⟩⟩).recipes.selection = none
        ∧ (chained.setFilter .e0 ⟨.clear, some ⟨77, true, 2, 2⟩⟩).queue.records.length < 48) := by decide

/-- The law of the slots holds of both: with a slot ACTIVE, and with another pending. -/
theorem test_meets_LeadingEdgeFollowsR65_slots :
    RecipeLaw (loafAtE0 []) ∧ RecipeLaw (((loafAtE0 []).setSlot 5 (slotIn .loaded 0)).setSelection (some ⟨5, .office⟩)) := by
  refine ⟨⟨by decide, fun x h => ?_, by decide⟩, by decide, fun x h => ?_, by decide⟩
  · cases h
  · cases h; decide

/-- The ACTIVE entry of an ACTIVE schedule, alone and beside a MEASURING record of another entry; a pending slot with its product. -/
theorem test_meets_LeadingEdgeFollowsR65_carried :
    let r := { loaf 2 .measuring with plan := none, entry := some 7 }
    let es := [{ entry 7 .filled with carried := 2 }, entry 1 .active]
    let s := withEntries (loafAtE0 [loaf 1 .toBag, r]) .active es;
    (s.schedule.state = .active ∧ s.activeEntry = some (entry 1 .active) ∧ s.queue.records = [loaf 1 .toBag] ++ r :: [])
      ∧ (run (.eyeFilterExpiry .e0) (withEntries (loafAtE0 []) .active es)).schedule.entries
          = [{ entry 7 .filled with carried := 2 }, { entry 1 .active with carried := 1 }]
      ∧ (run (.eyeFilterExpiry .e0) s).schedule.entries
          = [{ entry 7 .filled with carried := 1, unmeasured := 1 }, { entry 1 .active with carried := 1 }]
      ∧ (let t := ((loafAtE0 []).setSlot 5 (slotIn .loaded 0)).setSelection (some ⟨5, .office⟩);
          (t.slot 5).product = some bread ∧ t.activeSlot = some 2
            ∧ (run (.eyeFilterExpiry .e0) t).held .bladeMismatch = true) := by decide

/-- A fitted zone that wants a blast, over a state. -/
def wanting (s : State) : State := s.setZone .z0 { ZoneState.initial with fitted := true, load := 20000 }

/-- Blasts at a leading edge: with no loss; with the loss of the loaf that occupies the zone; and a purge owed dropped on an IDLE line at an
edge that creates nothing. -/
theorem test_meets_LeadingEdgeFollowsR65_blasts :
    let r := { loaf 2 .measuring with plan := none, reference := -10500 }
    let lost := wanting (loafAtE0 [r])
    let owed := (inLine ((chained.setFilter .e0 ⟨.clear, some ⟨77, true, 2, 2⟩⟩)) .idle none).setZone .z0
      { ZoneState.initial with fitted := true, load := 5, purgeOwed := true };
    ((run (.eyeFilterExpiry .e0) (wanting (loafAtE0 []))).zone .z0).blastEnd = some 122
      ∧ (lost.queue.records = [] ++ r :: [] ∧ lost.occupant .z0 = some r ∧ (lost.lose r).occupant .z0 = none
        ∧ ((run (.eyeFilterExpiry .e0) lost).zone .z0).blastEnd = some 122)
      ∧ (owed.line.state = .idle ∧ (owed.zone .z0).purgeOwed = true
        ∧ (run (.eyeFilterExpiry .e0) owed).zone .z0 = { owed.zone .z0 with purgeOwed := false }) := by decide

/-- A state at H with an edge pending at an eye, captured at a position at H, and these records; slot 2 ACTIVE. -/
def edgeAt (e : Eye) (accepted : Level) (captured h : Pos) (rs : List LoafRecord) : State :=
  let s := withLoaves (withSlot chained .active) rs;
  (s.setPos { s.pos with h := h, p := h }).setFilter e ⟨accepted, some ⟨captured, true, 2, 2⟩⟩

/-- An edge's deviation from where a record is expected (R70). -/
def deviation (captured : Pos) (r : LoafRecord) (distance : Nat) : Int :=
  (captured - (r.reference + BitVec.ofNat 32 distance)).toInt

theorem test_meets_TrailingEdgePlansTheLoaf :
    let r := { loaf 2 .measuring with plan := none }
    let s := edgeAt .e0 .dark 1003307 1003307 [loaf 1 .toBag, r]
    bread.crumb ≤ 255
      ∧ (s.pos.filters.e0 = ⟨.dark, some ⟨1003307, true, 2, 2⟩⟩ ∧ (s.queue.records.map LoafRecord.tag).Nodup
        ∧ s.queue.records = [loaf 1 .toBag] ++ r :: [] ∧ (loaf 1 .toBag).stage ≠ .measuring ∧ (s.slot r.slot).product = some bread
        ∧ s.activeSlot ≠ none)
      ∧ ((run (.eyeFilterExpiry .e0) s).record? 2).map LoafRecord.stage = some .toSlicer
      ∧ ∀ x ∈ (edgeAt .e0 .dark 1003307 1003307 [loaf 1 .toBag]).queue.records, x.stage ≠ .measuring := by decide

/-- The planning that clears a zone of a loaf whose tail was not known; and the leave that does. -/
theorem test_meets_TrailingEdgePlansTheLoaf_blasts :
    let r := { loaf 2 .measuring with plan := none, reference := 0 }
    let s := wanting (edgeAt .e0 .dark 3307 20000 [r]);
    s.occupant .z0 = some r ∧ ((run (.eyeFilterExpiry .e0) s).zone .z0).blastEnd = some 122
      ∧ ((s.leave r .lost).zone .z0).blastEnd = some 120 := by decide

theorem test_meets_DownstreamEdgesFollowR70 :
    let r := loaf 2 .toSlicer;
    (Eye.e1 ≠ .e0 ∧ (edgeAt .e1 .dark 5 5 [r]).pos.filters.get .e1 = ⟨.dark, some ⟨5, true, 2, 2⟩⟩)
      ∧ (candidateStage .e1 = some .toSlicer ∧ (edgeAt .e1 .clear 5 5 []).pos.filters.get .e1 = ⟨.clear, some ⟨5, true, 2, 2⟩⟩
        ∧ ∀ x ∈ (edgeAt .e1 .clear 5 5 [loaf 1 .toBag]).queue.records, x.stage ≠ .toSlicer)
      ∧ ((edgeAt .e1 .clear 1011599 1011599 [loaf 1 .toBag, r]).queue.records = [loaf 1 .toBag] ++ r :: []
        ∧ chained.eyeStation .e1 = some ⟨12000, 400⟩ ∧ deviation 1011599 r 12000 < -400)
      ∧ 400 < deviation 1012401 r 12000
      ∧ (run (.eyeFilterExpiry .e1) (edgeAt .e1 .clear 1012401 1012401 [r])).queue.records = []
      ∧ (run (.eyeFilterExpiry .e1) (edgeAt .e1 .clear 1012401 1012401 [r])).totals.openShift.strays = 1 := by decide

/-- The premises at E1 and E2 at both ends of the window, for a record with no reason, one with a reason, ahead and late. -/
theorem test_meets_MatchesAtE1AndE2 :
    let r := loaf 2 .toSlicer
    let marked := { r with reasons := ⟨false, false, false, true⟩ };
    ((edgeAt .e1 .clear 1011600 1011600 [r]).queue.records = [] ++ r :: [] ∧ chained.eyeStation .e1 = some ⟨12000, 400⟩
        ∧ deviation 1011600 r 12000 = -400 ∧ deviation 1012400 r 12000 = 400 ∧ r.reasons = ⟨false, false, false, false⟩)
      ∧ (marked.reasons ≠ ⟨false, false, false, false⟩
        ∧ (edgeAt .e1 .clear 1012000 1012000 [marked]).gateStation .reject = some ⟨14400, 35, 180⟩
        ∧ firePosition 1012000 (14400 - 12000) (lead (edgeAt .e1 .clear 1012000 1012000 [marked]).pos.v 35) = 1014400)
      ∧ (run (.eyeFilterExpiry .e1) (edgeAt .e1 .clear 1012000 1014399 [marked])).queue.records
          = [{ marked with stage := .diverting, reference := 1000000, lastMatch := some 1012000, gateFire := some 1014400 }]
      ∧ (run (.eyeFilterExpiry .e1) (edgeAt .e1 .clear 1012000 1014400 [marked])).queue.records = []
      ∧ ((edgeAt .e2 .clear 1022000 1022000 [loaf 2 .toBag]).eyeStation .e2 = some ⟨22000, 500⟩
        ∧ deviation 1022500 (loaf 2 .toBag) 22000 = 500)
      ∧ ((run (.eyeFilterExpiry .e2) (edgeAt .e2 .clear 1022000 1022000 [loaf 2 .toBag])).record? 2).map LoafRecord.blind
          = some true := by decide

/-- A charge that brings a fitted zone to its soft threshold, and one that does not. -/
theorem test_meets_MatchesAtE1AndE2_blasts :
    let at_ := fun load =>
      (edgeAt .e1 .clear 1012000 1012000 [loaf 2 .toSlicer]).setZone .z0 { ZoneState.initial with fitted := true, load := load };
    ((at_ 19406).bar .z0).isSome = true ∧ ((run (.eyeFilterExpiry .e1) (at_ 19405)).zone .z0).blastEnd = none
      ∧ (run (.eyeFilterExpiry .e1) (at_ 19406)).occupant .z0 = some { loaf 2 .toBag with lastMatch := some 1012000 }
      ∧ ((run (.eyeFilterExpiry .e1) ((at_ 19406).setPos { (at_ 19406).pos with h := 1020000 })).zone .z0).blastEnd = some 122 := by
  decide

/-- The premises at E3 and E4: a failed bag, a tie ahead, a tie late and each cause it is missed for; an exit ahead, late, and no gate. -/
theorem test_meets_MatchesAtE3AndE4 :
    let r := loaf 2 .bagging
    let s := edgeAt .e3 .clear 1030400 1030400 [r];
    (s.queue.records = [] ++ r :: [] ∧ s.eyeStation .e3 = some ⟨30400, 500⟩ ∧ deviation 1030400 r 30400 = 0
        ∧ (s.queue.records.map LoafRecord.tag).Nodup ∧ r.result ≠ some .fail ∧ s.tyerStation = some ⟨1600, 240, 48⟩
        ∧ firePosition 1030400 (1600 + 3307 + 240) (lead s.pos.v 48) = 1035547)
      ∧ ({ r with result := some .fail }).result = some .fail
      ∧ (run (.eyeFilterExpiry .e3) s).bag.pendingTies = [⟨2, 1035547⟩]
      ∧ (run (.eyeFilterExpiry .e3) (edgeAt .e3 .clear 1030400 1035547 [r])).bag.lastMiss = some (2, .clipEmpty)
      ∧ (let late := edgeAt .e3 .clear 1030400 1035547 [r];
          (run (.eyeFilterExpiry .e3) (late.setBag { late.bag with magazine := 1 })).bag.tyer = .firing
            ∧ (late.setBag { late.bag with tyer := .firing }).bag.tyer = .firing
            ∧ (late.setBag { late.bag with tyer := .fault }).bag.tyer = .fault)
      ∧ (let x := loaf 2 .tying
          let t := edgeAt .e4 .clear 1038000 1038000 [x]
          t.eyeStation .e4 = some ⟨38000, 600⟩ ∧ deviation 1038600 x 38000 = 600 ∧ t.gateStation .exit = some ⟨39200, 30, 200⟩
            ∧ (run (.eyeFilterExpiry .e4) t).queue.records.map LoafRecord.gateFire = [some 1039200]
            ∧ (run (.eyeFilterExpiry .e4) (edgeAt .e4 .clear 1038000 1039200 [x])).queue.exitGate = .driven 202
            ∧ (t.setChain { validChain with places := validChain.places.set 6 (some ⟨.eyeExit 600, 38000, 0⟩) }).gateStation .exit
                = none) := by decide

/-- The blasts at E3 and E4: a zone clear there, and one under another loaf. -/
theorem test_meets_MatchesAtE3AndE4_blasts :
    let e3 := fun rs => wanting (edgeAt .e3 .clear 1030400 1030400 (loaf 2 .bagging :: rs))
    let e4 := wanting (edgeAt .e4 .clear 1038000 1039200 [loaf 2 .tying]);
    ((run (.eyeFilterExpiry .e3) (e3 [])).zone .z0).blastEnd = some 122
      ∧ ((run (.eyeFilterExpiry .e3) (e3 [{ loaf 3 .toSlicer with reference := 1019900 }])).zone .z0).blastEnd = none
      ∧ ((run (.eyeFilterExpiry .e4) e4).zone .z0).blastEnd = some 122 := by decide

theorem test_meets_ArithmeticOfPositions :
    (0 < 2 ∧ roundNat 1 2 = 0 ∧ roundNat 3 2 = 2) ∧ lead 2560 35 ≤ 2400 ∧ ¬ lead 4000 250 ≤ 2400 ∧ reducedLoad 65535 256 = 0 := by decide

theorem test_meets_AdvanceTakesWhatIsDue :
    let x := { loaf 2 .exiting with gateFire := some 1 }
    let d := { loaf 3 .diverting with gateFire := some 1 };
    ((withLoaves chained [loaf 1 .toBag, x]).queue.records.map LoafRecord.tag).Nodup
      ∧ (Quad.q10 = nextQuad chained.pos.lines ∧ chained.pos.x = 0)
      ∧ (run (.encoderStep .q10) (withLoaves chained [loaf 1 .toBag])).queue.records = [loaf 1 .toBag]
      ∧ chained.outcomeAt 1 (loaf 1 .toBag) = none ∧ chained.outcomeAt 1 x = some .untied ∧ chained.outcomeAt 1 d = some .diverted
      ∧ chained.outcomeAt 0 x = none
      ∧ chained.outcomeAt 1022501 (loaf 1 .toBag) = some .lost ∧ chained.outcomeAt 1022500 (loaf 1 .toBag) = none
      ∧ (withLoaves chained [loaf 1 .toBag, x]).queue.records = [loaf 1 .toBag] ++ x :: []
      ∧ chained.gateStation .reject = some ⟨14400, 35, 180⟩ ∧ chained.gateStation .exit = some ⟨39200, 30, 200⟩
      ∧ (run (.encoderStep .q10) (withLoaves chained [loaf 1 .toBag, x, d])).queue
          = { chained.queue with records := [loaf 1 .toBag], rejectGate := .driven 180, exitGate := .driven 200 } := by decide

/-- A gap whose release the advance reaches, and one it does not. -/
theorem test_meets_AdvanceTakesWhatIsDue_gap :
    let gap := fun w => (chained.placeHold .scheduleGap).setSchedule { chained.schedule with gapRelease := w };
    ((gap (some 1)).schedule.gapRelease = some 1 ∧ ((1 : Pos) - (chained.pos.p + 1)).toInt ≤ 0 ∧ 0 < ((2 : Pos) - (chained.pos.p + 1)).toInt)
      ∧ ((run (.encoderStep .q10) (gap (some 1))).held .scheduleGap = false ∧ chained.schedule.gapRelease = none)
      ∧ (run (.encoderStep .q10) (gap (some 2))).held .scheduleGap = true
      ∧ (run (.encoderStep .q10) (gap (some 2))).schedule.gapRelease = some 2 := by decide

/-- Forty records and one that is due. -/
theorem test_meets_AdvanceTakesWhatIsDue_queueFull :
    let x := { loaf 48 .exiting with gateFire := some 1 }
    let s := (withLoaves chained (loaves 40 ++ [x])).placeHold .queueFull;
    (s.queue.records = loaves 40 ++ x :: [] ∧ s.outcomeAt 1 x = some .untied ∧ (s.queue.records.map LoafRecord.tag).Nodup
        ∧ (∀ y ∈ loaves 40 ++ [], s.outcomeAt 1 y = none) ∧ (loaves 40 ++ []).length = 40)
      ∧ s.held .queueFull = true ∧ (run (.encoderStep .q10) s).held .queueFull = false := by decide +kernel

theorem test_meets_LeaveHandsTheRecordOn :
    (((withSlot chained .retiring).slot 2).state = .retiring ∧ ((withSlot chained .retiring).slot 2).inFlight ≤ 1)
      ∧ ((withSlot chained .active).slot 2).state ≠ .retiring ∧ 1 < ((chained.setSlot 2 (slotIn .retiring 2)).slot 2).inFlight
      ∧ ({ loaf 1 .exiting with result := some .fail }).exitOutcome = .bagFail
      ∧ (loaf 1 .exiting).exitOutcome = .untied
      ∧ ({ loaf 1 .exiting with tie := .tied }).exitOutcome = .unconfirmed
      ∧ ({ loaf 1 .exiting with tie := .tied, result := some .ok }).exitOutcome = .good := by decide

/-- A leave that brings the count to 40, with a pending tie of its own, one of another record, and its tie in flight. -/
theorem test_meets_LeaveHandsTheRecordOn_ties :
    let s := ((withLoaves chained (loaves 41)).setBag { chained.bag with
      tyer := .firing, tieInFlight := some ⟨41, true, 9⟩, pendingTies := [⟨41, 5⟩, ⟨40, 6⟩] }).placeHold .queueFull;
    (s.leave (loaf 41 .tying) .lost).queue.records.length = 40 ∧ s.held .queueFull = true
      ∧ (s.leave (loaf 41 .tying) .lost).held .queueFull = false
      ∧ (s.leave (loaf 41 .tying) .lost).bag.pendingTies = [⟨40, 6⟩]
      ∧ (s.leave (loaf 41 .tying) .lost).bag.tieInFlight = some ⟨41, false, 9⟩
      ∧ (s.leave (loaf 48 .tying) .lost).queue.records.length ≠ 40 ∧ HoldReason.noDate ≠ .queueFull := by decide

/-- A record of an entry, planned or not, with a size reason or none; the entry FILLED with one record left, or its count at the end. -/
theorem test_meets_LeaveHandsTheRecordOn_entry :
    let r := { loaf 1 .exiting with entry := some 7 }
    let e := { entry 7 .filled with carried := 1 };
    (r.entry = some e.id ∧ e ∈ (withEntries chained .idle [entry 3 .closed, e]).schedule.entries
        ∧ ((withEntries chained .idle [entry 3 .closed, e]).schedule.entries.map Entry.id).Nodup ∧ e.carried ≤ 1 ∧ r.plan ≠ none)
      ∧ ({ r with plan := none } : LoafRecord).plan = none ∧ (loaf 1 .exiting).entry = none
      ∧ ({ r with reasons := ⟨true, false, false, false⟩ } : LoafRecord).reasons.undersize = true
      ∧ ({ e with diverted := 4294967295 } : Entry).diverted = 4294967295
      ∧ ((withEntries chained .idle [entry 3 .closed, e]).leave r .good).schedule.entries
          = [entry 3 .closed, { e with carried := 0, state := .closed, good := 1 }] := by decide

/-- A shift with the product's entry, one without, and one with 24 others; a count at its limit; a first and a later GOOD leave. -/
theorem test_meets_LeaveHandsTheRecordOn_shift :
    let t := ShiftRecord.opened 1 0
    let e := { ProductEntry.zero 4110 with good := 4294967295, shortest := some 4000, longest := some 4200 }
    let r := { loaf 1 .exiting with late := true }
    let full := { t with products := (List.range 24).map fun k => ProductEntry.zero (k + 1) };
    ({ t with products := [ProductEntry.zero 9, e] } : ShiftRecord).products = [ProductEntry.zero 9] ++ e :: []
      ∧ (({ t with products := [ProductEntry.zero 9, e] } : ShiftRecord).countLeave (some 4110) r .good).products
        = [ProductEntry.zero 9, { e with slices := 33, late := 1 }]
      ∧ (t.countLeave (some 4110) r .good).products
        = [{ ProductEntry.zero 4110 with good := 1, slices := 33, late := 1, shortest := some 4122, longest := some 4122 }]
      ∧ (24 ≤ full.products.length ∧ (∀ y ∈ full.products, y.code ≠ 4110)
        ∧ (full.countLeave (some 4110) { r with blind := true } .lost).other = { t.other with lost := 1, late := 1, blind := 1 })
      ∧ (t.countLeave none r .untied).other = { t.other with untied := 1, late := 1 } := by decide

theorem test_meets_MarkDivertFollowsTheStage :
    (withLoaves chained [loaf 255 .toSlicer]).record? 255 = some (loaf 255 .toSlicer)
      ∧ ((withLoaves chained [loaf 255 .toSlicer]).record? 1 = none ∧ 255 < 256)
      ∧ (withLoaves chained [loaf 1 .measuring]).record? 1 = some (loaf 1 .measuring)
      ∧ (withLoaves chained [loaf 1 .diverting]).record? 1 = some (loaf 1 .diverting)
      ∧ (withLoaves chained [loaf 1 .exiting]).record? 1 = some (loaf 1 .exiting)
      ∧ (loaf 1 .toBag).lastMatch = some 1012050
      ∧ chained.gateStation .reject ≠ none ∧ chained.eyeStation .e1 ≠ none
      ∧ 0 < (firePosition 1012050 2400 (lead chained.pos.v 35) - chained.pos.h).toInt
      ∧ (firePosition 1012050 2400 (lead chained.pos.v 35) - 1014450).toInt ≤ 0 := by decide

theorem test_meets_ReadsFindWhatTheyName_track :
    (withLoaves chained [loaf 7 .toBag]).record? 7 = some (loaf 7 .toBag)
      ∧ (withLoaves chained [loaf 7 .toBag]).queue.records[0]? = some (loaf 7 .toBag)
      ∧ (withLoaves chained [loaf 7 .toBag]).record? 255 = none
      ∧ (withLoaves chained [loaf 7 .toBag]).queue.records[47]? = none
      ∧ (withLoaves chained (loaves 48)).queue.records[47]? ≠ none := by decide

theorem test_meets_AppendAddsAPendingEntry :
    ((withSlot State.reset .loaded).schedule.entries.length < 12 ∧ ((withSlot State.reset .loaded).slot 2).state = .loaded
        ∧ (withSlot State.reset .loaded).schedule.idCounter = 1 ∧ ((withSlot State.reset .active).slot 2).state = .active)
      ∧ (run (.scheduleAppend .office 0 2 65535 60000 1) (withSlot State.reset .loaded)).schedule.entries.length = 1
      ∧ (run (.scheduleAppend .office 0 2 65536 0 1) (withSlot State.reset .loaded)).schedule.entries.length = 0 := by decide

/-- A full list, and slots that may not be scheduled. -/
theorem test_meets_AppendAddsAPendingEntry_refusals :
    let full := withEntries (withSlot State.reset .loaded) .idle ((List.range 12).map fun k => entry (k + 1) .pending);
    12 ≤ full.schedule.entries.length
      ∧ ((run (.scheduleAppend .office 0 2 1 0 0) full).port .office).response.map Response.result = some 13
      ∧ ((State.reset.slot 2).state = .empty ∧ State.reset.schedule.entries.length < 12)
      ∧ ((withSlot State.reset .retiring).slot 2).state = .retiring ∧ (15 < 16 ∧ 65535 < 65536 ∧ 60000 < 60001) := by decide

theorem test_meets_StartAndResumeFollowTheState :
    ((withEntries (withSlot State.reset .active) .idle [entry 1 .pending]).firstPending = some (entry 1 .pending)
        ∧ State.reset.schedule.state = .idle ∧ State.reset.firstPending = none)
      ∧ ((withEntries ((withSlot State.reset .loaded).setSlot 3 (slotIn .active 0)) .idle [entry 1 .pending]).slot 2).state = .loaded
      ∧ (withEntries ((withSlot State.reset .loaded).setSlot 3 (slotIn .active 0)) .idle [entry 1 .pending]).activeSlot ≠ none
      ∧ (withEntries State.reset .active [entry 1 .active]).schedule.state = .active
      ∧ ((withEntries (withSlot State.reset .active) .suspended [entry 1 .active]).schedule.state = .suspended
        ∧ (withEntries (withSlot State.reset .active) .suspended [entry 1 .active]).activeEntry = some (entry 1 .active)) := by decide

/-- The schedule's write with no slot ACTIVE, of the ACTIVE slot, and over a master's selection. -/
theorem test_meets_ScheduleWrote :
    let idle := withEntries (withSlot State.reset .loaded) .idle [entry 1 .pending]
    let suspended := withEntries (withSlot State.reset .loaded) .suspended [entry 1 .active];
    ((idle.slot 2).state = .loaded ∧ idle.activeSlot = none ∧ (idle.slot 2).product = some bread)
      ∧ ((run (.scheduleStart .office 0) idle).slot 2).state = .active
      ∧ (suspended.activeEntry = some (entry 1 .active) ∧ ((run (.scheduleResume .office 0) suspended).slot 2).state = .active)
      ∧ ((withSlot idle .active).slot 2).state = .active
      ∧ (let t := ((withSlot idle .loaded).setSlot 3 (slotIn .active 0)).setSelection (some ⟨4, .slicer⟩);
          t.recipes.selection = some ⟨4, .slicer⟩
            ∧ (run (.scheduleStart .office 0) t).recipes.selection = some ⟨2, .schedule⟩) := by decide

/-- A RESUME in IDLE that releases the stop, and one in ACTIVE. -/
theorem test_meets_StartAndResumeFollowTheState_idle :
    State.reset.schedule.state = .idle ∧ (run (.scheduleResume .office 0) (State.reset.placeHold .scheduleStop)).held .scheduleStop = false
      ∧ HoldReason.noDate ≠ .scheduleStop
      ∧ (withEntries State.reset .active [entry 1 .active]).schedule.state = .active := by decide

theorem test_meets_CancelFollowsTheEntry :
    (withEntries State.reset .idle [entry 1 .pending]).entry? 1 = some (entry 1 .pending)
      ∧ ((withEntries State.reset .active [entry 255 .active]).entry? 255 = some (entry 255 .active)
        ∧ (withEntries State.reset .active [entry 255 .active]).firstPending = none
        ∧ ((withEntries State.reset .active [entry 255 .active]).schedule.entries.map Entry.id).Nodup)
      ∧ (withEntries State.reset .active [entry 1 .active, entry 2 .pending]).firstPending = some (entry 2 .pending)
      ∧ (withEntries State.reset .idle [entry 1 .filled]).entry? 1 = some (entry 1 .filled)
      ∧ (withEntries State.reset .idle [entry 1 .closed]).entry? 1 = some (entry 1 .closed) := by decide

/-- Ids that are refused, and a cancel by which an ACTIVE schedule goes on to its next entry. -/
theorem test_meets_CancelFollowsTheEntry_next :
    let s := withEntries (withSlot State.reset .loaded) .active [entry 1 .active, entry 2 .pending];
    (255 < 256 ∧ ∀ e ∈ s.schedule.entries, e.id ≠ 3)
      ∧ (s.firstPending = some (entry 2 .pending) ∧ s.schedule.state = .active ∧ (s.slot 2).state = .loaded ∧ s.activeSlot = none)
      ∧ ((run (.scheduleCancel .office 0 1) s).slot 2).state = .active
      ∧ (run (.scheduleCancel .office 0 1) s).entry? 2 = some (entry 2 .active)
      ∧ (withEntries State.reset .suspended [entry 1 .active, entry 2 .pending]).schedule.state ≠ .active := by decide

/-- A cancel of an entry with records on the belt and of one without. -/
theorem test_meets_CancelFollowsTheEntry_closed :
    let e := { entry 1 .active with admitted := 3, carried := 2 }
    let s := withEntries chained .active [entry 5 .closed, e, entry 2 .pending];
    (e.carried ≠ 0 ∧ (entry 1 .active).carried = 0 ∧ (s.schedule.entries.map Entry.id).Nodup
        ∧ ∀ y ∈ s.schedule.entries, y.state = .active → y.id = e.id)
      ∧ (run (.scheduleCancel .office 0 1) s).schedule.entries
        = [entry 5 .closed, { e with state := .filled, target := 3 }, entry 2 .active]
      ∧ (run (.scheduleCancel .office 0 1) (withEntries chained .active [entry 1 .active])).schedule.entries
        = [{ entry 1 .closed with target := 0 }] := by decide

theorem test_meets_ReapAndScheduleRead :
    (withEntries State.reset .idle [entry 1 .closed, entry 2 .filled, entry 3 .closed]).schedule.entries
        = [entry 1 .closed] ++ [entry 2 .filled, entry 3 .closed]
      ∧ (run (.scheduleReap .office 0)
          (withEntries State.reset .idle [entry 1 .closed, entry 2 .filled, entry 3 .closed])).schedule.entries
        = [entry 2 .filled, entry 3 .closed]
      ∧ (withEntries State.reset .idle [entry 1 .closed]).schedule.entries[0]? = some (entry 1 .closed)
      ∧ ((withEntries State.reset .idle [entry 1 .closed]).schedule.entries.length ≤ 11 ∧ 11 < 12)
      ∧ (∀ e ∈ (withEntries State.reset .idle [entry 1 .closed]).schedule.entries, e.id ≠ 255)
      ∧ (withEntries State.reset .idle [entry 1 .closed]).entry? 1 = some (entry 1 .closed) := by decide

/-- The MEASURING record of an entry: ACTIVE with one to come or at its target, or FILLED; with a gap, a stop, a next entry. -/
theorem test_meets_AdmissionAndFill :
    let r := { loaf 2 .measuring with plan := none, entry := some 7 }
    let e := { entry 7 .active with carried := 1, admitted := 9, gap := 500 }
    let s := withEntries (edgeAt .e0 .dark 1003307 1003307 [loaf 1 .toBag, r]) .active [e, entry 8 .pending];
    (s.pos.filters.e0 = ⟨.dark, some ⟨1003307, true, 2, 2⟩⟩ ∧ (s.queue.records.map LoafRecord.tag).Nodup
        ∧ (s.schedule.entries.map Entry.id).Nodup ∧ s.queue.records = [loaf 1 .toBag] ++ r :: [] ∧ (loaf 1 .toBag).stage ≠ .measuring
        ∧ (s.slot r.slot).product = some bread ∧ e ∈ s.schedule.entries ∧ e.target ≤ e.admitted + 1 ∧ 1 ≤ e.carried
        ∧ s.firstPending = some (entry 8 .pending))
      ∧ (makePlan 1000000 1003307 s.pos.config bread false).2 = ⟨true, false, false, false⟩
      ∧ (let t := s.setPos { s.pos with config := ⟨125, 12, 2, 120⟩ };
          (makePlan 1000000 1003307 t.pos.config bread (t.held .bladeMismatch)).2 = ⟨false, false, false, false⟩
            ∧ (run (.eyeFilterExpiry .e0) t).schedule.gapRelease = some 1003807
            ∧ (run (.eyeFilterExpiry .e0) t).schedule.entries
                = [{ e with admitted := 10, state := .filled }, entry 8 .active]
            ∧ (run (.eyeFilterExpiry .e0) (withEntries t .active [{ e with admitted := 8 }])).schedule.entries
                = [{ e with admitted := 9 }]
            ∧ (run (.eyeFilterExpiry .e0) (withEntries t .idle [{ e with state := .filled }])).schedule.entries
                = [{ e with state := .closed, carried := 0 }]
            ∧ (run (.eyeFilterExpiry .e0) (withEntries t .active [{ e with stopAfter := true }, entry 8 .pending])).schedule.state
                = .suspended) := by decide

theorem test_meets_BagNextAndBagResult :
    ((withLoaves (withSlot chained .active) [loaf 1 .bagging, loaf 2 .toBag]).queue.records = [loaf 1 .bagging] ++ loaf 2 .toBag :: []
        ∧ (loaf 2 .toBag).plan = some ⟨3307, 4122, 33, 2, 594⟩ ∧ (loaf 2 .toSlicer).stage = .toSlicer ∧ (loaf 2 .toBag).fetched = false
        ∧ ((withSlot chained .active).slot 2).product = some bread ∧ (loaf 1 .bagging).stage ≠ .toBag)
      ∧ (run (.bagNext .bagger 0) (withLoaves (withSlot chained .active) [loaf 1 .bagging, loaf 2 .toBag])).queue.records
        = [loaf 1 .bagging, { loaf 2 .toBag with fetched := true }]
      ∧ ((withLoaves chained [loaf 1 .bagging]).record? 1 = some (loaf 1 .bagging))
      ∧ ((withLoaves chained [loaf 255 .toBag]).record? 255 = some (loaf 255 .toBag) ∧ (loaf 255 .toBag).stage ≠ .bagging)
      ∧ chained.record? 1 = none
      ∧ [Instr.bagResult .bagger 0 0 0, .bagResult .bagger 0 256 0, .bagResult .bagger 0 1 2].all (fun c =>
          decide (((run c (withLoaves chained [loaf 1 .bagging])).port .bagger).response.map Response.result = some 5)) = true := by decide

theorem test_meets_PrintCodeFollowsR117 :
    let b : BagClipUnit := { State.reset.bag with date := ⟨1, 9, 0, true⟩, colours := #v[7, 7, 7, 7, 7, 7, 7] }
    b.date.yearDigit ≤ 9 ∧ b.colours.get 6 ≤ 7 ∧ ({ loaf 1 .toBag with day := 366, weekday := 6 }).day ≤ 366
      ∧ printCode b { loaf 1 .toBag with day := 366, weekday := 6 } 30 / 128 = 30
      ∧ printCode b { loaf 1 .toBag with day := 365, weekday := 6 } 1 / 128 = 366 := by decide

theorem test_meets_DateColoursAndClipsAreReplaced_date :
    (run (.dateSet .office 0 366 9 6 1) State.reset).bag.date = ⟨366, 9, 6, true⟩
      ∧ (run (.dateSet .office 0 365 0 0 0) State.reset).bag.date = ⟨365, 0, 0, false⟩
      ∧ (run (.dateSet .office 0 366 9 6 0) State.reset).bag = State.reset.bag
      ∧ (run (.colourTable .office 0 7 0 7 0 7 0 7) State.reset).bag.colours = #v[7, 0, 7, 0, 7, 0, 7] := by decide

theorem test_meets_DateColoursAndClipsAreReplaced_clips :
    (withTyer .ready 201 none).bag.lowThreshold < (withTyer .ready 201 none).bag.magazine
      ∧ (run (.clipReload .bagger 0 200) (withTyer .ready 201 none)).bag.magazine = 200
      ∧ (run (.clipReload .bagger 0 65535) State.reset).held .clipEmpty = false
      ∧ (run (.clipConfig .office 0 65535 500) (withTyer .ready 201 none)).bag.lowThreshold = 65535
      ∧ (run (.clipConfig .office 0 0 20) State.reset).bag.tieTimeout = 20 := by decide

/-- Values out of range, one of each field. -/
theorem test_meets_DateColoursAndClipsAreReplaced_refusals :
    [Instr.dateSet .office 0 0 0 0 0, .dateSet .office 0 367 0 0 1, .dateSet .office 0 1 10 0 0, .dateSet .office 0 1 0 7 0,
        .dateSet .office 0 1 0 0 2, .dateSet .office 0 366 9 6 0, .colourTable .office 0 8 0 0 0 0 0 0,
        .colourTable .office 0 0 0 0 0 0 0 8, .clipConfig .office 0 65536 20, .clipConfig .office 0 0 19,
        .clipConfig .office 0 0 501].all (fun c =>
      decide (((run c State.reset).port .office).response.map Response.result = some 5)) = true
      ∧ ((run (.clipReload .bagger 0 65536) State.reset).port .bagger).response.map Response.result = some 5 := by decide

theorem test_meets_TieFiresFollowR122 :
    ((withTyer .ready 1 none).bag.tyer = .ready ∧ 0 < (withTyer .ready 1 none).bag.magazine)
      ∧ (State.reset.bag.tyer = .ready ∧ State.reset.bag.magazine = 0)
      ∧ (withTyer .firing 1 (some ⟨1, true, 9⟩)).bag.tyer = .firing ∧ (withTyer .fault 1 none).bag.tyer = .fault := by decide

/-- An advance of H that reaches one of two pending ties, and no record due. -/
theorem test_meets_TieFiresFollowR122_advance :
    let s := withLoaves (chained.setBag { chained.bag with magazine := 1, pendingTies := [⟨2, 1⟩, ⟨1, 2⟩] }) [loaf 2 .tying, loaf 1 .tying];
    (Quad.q10 = nextQuad s.pos.lines ∧ s.pos.x = 0 ∧ (s.bag.pendingTies.map PendingTie.tag).Nodup
        ∧ (∀ r ∈ s.queue.records, s.outcomeAt (s.pos.p + 1) r = none) ∧ s.bag.pendingTies = [] ++ ⟨2, 1⟩ :: [⟨1, 2⟩]
        ∧ ((1 : Pos) - (s.pos.p + 1)).toInt ≤ 0 ∧ 0 < ((2 : Pos) - (s.pos.p + 1)).toInt)
      ∧ (run (.encoderStep .q10) s).bag.pendingTies = [⟨1, 2⟩] ∧ (run (.encoderStep .q10) s).bag.tyer = .firing := by decide

theorem test_meets_TyerEndsFollowTheRules :
    ((withTyer .firing 1 (some ⟨1, true, 9⟩)).bag.tyer = .firing
        ∧ (withTyer .firing 1 (some ⟨1, true, 9⟩)).bag.tieInFlight = some ⟨1, true, 9⟩)
      ∧ (withTyer .firing 1 (some ⟨1, false, 9⟩)).bag.tieInFlight = some ⟨1, false, 9⟩
      ∧ State.reset.bag.tyer ≠ .firing ∧ (withTyer .fault 1 none).bag.tyer = .fault ∧ State.reset.bag.tyer ≠ .fault := by decide

theorem test_meets_PulsesAndAccumulatorsEnd_pulses :
    (State.reset.setGate .reject (.driven 5)).queue.gate .reject = .driven 5
      ∧ (State.reset.setGate .exit (.driven 5)).queue.gate .exit = .driven 5
      ∧ (State.reset.setBag { State.reset.bag with fireLine := .driven 5 }).bag.fireLine = .driven 5 ∧ Gate.exit ≠ .reject := by decide

theorem test_meets_OccupancyBlastsAndCrumbRequests :
    ((run (.crumbConfig .office 0 0 1 65535) State.reset).zone .z0).hard = 65535
      ∧ 40000 ≤ ((withLoad 40000 none).zone .z0).load ∧ ((withLoad 19999 none).zone .z0).load < 20000
      ∧ Port.bagger ≠ .slicer ∧ ((withLoad 0 none).zone .z0).fitted = true ∧ ((withLoad 0 none).zone .z1).fitted = false
      ∧ (((withLoad 0 none).zone .z0).manualClear = false ∧ ((withLoad 0 none).zone .z0).blastEnd = none
        ∧ (withLoad 0 none).occupant .z0 = none ∧ (withLoad 0 none).bar .z0 = some ⟨10500, 900, 120, 192⟩)
      ∧ ((withLoad 0 (some 9)).zone .z0).blastEnd ≠ none := by decide

/-- Thresholds and zones that are refused, and a blast that new thresholds start or do not; a clear already pending. -/
theorem test_meets_CrumbRequests_refusals :
    let result := fun c => ((run c (withLoad 9 none)).port .office).response.map Response.result
    let pending := (withLoad 9 none).setZone .z0 { (withLoad 9 none).zone .z0 with manualClear := true };
    [Instr.crumbConfig .office 0 2 1 2, .crumbConfig .office 0 0 0 2, .crumbConfig .office 0 0 65535 65535, .crumbConfig .office 0 0 1 1,
        .crumbConfig .office 0 0 1 65536, .crumbClear .office 0 2].all (fun c => decide (result c = some 5)) = true
      ∧ result (.crumbConfig .office 0 0 65534 65535) = some 0 ∧ result (.crumbConfig .office 0 1 1 2) = some 0
      ∧ ((run (.crumbConfig .office 0 0 9 65535) (withLoad 9 none)).zone .z0).blastEnd = some 120
      ∧ ((run (.crumbConfig .office 0 0 10 65535) (withLoad 9 none)).zone .z0).blastEnd = none
      ∧ ((pending.zone .z0).fitted = true ∧ (pending.zone .z0).manualClear = true) := by decide

/-- An unfitted zone; a fitted one with its bar, and the records that occupy it or not at the ends of the span (08, 8.4). -/
theorem test_meets_Occupancy :
    let r := { loaf 200 .toBag with reference := 500000, plan := some ⟨3300, 4122, 33, 2, 594⟩ }
    let at_ := fun h => (withLoaves (withLoad 9 none) [{ r with tag := 1, reference := 100 }, r]).setPos { chained.pos with h := h, v := 2560 };
    ((at_ 508400).zone .z1).fitted = false ∧ (at_ 508400).bar .z0 = some ⟨10500, 900, 120, 192⟩
      ∧ (at_ 508400).occupant .z0 = some r ∧ (at_ 508399).occupant .z0 = none ∧ (at_ 514700).occupant .z0 = some r
      ∧ (at_ 514701).occupant .z0 = none
      ∧ (withLoaves (at_ 508400) [{ r with plan := none }]).occupant .z0 ≠ none
      ∧ (Quad.q10 = nextQuad (withLoad 9 none).pos.lines ∧ (withLoad 9 none).pos.x = 0) ∧ ((withLoad 9 (some 3)).zone .z0).blastEnd ≠ none
      ∧ (nextQuad .q01 = (withX 2147483647).pos.lines ∧ (withX 2147483647).pos.x = 2147483647) := by
  decide

theorem test_meets_BlastEndReducesTheLoad :
    ((withLoad 20294 (some 120)).zone .z0).blastEnd = some 120 ∧ (withLoad 20294 (some 120)).bar .z0 = some ⟨10500, 900, 120, 192⟩
      ∧ ((run (.blastEnd .z0) (withLoad 20294 (some 120))).zone .z0).load = 5074
      ∧ ((run (.blastEnd .z0) (withLoad 20294 (some 120))).zone .z0).blastEnd = none
      ∧ (((withLoad 65535 (some 120)).zone .z0).fitted = true ∧ (withLoad 65535 (some 120)).occupant .z0 = none)
      ∧ (let owed := (withLoad 9 (some 120)).setZone .z0 { (withLoad 9 (some 120)).zone .z0 with purgeOwed := true };
          (owed.zone .z0).purgeOwed = true ∧ ((run (.blastEnd .z0) owed).zone .z0).blastEnd = some 240)
      ∧ (withLoaves (withLoad 20294 (some 120)) [{ loaf 1 .toSlicer with reference := -10500 }]).occupant .z0 ≠ none := by decide

theorem test_meets_PulsesAndAccumulatorsEnd_seconds :
    (inLine State.reset .running (some 5)).line.state = .running ∧ (inLine State.reset .idle none).line.state = .idle
      ∧ State.reset.line.state = .stopped ∧ State.reset.totals.runMs < 1000 ∧ State.reset.line.holds ≠ 0
      ∧ (State.reset.setTotals { State.reset.totals with stoppedMs := 999 }).totals.stoppedMs < 1000
      ∧ (inLine State.reset .idle none).line.state ≠ .stopped := by decide

theorem test_meets_ShiftCloseAndFormat :
    State.reset.store.state ≠ .writing ∧ (writingAt .erase 1).store.state = .writing
      ∧ (State.reset.setStore { State.reset.store with state := .faulted }).store.state = .faulted
      ∧ State.reset.store.current = none
      ∧ ((withBanks (bankOf 4294967295) .initial).setStore
          { (withBanks (bankOf 4294967295) .initial).store with current := some .a, state := .ready }).store.currentSeq
        = some 4294967295 := by decide

theorem test_meets_StoreWriteSteps :
    (writingAt .erase 1).store.write ≠ none ∧ (writingAt .program 1).store.write ≠ none ∧ (writingAt .verify 1).store.write ≠ none
      ∧ (writingAt .verify 2).store.write ≠ none ∧ (writingAt .stateWord 1).store.write ≠ none
      ∧ (runAll [.shiftClose .office 0, .storeEraseDone, .storeProgramDone, .storeVerifyDone true, .storeStateWordDone]
          State.reset).store.current = some .a := by decide

theorem test_meets_ReadsFindWhatTheyName_totals :
    (1 ≤ (State.reset.totals.openShift.products.length + 2) / 2 ∧ State.reset.totals.buffer = none)
      ∧ (run (.shiftClose .office 0) State.reset).totals.buffer = some (ShiftRecord.opened 1 0)
      ∧ ((runAll [.shiftClose .office 0, .storeEraseDone, .storeProgramDone, .storeVerifyDone true, .storeStateWordDone]
          State.reset).store.currentRecords.find? fun x => decide (x.number = 1)) = some (ShiftRecord.opened 1 0)
      ∧ ∀ x ∈ State.reset.store.currentRecords, x.number ≠ 1 := by decide

/-- Pages past the last, a selector and pages out of range, and a shift that is not held. -/
theorem test_meets_ReadsFindWhatTheyName_refusals :
    let s := runAll [.shiftClose .office 0, .storeEraseDone, .storeProgramDone, .storeVerifyDone true, .storeStateWordDone] State.reset
    let result := fun c => ((run c s).port .office).response.map Response.result;
    [Instr.totalsRead .office 0 2 0, .totalsRead .office 0 0 14, .storeRead .office 0 0 0, .storeRead .office 0 65536 0,
        .storeRead .office 0 1 14].all (fun c => decide (result c = some 5)) = true
      ∧ [Instr.totalsRead .office 0 0 2, .totalsRead .office 0 1 2, .storeRead .office 0 1 2, .storeRead .office 0 2 0].all (fun c =>
          decide (result c = result (.trackRead .office 0 1 0))) = true
      ∧ [Instr.totalsRead .office 0 0 0, .totalsRead .office 0 0 1, .totalsRead .office 0 1 0, .totalsRead .office 0 1 1,
          .storeRead .office 0 1 0, .storeRead .office 0 1 1].all (fun c => decide (result c = some 0)) = true
      ∧ (s.store.current = some .a ∧ State.reset.store.current = none ∧ State.reset.totals.buffer = none) := by decide

theorem test_meets_LinkFollowsTheRules :
    ((answered.port .office).response.map fun r => 5 + r.body.length) = some 32 ∧ (answered.port .office).frame = .idle
      ∧ ((answered.port .slicer).response = none ∧ (answered.port .slicer).frame = .idle)
      ∧ (((run (.frameRefused .slicer [14, 7] false) State.reset).port .slicer).frame = .receiving [14, 7]
        ∧ [(14 : Byte), 7].head? ≠ some 0)
      ∧ ((runAll [.frameRefused .slicer [14, 7] false, .fetch .slicer 5] State.reset).port .slicer).dataOut = [0, 14, 7, 2, 0]
      ∧ (1 : Set16) &&& ~~~(noticePositions .slicer) = 0 ∧ (32768 : Set16) &&& ~~~(noticePositions .slicer) ≠ 0 := by decide

theorem test_meets_FramesFollowR171 :
    ((State.reset.port .slicer).link = .listening ∧ (State.reset.port .slicer).frame = .idle)
      ∧ State.reset.frameBytes .slicer [14, 7, 61] = [14, 7, 61] ∧ State.reset.frameBytes .slicer [14] = [14]
      ∧ (run (.frameRefused .slicer [14, 7] false) State.reset).frameBytes .slicer [2, 0] = [14, 7, 2, 0]
      ∧ State.reset.frameBytes .slicer [41, 7, 0] = [41, 7, 0]
      ∧ (RequestKind.permitted .bagNext .slicer = false ∧ RequestKind.code .bagNext = 24)
      ∧ (RequestKind.permitted .select .slicer = true ∧ RequestKind.bodyLength .select ≠ 2 ∧ RequestKind.code .select = 14)
      ∧ (requestOf (.select .slicer 7 2) = some ⟨.select, .slicer, 7⟩ ∧ (Instr.select .slicer 7 2).wellFormed = true
        ∧ State.reset.frameBytes .slicer [14, 7, 1, 2] = requestFrame ⟨.select, .slicer, 7⟩ (bodyOf (.select .slicer 7 2)))
      ∧ (((run (.frameRefused .slicer [41, 7, 0] false) State.reset).port .slicer).link = .judged
        ∧ ((run (.frameRefused .slicer [41, 7, 0] false) State.reset).port .slicer).frame = .idle) := by decide

theorem test_meets_ForbiddenPortsAreRefused :
    requestOf (.bagNext .slicer 1) = some ⟨.bagNext, .slicer, 1⟩ ∧ RequestKind.permitted .bagNext .slicer = false := by decide

/-- The state of a started line with one record in it, its slot ACTIVE and the first loaf counted. -/
def started : State :=
  let s := (withLoaves (inLine (chained.setSlot 2 (slotIn .active 1)) .running (some 5)) [loaf 1 .toBag])
  s.setTotals { s.totals with openShift := { s.totals.openShift with created := 1 } }

theorem test_meets_OutputsFollow : OutputsFollow started := by
  refine ⟨by decide, fun p => ?_, fun z => ?_⟩
  · cases p <;> decide
  · cases z <;> decide

theorem test_meets_NoticesNameKinds : NoticesNameKinds started := by
  intro p; cases p <;> decide

theorem test_meets_TimersFollow : TimersFollow started := by unfold TimersFollow; decide

theorem test_meets_TyerHoldsFollow : TyerHoldsFollow started := by unfold TyerHoldsFollow; decide

theorem test_meets_PositionsAgree : PositionsAgree started := by unfold PositionsAgree; decide

theorem test_meets_TagsDistinct : TagsDistinct started := by unfold TagsDistinct; decide

theorem test_meets_LinkFollows : LinkFollows started ∧ LinkFollows (run (.frameRefused .slicer [14, 7] false) started) := by
  refine ⟨fun p => ?_, fun p => ?_⟩ <;> cases p
  case refine_2.slicer => exact ⟨by decide, by decide, fun bytes h => by cases h; decide⟩
  all_goals exact ⟨by decide, by decide, fun bytes h => by cases h⟩

theorem test_meets_RecipeLaw : RecipeLaw started := by
  refine ⟨by decide, fun x h => ?_, by decide⟩
  cases h

theorem test_meets_InFlightCounts : InFlightCounts started := by unfold InFlightCounts; decide

theorem test_meets_ShiftBalances : ShiftBalances started := ⟨by decide, .inr (by decide)⟩

theorem test_meets_StoreLaw : StoreLaw (writingAt .erase 1) := by
  refine ⟨by decide, ?_, ?_, ?_, ?_⟩
  · intro w h
    cases h
    exact ⟨by decide, by decide, by decide, by decide, by decide⟩
  · intro i h; cases h
  · intro i; cases i <;> unfold Bank.inRange <;> decide
  · intro i h; cases i <;> cases h

theorem test_meets_UnfittedAtRest : UnfittedAtRest started := by
  intro z h; cases z <;> decide

/-- The other premise of every invariant: a step that answers a next state. -/
theorem test_meets_step :
    step (started.setPending [.tyerDone]) = .next started ∧ step (writingAt .erase 1) = .next (writingAt .erase 1).tick :=
  ⟨by rfl, by rfl⟩

end Sys2Proof.Tests
end

section
/-! SUPPORT. The family of line position and the eyes (01): the encoder's steps as the table of R3 gives them, the law of the reverse
excursion, what the three resets make of the Position Unit, and LINE_CONFIG with its conditions and ranges. -/

namespace Sys2Proof.Machine

variable (s : State)

/-! ## The encoder's three cases (R1) -/

/-- The forward cycle has no two states each of which follows the other, so a forward and a reverse step exclude each other. -/
theorem ne_nextQuad_of_nextQuad_eq {q l : Quad} (h : nextQuad q = l) : q ≠ nextQuad l := by
  subst h; cases q <;> decide

theorem encoder_forward (q : Quad) (h : q = nextQuad s.pos.lines) : s.encoder q = (s.takeLines q).stepForward := if_pos h

theorem encoder_reverse (q : Quad) (h : nextQuad q = s.pos.lines) : s.encoder q = (s.takeLines q).stepReverse :=
  (if_neg (ne_nextQuad_of_nextQuad_eq h)).trans (if_pos h.symm)

theorem encoder_noStep (q : Quad) (forward : q ≠ nextQuad s.pos.lines) (reverse : nextQuad q ≠ s.pos.lines) :
    s.encoder q = s.takeLines q :=
  (if_neg forward).trans (if_neg reverse.symm)

/-! ## The four rows of the table (R3) -/

/-- With no excursion a forward step advances H; what the watchers of H then do reaches no part of the Position Unit. -/
theorem stepForward_pos_atH (h : s.pos.x = 0) :
    s.stepForward.pos = { s.pos with p := s.pos.p + 1, h := s.pos.p + 1 } := by
  rw [State.stepForward, if_pos h]
  exact advanced_frame _ .pos (by decide)

theorem stepForward_behindH (h : 0 < s.pos.x) :
    s.stepForward = s.setPos { s.pos with p := s.pos.p + 1, x := s.pos.x - 1 } := if_neg (Nat.ne_of_gt h)

theorem stepReverse_belowLimit (h : s.pos.x < excursionLimit) :
    s.stepReverse = s.setPos { s.pos with p := s.pos.p - 1, x := s.pos.x + 1 } := if_pos h

theorem stepReverse_atLimit (h : excursionLimit ≤ s.pos.x) :
    s.stepReverse = s.setPos { s.pos with p := s.pos.p - 1, h := s.pos.h - 1 } := if_neg (Nat.not_lt.mpr h)

/-! ## The reverse excursion (R3, R4) -/

/-- X is H − P as a signed difference, and does not exceed its limit. -/
def PositionUnit.ExcursionLaw (u : PositionUnit) : Prop := (u.h - u.p).toInt = (u.x : Int) ∧ u.x ≤ excursionLimit

theorem toInt_sub_succ {h p : Pos} {x : Nat} (law : (h - p).toInt = (x : Int)) (pos : 0 < x) :
    (h - (p + 1)).toInt = ((x - 1 : Nat) : Int) := by
  simp only [BitVec.toInt_eq_toNat_cond] at law ⊢
  bv_omega

theorem toInt_sub_pred {h p : Pos} {x : Nat} (law : (h - p).toInt = (x : Int)) (lt : x < excursionLimit) :
    (h - (p - 1)).toInt = ((x + 1 : Nat) : Int) := by
  unfold excursionLimit at lt
  simp only [BitVec.toInt_eq_toNat_cond] at law ⊢
  bv_omega

/-- A forward step keeps the law: with no excursion P and H meet at P + 1, with one X falls as P rises. -/
theorem stepForward_excursionLaw (law : s.pos.ExcursionLaw) : s.stepForward.pos.ExcursionLaw := by
  obtain ⟨diff, limit⟩ := law
  rcases Nat.eq_zero_or_pos s.pos.x with atH | behind
  · rw [stepForward_pos_atH s atH]
    exact ⟨by simp [atH], limit⟩
  · rw [stepForward_behindH s behind]
    exact ⟨toInt_sub_succ diff behind, (Nat.sub_le _ _).trans limit⟩

/-- A reverse step keeps the law: below the limit X rises as P falls, at the limit H falls with P. -/
theorem stepReverse_excursionLaw (law : s.pos.ExcursionLaw) : s.stepReverse.pos.ExcursionLaw := by
  obtain ⟨diff, limit⟩ := law
  rcases Nat.lt_or_ge s.pos.x excursionLimit with below | atLimit
  · rw [stepReverse_belowLimit s below]
    exact ⟨toInt_sub_pred diff below, below⟩
  · rw [stepReverse_atLimit s atLimit]
    have shift : s.pos.h - 1 - (s.pos.p - 1) = s.pos.h - s.pos.p := by bv_omega
    exact ⟨(congrArg BitVec.toInt shift).trans diff, limit⟩

/-- Whatever state the lines take, the excursion stays H − P. -/
theorem encoder_excursionLaw (q : Quad) (law : s.pos.ExcursionLaw) : (s.encoder q).pos.ExcursionLaw := by
  by_cases forward : q = nextQuad s.pos.lines
  · rw [encoder_forward s q forward]
    exact stepForward_excursionLaw _ law
  by_cases reverse : nextQuad q = s.pos.lines
  · rw [encoder_reverse s q reverse]
    exact stepReverse_excursionLaw _ law
  · rw [encoder_noStep s q forward reverse]
    exact law

/-! ## The Position Unit over the resets -/

theorem stopLine_frame : OnlyTouches [.line, .crumb] s s.stopLine :=
  ((setLineState_frame s _ _).within rfl).andThen (dropPurges_frame _) rfl

theorem flushQueue_frame : OnlyTouches queueParts s s.flushQueue :=
  ((OnlyTouches.foldl _ (fun t r => leave_frame t r .flushed) _ s).andThen (setGate_frame _ _ _) rfl).andThen
    (setGate_frame _ _ _) rfl

theorem resetLine_frame : OnlyTouches queueParts s s.resetLine :=
  (((((((stopLine_frame s).within rfl).trans (flushQueue_frame _)).andThen (setSelection_frame _ _) rfl).andThen
    (suspendSchedule_frame _) rfl).andThen (setBag_frame _ _) rfl).andThen
    (cutBlast_frame _ .z0) rfl).andThen (cutBlast_frame _ .z1) rfl

/-- LINE_RESET, taken or refused, leaves the Position Unit as it is (R3, R14). -/
theorem exec_lineReset_pos (p : Port) (seq : Byte) : ∃ t, exec (.lineReset p seq) s = .next t ∧ t.pos = s.pos :=
  ⟨_, rfl, answer_frame s .lineReset p seq (lineResetReply s) (resetLine_frame s) (by decide) .pos (by decide)⟩

/-- PORT_RESET leaves the Position Unit as it is (R3, R14). -/
theorem exec_portReset_pos (p : Port) : ∃ t, exec (.portReset p) s = .next t ∧ t.pos = s.pos :=
  ⟨_, rfl, setPort_frame s p _ .pos (by decide)⟩

/-- POWER_ON_RESET gives the Position Unit its power-on values, with the lines and eyes sampled (R1, R13). -/
theorem exec_powerOnReset_pos (lines : Quad) (eyes : EyeLevels) :
    ∃ t, exec (.powerOnReset lines eyes) s = .next t ∧ t.pos = .atPowerOn lines eyes := ⟨_, rfl, rfl⟩

/-! ## R3 -/

theorem exec_encoderStep (q : Quad) : exec (.encoderStep q) s = .next (s.encoder q) := rfl

/-- Settles O6: each row of the table through the lemma of its step, X = H − P through the excursion law. -/
theorem encoderStepFollowsR3 : Obligations.EncoderStepFollowsR3 := by
  refine ⟨⟨?forwardAtH, ?forwardBehindH, ?reverseBelow, ?reverseAtLimit, ?difference, ?powerOn, ?lineReset, ?portReset⟩,
    ?noStep⟩
  case forwardAtH =>
    intro s q forward atH
    exact ⟨_, exec_encoderStep s q, by rw [encoder_forward s q forward]; exact stepForward_pos_atH (s.takeLines q) atH⟩
  case forwardBehindH =>
    intro s q forward behind
    rw [exec_encoderStep, encoder_forward s q forward, stepForward_behindH (s.takeLines q) behind]
    rfl
  case reverseBelow =>
    intro s q reverse below
    rw [exec_encoderStep, encoder_reverse s q reverse, stepReverse_belowLimit (s.takeLines q) below]
    rfl
  case reverseAtLimit =>
    intro s q reverse atLimit
    refine ⟨_, exec_encoderStep s q, ?_⟩
    rw [encoder_reverse s q reverse, stepReverse_atLimit (s.takeLines q) atLimit.ge]
    rfl
  case difference =>
    intro s t q diff limit run
    cases run
    exact encoder_excursionLaw s q ⟨diff, limit⟩
  case powerOn =>
    intro s lines eyes
    obtain ⟨t, run, pos⟩ := exec_powerOnReset_pos s lines eyes
    exact ⟨t, run, by rw [pos]; exact ⟨rfl, rfl⟩⟩
  case lineReset =>
    intro s p seq
    obtain ⟨t, run, pos⟩ := exec_lineReset_pos s p seq
    exact ⟨t, run, by rw [pos]; exact ⟨rfl, rfl⟩⟩
  case portReset =>
    intro s p
    obtain ⟨t, run, pos⟩ := exec_portReset_pos s p
    exact ⟨t, run, by rw [pos]; exact ⟨rfl, rfl⟩⟩
  case noStep =>
    intro s q forward reverse
    rw [exec_encoderStep, encoder_noStep s q forward reverse]
    rfl

/-! ## LINE_CONFIG -/

/-- LINE_CONFIG and the chain's edits ask for a STOPPED line with no record in the queue (R14, R19, R20). -/
theorem editable_iff : s.editable = true ↔ s.line.state = .stopped ∧ s.queue.records = [] := by
  simp [State.editable, State.queueCount]

theorem LineConfig.inRange_iff (c : LineConfig) :
    c.inRange = true ↔ (20 ≤ c.pitch ∧ c.pitch ≤ 2000) ∧ c.offset ≤ 50 ∧ c.filterTime ≤ 20
      ∧ (10 ≤ c.idleTime ∧ c.idleTime ≤ 3600) := by
  simp [LineConfig.inRange, and_assoc]

theorem lineConfigReply_taken (c : LineConfig) (edit : s.editable = true) (range : c.inRange = true) :
    lineConfigReply c s = { state := s.setConfig c, result := .ok, body := c.bytes } := by
  simp [lineConfigReply, edit, range]

theorem lineConfigReply_lineState (c : LineConfig) (edit : ¬ s.editable = true) :
    lineConfigReply c s = { state := s, result := .lineState, body := s.pos.config.bytes } := by
  simp [lineConfigReply, edit]

theorem lineConfigReply_outOfRange (c : LineConfig) (edit : s.editable = true) (range : ¬ c.inRange = true) :
    lineConfigReply c s = { state := s, result := .outOfRange, body := s.pos.config.bytes } := by
  simp [lineConfigReply, edit, range]

/-- The office's LINE_CONFIG is answered with the block's reply, under kind 5. -/
theorem exec_lineConfig_office (seq : Byte) (pitch offset filterTime idleTime : Nat) (r : Reply)
    (reply : lineConfigReply ⟨pitch, offset, filterTime, idleTime⟩ s = r) :
    exec (.lineConfig .office seq pitch offset filterTime idleTime) s =
      .next (r.state.respond .office 5 seq r.result r.body) := by
  subst reply
  exact congrArg Host.Outcome.next (answer_permitted s .lineConfig .office seq _ rfl)

/-- LINE_CONFIG reaches no block from another port (R171, 11.7). -/
theorem exec_lineConfig_notOffice (p : Port) (seq : Byte) (pitch offset filterTime idleTime : Nat) (h : p ≠ .office) :
    exec (.lineConfig p seq pitch offset filterTime idleTime) s = .next (s.respond p 5 seq .notPermitted []) := by
  have forbidden : RequestKind.lineConfig.permitted p = false := by
    cases p with
    | slicer => rfl
    | bagger => rfl
    | office => exact absurd rfl h
  exact congrArg Host.Outcome.next (answer_notPermitted s .lineConfig p seq _ forbidden)

/-- Settles O9: one case per reply of the Position Unit, and the resets through the Position Unit as they leave it. -/
theorem lineConfigFollowsR14 : Obligations.LineConfigFollowsR14 := by
  refine ⟨fun s seq pitch offset filterTime idleTime => ⟨?taken, ?lineState, ?outOfRange, ?otherPort⟩, ?powerOn, ?lineReset,
    ?portReset⟩
  case taken =>
    intro edit range
    exact exec_lineConfig_office s seq _ _ _ _ _
      (lineConfigReply_taken s _ ((editable_iff s).mpr edit) ((LineConfig.inRange_iff _).mpr range))
  case lineState =>
    intro edit
    exact exec_lineConfig_office s seq _ _ _ _ _ (lineConfigReply_lineState s _ (mt (editable_iff s).mp edit))
  case outOfRange =>
    intro edit range
    exact exec_lineConfig_office s seq _ _ _ _ _
      (lineConfigReply_outOfRange s _ ((editable_iff s).mpr edit) (mt (LineConfig.inRange_iff _).mp range))
  case otherPort =>
    intro p h
    exact exec_lineConfig_notOffice s p seq _ _ _ _ h
  case powerOn =>
    intro s lines eyes
    obtain ⟨t, run, pos⟩ := exec_powerOnReset_pos s lines eyes
    exact ⟨t, run, by rw [pos]; rfl⟩
  case lineReset =>
    intro s p seq
    obtain ⟨t, run, pos⟩ := exec_lineReset_pos s p seq
    exact ⟨t, run, by rw [pos]⟩
  case portReset =>
    intro s p
    obtain ⟨t, run, pos⟩ := exec_portReset_pos s p
    exact ⟨t, run, by rw [pos]⟩

end Sys2Proof.Machine
end

section
/-! SUPPORT. The family of the station chain (02): what the unfitting of a zone makes of its state and of the hold set, what an edit of
the chain so does to both zones and the line, and CHAIN_HEAD with its condition and range. -/

namespace Sys2Proof.Machine

variable (s : State)

/-! ## A zone unfitted (R129) -/

/-- What unfitting leaves of a zone: a fitted one is emptied and put to rest, an unfitted one is left as it stands. -/
def ZoneState.unfitted (x : ZoneState) : ZoneState :=
  if x.fitted then { x.rest with fitted := false, load := 0, manualClear := false, purgeOwed := false } else x

theorem ZoneState.unfitted_of_fitted {x : ZoneState} (h : x.fitted = true) :
    x.unfitted = { x.rest with fitted := false, load := 0, manualClear := false, purgeOwed := false } := if_pos h

theorem ZoneState.unfitted_of_not_fitted {x : ZoneState} (h : x.fitted = false) : x.unfitted = x := by
  simp [ZoneState.unfitted, h]

/-- Unfitting ends in an unfitted zone and keeps the thresholds. -/
theorem ZoneState.unfitted_keeps (x : ZoneState) :
    x.unfitted.fitted = false ∧ x.unfitted.soft = x.soft ∧ x.unfitted.hard = x.hard := by
  cases h : x.fitted with
  | false => rw [unfitted_of_not_fitted h]; exact ⟨h, rfl, rfl⟩
  | true => rw [unfitted_of_fitted h]; exact ⟨rfl, rfl, rfl⟩

theorem zone_releaseHold (r : HoldReason) (w : Zone) : (s.releaseHold r).zone w = s.zone w :=
  congrArg (fun c : CrumbUnit => c.get w) (releaseHold_frame s r .crumb (by decide))

theorem unfitZone_of_fitted (z : Zone) (h : (s.zone z).fitted = true) :
    s.unfitZone z = (s.setZone z (s.zone z).unfitted).releaseHold (fullReason z) := by
  rw [ZoneState.unfitted_of_fitted h]; exact if_pos h

theorem unfitZone_of_not_fitted (z : Zone) (h : (s.zone z).fitted = false) : s.unfitZone z = s := by
  simp [State.unfitZone, h]

theorem zone_unfitZone_self (z : Zone) : (s.unfitZone z).zone z = (s.zone z).unfitted := by
  cases h : (s.zone z).fitted with
  | false => rw [unfitZone_of_not_fitted s z h, ZoneState.unfitted_of_not_fitted h]
  | true => rw [unfitZone_of_fitted s z h, zone_releaseHold, zone_setZone_self]

theorem zone_unfitZone_of_ne (z w : Zone) (ne : w ≠ z) : (s.unfitZone z).zone w = s.zone w := by
  cases h : (s.zone z).fitted with
  | false => rw [unfitZone_of_not_fitted s z h]
  | true => rw [unfitZone_of_fitted s z h, zone_releaseHold, zone_setZone_of_ne s z w _ ne]

/-- Unfitting releases CRUMB_FULL of a zone that was fitted, and no other reason. -/
theorem held_unfitZone (z : Zone) (r : HoldReason) :
    (s.unfitZone z).held r = (!((s.zone z).fitted && decide (fullReason z = r)) && s.held r) := by
  cases h : (s.zone z).fitted with
  | false => rw [unfitZone_of_not_fitted s z h]; simp
  | true => rw [unfitZone_of_fitted s z h, held_releaseHold]; simp [State.held]

/-- A release judges the permit, which a STOPPED line does not drive (R150). -/
theorem releaseHold_permit_stopped (r : HoldReason) (stopped : s.line.state = .stopped)
    (driven : (s.releaseHold r).line.permit = .driven) : s.line.permit = .driven := by
  unfold State.releaseHold at driven
  split at driven
  · rw [changeHolds_line] at driven
    exact absurd stopped ((permitOf_driven _ _).mp driven).1
  · exact driven

/-- What unfitting a zone leaves of the line besides the hold set. -/
theorem unfitZone_line (z : Zone) :
    (s.unfitZone z).line.state = s.line.state ∧ (s.unfitZone z).line.idleTimer = s.line.idleTimer
      ∧ (s.line.state = .stopped → (s.unfitZone z).line.permit = .driven → s.line.permit = .driven) := by
  cases h : (s.zone z).fitted with
  | false => rw [unfitZone_of_not_fitted s z h]; exact ⟨rfl, rfl, fun _ driven => driven⟩
  | true =>
    rw [unfitZone_of_fitted s z h]
    exact ⟨releaseHold_line_state _ _, releaseHold_idleTimer _ _, releaseHold_permit_stopped (s.setZone z _) _⟩

/-! ## An edit of the chain (R18, R129) -/

theorem chainEdited_frame (c : StationChain) : OnlyTouches [.chain, .crumb, .line, .ports] s (s.chainEdited c) :=
  (((setChain_frame s _).within rfl).andThen (unfitZone_frame _ .z0) rfl).andThen (unfitZone_frame _ .z1) rfl

/-- Unfitting reaches no part of the chain, so an edit leaves it as written and UNVALIDATED. -/
theorem chainEdited_chain (c : StationChain) : (s.chainEdited c).chain = { c with state := .unvalidated } := by
  unfold State.chainEdited
  rw [unfitZone_frame _ .z1 .chain (by decide), unfitZone_frame _ .z0 .chain (by decide), setChain_chain]

theorem zone_chainEdited (c : StationChain) (z : Zone) : (s.chainEdited c).zone z = (s.zone z).unfitted := by
  unfold State.chainEdited
  cases z with
  | z0 => rw [zone_unfitZone_of_ne _ .z1 .z0 (by decide), zone_unfitZone_self]; rfl
  | z1 => rw [zone_unfitZone_self, zone_unfitZone_of_ne _ .z0 .z1 (by decide)]; rfl

/-- An edit releases CRUMB_FULL of each zone that was fitted, and no other reason. -/
theorem held_chainEdited (c : StationChain) (r : HoldReason) :
    (s.chainEdited c).held r =
      (!((s.zone .z1).fitted && decide (fullReason .z1 = r))
        && (!((s.zone .z0).fitted && decide (fullReason .z0 = r)) && s.held r)) := by
  unfold State.chainEdited
  rw [held_unfitZone, held_unfitZone, zone_unfitZone_of_ne _ .z0 .z1 (by decide)]
  rfl

theorem held_chainEdited_full (c : StationChain) (z : Zone) :
    (s.chainEdited c).held (fullReason z) = (!(s.zone z).fitted && s.held (fullReason z)) := by
  rw [held_chainEdited]
  cases z <;> simp [fullReason]

theorem held_chainEdited_of_ne (c : StationChain) (r : HoldReason) (ne : ∀ z, r ≠ fullReason z) :
    (s.chainEdited c).held r = s.held r := by
  rw [held_chainEdited]
  simp [(ne _).symm]

theorem chainEdited_line (c : StationChain) :
    (s.chainEdited c).line.state = s.line.state ∧ (s.chainEdited c).line.idleTimer = s.line.idleTimer
      ∧ (s.line.state = .stopped → (s.chainEdited c).line.permit = .driven → s.line.permit = .driven) := by
  obtain ⟨state0, timer0, permit0⟩ := unfitZone_line (s.setChain { c with state := .unvalidated }) .z0
  obtain ⟨state1, timer1, permit1⟩ := unfitZone_line ((s.setChain { c with state := .unvalidated }).unfitZone .z0) .z1
  exact ⟨state1.trans state0, timer1.trans timer0,
    fun stopped driven => permit0 stopped (permit1 (state0.trans stopped) driven)⟩

/-- A chain edit unfits the zones as R129 has it, whatever it writes. -/
theorem chainEdited_unfits (c : StationChain) : UnfittedByEdit s (s.chainEdited c) := by
  refine ⟨?keeps, ?emptied, ?untouched, held_chainEdited_of_ne s c, chainEdited_line s c⟩
  case keeps =>
    intro z
    rw [zone_chainEdited]
    exact (s.zone z).unfitted_keeps
  case emptied =>
    intro z fitted
    rw [zone_chainEdited, held_chainEdited_full, ZoneState.unfitted_of_fitted fitted, fitted]
    exact ⟨rfl, rfl, rfl, rfl, rfl, rfl⟩
  case untouched =>
    intro z unfitted
    rw [zone_chainEdited, held_chainEdited_full, ZoneState.unfitted_of_not_fitted unfitted, unfitted]
    exact ⟨rfl, rfl⟩

/-- An answer reaches no zone and nothing of the line. -/
theorem UnfittedByEdit.respond {s t : State} (h : UnfittedByEdit s t) (p : Port) (kind seq : Byte) (result : ResultCode)
    (body : List Byte) : UnfittedByEdit s (t.respond p kind seq result body) := h

/-! ## CHAIN_HEAD -/

theorem permitted_office_only {k : RequestKind} {p : Port} (senders : k.senders = .office) (h : p ≠ .office) :
    k.permitted p = false := by
  unfold RequestKind.permitted
  rw [senders]
  cases p with
  | slicer => rfl
  | bagger => rfl
  | office => exact absurd rfl h

theorem chainHeadReply_taken (index : Nat) (edit : s.editable = true) (range : index ≤ 8) :
    chainHeadReply index s = { state := s.chainEdited (s.chain.setHead index), result := .ok, body := u8 index ++ u8 0 } := by
  have body : (s.chainEdited (s.chain.setHead index)).headReply = u8 index ++ u8 0 := by
    rw [State.headReply, chainEdited_chain]; rfl
  simp [chainHeadReply, edit, Nat.not_lt.mpr range, body]

theorem chainHeadReply_lineState (index : Nat) (edit : ¬ s.editable = true) :
    chainHeadReply index s = { state := s, result := .lineState, body := s.headReply } := by
  simp [chainHeadReply, edit]

theorem chainHeadReply_outOfRange (index : Nat) (edit : s.editable = true) (range : 8 < index) :
    chainHeadReply index s = { state := s, result := .outOfRange, body := s.headReply } := by
  simp [chainHeadReply, edit, range]

/-- The office's CHAIN_HEAD is answered with the block's reply. -/
theorem exec_chainHead_office (seq : Byte) (index : Nat) (r : Reply) (reply : chainHeadReply index s = r) :
    exec (.chainHead .office seq index) s =
      .next (r.state.respond .office (BitVec.ofNat 8 (RequestKind.code .chainHead)) seq r.result r.body) := by
  subst reply
  exact congrArg Host.Outcome.next (answer_permitted s .chainHead .office seq _ rfl)

/-- Settles O12: one case per reply of the Station Chain; a taken one through what every chain edit does. -/
theorem chainHeadFollowsR20 : Obligations.ChainHeadFollowsR20 := by
  intro s seq index
  refine ⟨?taken, ?lineState, ?outOfRange, ?otherPort⟩
  case taken =>
    intro edit range
    have edited := chainEdited_frame s (s.chain.setHead index)
    refine ⟨_, exec_chainHead_office s seq index _ (chainHeadReply_taken s index ((editable_iff s).mpr edit) range),
      ?_, ?_, ?_, ?_⟩
    · exact chainEdited_chain s _
    · exact (chainEdited_unfits s _).respond _ _ _ _ _
    · exact respond_answers _ .office .chainHead seq .ok _
    · exact edited.andThen (respond_frame _ _ _ _ _ _) rfl
  case lineState =>
    intro edit
    exact exec_chainHead_office s seq index _ (chainHeadReply_lineState s index (mt (editable_iff s).mp edit))
  case outOfRange =>
    intro edit range
    exact exec_chainHead_office s seq index _ (chainHeadReply_outOfRange s index ((editable_iff s).mpr edit) range)
  case otherPort =>
    intro p h
    exact congrArg Host.Outcome.next (answer_notPermitted s .chainHead p seq _ (permitted_office_only rfl h))

end Sys2Proof.Machine
end

section
/-! SUPPORT. The family of line state, holds and the infeed permit (09): a hold reason's code and bit, a flag that stands through a
notice and an answer, what a placing and a release make of the line, HOLD_SET and HOLD_RELEASE by their replies, and the requests that
leave the masters' reasons. -/

namespace Sys2Proof.Machine

variable (s : State)

/-! ## Codes and bits of the hold reasons (11.7) -/

theorem holdReason?_code (r : HoldReason) : holdReason? r.code = some r := by cases r <;> rfl

theorem eq_code_of_holdReason? {n : Nat} {r : HoldReason} (h : holdReason? n = some r) : n = r.code := by
  unfold holdReason? at h
  split at h <;> cases h <;> rfl

/-- The codes of the thirteen reasons are 0 to 12, so a number names none exactly from 13 on. -/
theorem holdReason?_eq_none {n : Nat} : holdReason? n = none ↔ 12 < n := by
  constructor
  · intro h
    by_contra le
    interval_cases n <;> cases h
  · intro h
    cases named : holdReason? n with
    | none => rfl
    | some r =>
      have bound : r.code ≤ 12 := by cases r <;> decide
      have := eq_code_of_holdReason? named
      omega

theorem holdRefusal_own (p : Port) : holdRefusal p (ownHold p).code = none := by
  simp [holdRefusal, holdReason?_code]

theorem holdRefusal_outOfRange (p : Port) {reason : Nat} (h : 12 < reason) : holdRefusal p reason = some .outOfRange := by
  simp [holdRefusal, holdReason?_eq_none.mpr h]

theorem holdRefusal_notPermitted (p : Port) {reason : Nat} (range : reason ≤ 12) (other : reason ≠ (ownHold p).code) :
    holdRefusal p reason = some .notPermitted := by
  cases named : holdReason? reason with
  | none => exact absurd (holdReason?_eq_none.mp named) (Nat.not_lt.mpr range)
  | some r =>
    have ne : r ≠ ownHold p := fun e => other (e ▸ eq_code_of_holdReason? named)
    simp [holdRefusal, named, ne]

/-- A reason present is already in the set. -/
theorem or_bit_of_held (r : HoldReason) (h : s.held r = true) : s.line.holds ||| r.bit = s.line.holds := by
  ext i inWord
  rw [BitVec.getElem_or, HoldReason.bit, BitVec.getElem_twoPow]
  by_cases same : i = r.code
  · subst same
    have present : s.line.holds[r.code] = true := (BitVec.getLsbD_eq_getElem inWord).symm.trans h
    simp [present]
  · simp [same]

/-- A reason absent takes nothing from the set. -/
theorem and_not_bit_of_absent (r : HoldReason) (h : s.held r = false) : s.line.holds &&& ~~~r.bit = s.line.holds := by
  ext i inWord
  rw [BitVec.getElem_and, BitVec.getElem_not, HoldReason.bit, BitVec.getElem_twoPow]
  by_cases same : i = r.code
  · subst same
    have absent : s.line.holds[r.code] = false := (BitVec.getLsbD_eq_getElem inWord).symm.trans h
    simp [absent]
  · simp [same]

/-! ## Flags that stand (R173) -/

theorem noticePosition_lt {p : Port} {k : NoticeKind} {i : Nat} (h : noticePosition p k = some i) : i < 16 := by
  unfold noticePosition at h
  split at h <;> cases h <;> decide

theorem noticed_notify_self {p : Port} {k : NoticeKind} {i : Nat} (h : noticePosition p k = some i) : Noticed (s.notify p k) p k := by
  refine ⟨i, h, ?_⟩
  rw [notify_port_self, raiseFlags_flags, noticeBit, h, BitVec.getLsbD_or, BitVec.getLsbD_twoPow]
  simp [noticePosition_lt h]

/-- A notice raised clears no flag of any port. -/
theorem Noticed.notify {s : State} {q : Port} {j : NoticeKind} (h : Noticed s q j) (p : Port) (k : NoticeKind) :
    Noticed (s.notify p k) q j := by
  obtain ⟨i, position, flag⟩ := h
  refine ⟨i, position, ?_⟩
  by_cases e : q = p
  · subst e
    rw [notify_port_self, raiseFlags_flags, BitVec.getLsbD_or, flag, Bool.true_or]
  · rwa [notify_port_of_ne s p q k e]

/-- An answer clears no flag of any port. -/
theorem Noticed.respond {s : State} {q : Port} {j : NoticeKind} (h : Noticed s q j) (p : Port) (kind seq : Byte) (result : ResultCode)
    (body : List Byte) : Noticed (s.respond p kind seq result body) q j := by
  obtain ⟨i, position, flag⟩ := h
  obtain ⟨flags, -, -⟩ := respond_sameNotices s p q kind seq result body
  exact ⟨i, position, flags ▸ flag⟩

/-! ## A change of the hold set (R148, R150) -/

theorem changeHolds_noticed (w : Set16) (q : Port) : Noticed (s.changeHolds w) q .holdChanged := by
  unfold State.changeHolds State.notifyHoldChanged
  cases q with
  | slicer => exact ((noticed_notify_self _ rfl).notify _ _).notify _ _
  | bagger => exact (noticed_notify_self _ rfl).notify _ _
  | office => exact noticed_notify_self _ rfl

theorem placeHold_of_held (r : HoldReason) (h : s.held r = true) : s.placeHold r = s := if_pos h

theorem placeHold_of_absent (r : HoldReason) (h : s.held r = false) : s.placeHold r = s.changeHolds (s.line.holds ||| r.bit) :=
  if_neg (by simp [h])

theorem releaseHold_of_held (r : HoldReason) (h : s.held r = true) :
    s.releaseHold r = s.changeHolds (s.line.holds &&& ~~~r.bit) := if_pos h

theorem releaseHold_of_absent (r : HoldReason) (h : s.held r = false) : s.releaseHold r = s := if_neg (by simp [h])

theorem placeHold_holds (r : HoldReason) : (s.placeHold r).line.holds = s.line.holds ||| r.bit := by
  cases h : s.held r with
  | false => rw [placeHold_of_absent s r h, changeHolds_line]
  | true => rw [placeHold_of_held s r h, or_bit_of_held s r h]

theorem releaseHold_holds (r : HoldReason) : (s.releaseHold r).line.holds = s.line.holds &&& ~~~r.bit := by
  cases h : s.held r with
  | false => rw [releaseHold_of_absent s r h, and_not_bit_of_absent s r h]
  | true => rw [releaseHold_of_held s r h, changeHolds_line]

theorem holds_ne_zero_of_held {r : HoldReason} (h : s.held r = true) : s.line.holds ≠ 0 := by
  intro empty
  simp [State.held, empty] at h

theorem permitOf_of_holds {l : LineState} {w : Set16} (h : w ≠ 0) : permitOf l w = .released := if_neg fun ⟨_, empty⟩ => h empty

/-- A reason that enters the set withholds the permit and is told to all three ports. -/
theorem placeHold_enters (r : HoldReason) (h : s.held r = false) :
    (s.placeHold r).line.permit = .released ∧ ∀ q, Noticed (s.placeHold r) q .holdChanged := by
  have placed : (s.placeHold r).held r = true := by simp [held_placeHold]
  have nonempty := holds_ne_zero_of_held _ placed
  rw [placeHold_of_absent s r h] at nonempty ⊢
  exact ⟨permitOf_of_holds nonempty, changeHolds_noticed s _⟩

/-- A reason that leaves the set drives the permit where it was the last and the line is not STOPPED, and is told to all three ports. -/
theorem releaseHold_leaves (r : HoldReason) (h : s.held r = true) :
    ((s.releaseHold r).line.permit = .driven ↔ s.line.state ≠ .stopped ∧ (s.releaseHold r).line.holds = 0)
      ∧ ∀ q, Noticed (s.releaseHold r) q .holdChanged := by
  rw [releaseHold_of_held s r h]
  exact ⟨permitOf_driven _ _, changeHolds_noticed s _⟩

/-! ## The replies of HOLD_SET and HOLD_RELEASE -/

theorem holdSetReply_own (p : Port) : holdSetReply p (ownHold p).code s =
    { state := s.placeHold (ownHold p), result := .ok, body := (s.placeHold (ownHold p)).holdReplyBytes } := by
  rw [holdSetReply, holdRefusal_own]

theorem holdReleaseReply_own (p : Port) : holdReleaseReply p (ownHold p).code s =
    { state := s.releaseHold (ownHold p), result := .ok, body := (s.releaseHold (ownHold p)).holdReplyBytes } := by
  rw [holdReleaseReply, holdRefusal_own]

theorem holdSetReply_refused {p : Port} {reason : Nat} {result : ResultCode} (h : holdRefusal p reason = some result) :
    holdSetReply p reason s = { state := s, result := result, body := s.holdReplyBytes } := by
  rw [holdSetReply, h]

theorem holdReleaseReply_refused {p : Port} {reason : Nat} {result : ResultCode} (h : holdRefusal p reason = some result) :
    holdReleaseReply p reason s = { state := s, result := result, body := s.holdReplyBytes } := by
  rw [holdReleaseReply, h]

/-- HOLD_SET, permitted on every port, is answered with the block's reply. -/
theorem exec_holdSet (p : Port) (seq : Byte) (reason : Nat) (r : Reply) (reply : holdSetReply p reason s = r) :
    exec (.holdSet p seq reason) s =
      .next (r.state.respond p (BitVec.ofNat 8 (RequestKind.code .holdSet)) seq r.result r.body) := by
  subst reply
  exact congrArg Host.Outcome.next (answer_permitted s .holdSet p seq _ rfl)

/-- HOLD_RELEASE, permitted on every port, is answered with the block's reply. -/
theorem exec_holdRelease (p : Port) (seq : Byte) (reason : Nat) (r : Reply) (reply : holdReleaseReply p reason s = r) :
    exec (.holdRelease p seq reason) s =
      .next (r.state.respond p (BitVec.ofNat 8 (RequestKind.code .holdRelease)) seq r.result r.body) := by
  subst reply
  exact congrArg Host.Outcome.next (answer_permitted s .holdRelease p seq _ rfl)

theorem exec_holdSet_own (p : Port) (seq : Byte) : exec (.holdSet p seq (ownHold p).code) s =
    .next ((s.placeHold (ownHold p)).respond p 6 seq .ok (s.placeHold (ownHold p)).holdReplyBytes) :=
  exec_holdSet s p seq _ _ (holdSetReply_own s p)

theorem exec_holdRelease_own (p : Port) (seq : Byte) : exec (.holdRelease p seq (ownHold p).code) s =
    .next ((s.releaseHold (ownHold p)).respond p 7 seq .ok (s.releaseHold (ownHold p)).holdReplyBytes) :=
  exec_holdRelease s p seq _ _ (holdReleaseReply_own s p)

/-- A refusal of either hold request leaves only its answer. -/
theorem exec_holdRequests_refused {p : Port} (seq : Byte) {reason : Nat} {result : ResultCode}
    (h : holdRefusal p reason = some result) :
    exec (.holdSet p seq reason) s = .next (s.respond p 6 seq result s.holdReplyBytes)
      ∧ exec (.holdRelease p seq reason) s = .next (s.respond p 7 seq result s.holdReplyBytes) :=
  ⟨exec_holdSet s p seq reason _ (holdSetReply_refused s h), exec_holdRelease s p seq reason _ (holdReleaseReply_refused s h)⟩

/-! ## The masters' reasons through the line requests and a port reset (R149, R151) -/

/-- From s to t the three masters' reasons stand as they stood. -/
def SameMasterHolds (s t : State) : Prop := ∀ q, t.held (ownHold q) = s.held (ownHold q)

theorem SameMasterHolds.refl : SameMasterHolds s s := fun _ => rfl

theorem SameMasterHolds.trans {s t u : State} (h : SameMasterHolds s t) (k : SameMasterHolds t u) : SameMasterHolds s u :=
  fun q => (k q).trans (h q)

theorem SameMasterHolds.of_holds {s t : State} (h : t.line.holds = s.line.holds) : SameMasterHolds s t :=
  fun q => congrArg (fun w : Set16 => w.getLsbD (ownHold q).code) h

/-- What does not reach the line leaves the masters' reasons. -/
theorem OnlyTouches.sameMasterHolds {ps : List Part} {s t : State} (h : OnlyTouches ps s t) (line : Part.line ∉ ps) :
    SameMasterHolds s t := .of_holds (congrArg LineUnit.holds (h .line line))

theorem SameMasterHolds.foldl {α : Type} (f : State → α → State) (h : ∀ s a, SameMasterHolds s (f s a)) (l : List α) (s : State) :
    SameMasterHolds s (l.foldl f s) := by
  induction l generalizing s with
  | nil => exact .refl s
  | cons a l ih => exact (h s a).trans (ih (f s a))

/-- An answer, taken or refused, leaves them where the block's reply does. -/
theorem SameMasterHolds.answer {s : State} {r : Reply} (h : SameMasterHolds s r.state) (k : RequestKind) (p : Port) (seq : Byte) :
    SameMasterHolds s (s.answer k p seq r) := by
  cases permitted : k.permitted p with
  | true =>
    rw [answer_permitted s k p seq r permitted]
    exact h.trans ((respond_frame _ _ _ _ _ _).sameMasterHolds (by decide))
  | false =>
    rw [answer_notPermitted s k p seq r permitted]
    exact (respond_frame _ _ _ _ _ _).sameMasterHolds (by decide)

theorem chainPassed_frame : OnlyTouches [.chain, .crumb] s s.chainPassed :=
  (((setChain_frame s _).within rfl).andThen (fitZone_frame _ .z0) rfl).andThen (fitZone_frame _ .z1) rfl

theorem startLine_sameMasterHolds : SameMasterHolds s s.startLine := .of_holds rfl

theorem lineStartStopped_sameMasterHolds : SameMasterHolds s (lineStartStopped s).state := by
  unfold lineStartStopped
  split
  · exact ((chainPassed_frame s).sameMasterHolds (by decide)).trans (startLine_sameMasterHolds _)
  · exact (setChain_frame s _).sameMasterHolds (by decide)

theorem lineStart_sameMasterHolds : SameMasterHolds s (lineStartReply s).state := by
  unfold lineStartReply
  split
  · exact lineStartStopped_sameMasterHolds s
  · exact .refl s
  · exact .refl s

theorem stopLine_sameMasterHolds : SameMasterHolds s s.stopLine := .of_holds rfl

theorem lineStop_sameMasterHolds : SameMasterHolds s (lineStopReply s).state := by
  show SameMasterHolds s s.lineStopped
  unfold State.lineStopped
  split
  · exact .refl s
  · exact stopLine_sameMasterHolds s
  · exact stopLine_sameMasterHolds s

/-- A record's removal may release QUEUE_FULL, which no master owns. -/
theorem removeRecord_sameMasterHolds (tag : Nat) : SameMasterHolds s (s.removeRecord tag) := by
  unfold State.removeRecord
  dsimp only
  split
  · intro q
    rw [held_releaseHold]
    cases q <;> rfl
  · exact .of_holds rfl

/-- Of a leave's parts only the record's removal reaches the line. -/
theorem leave_sameMasterHolds (r : LoafRecord) (o : LeaveOutcome) : SameMasterHolds s (s.leave r o) :=
  (((((countLeave_frame s r o).sameMasterHolds (by decide)).trans ((countInEntry_frame _ r o).sameMasterHolds (by decide))).trans
    ((lowerInFlight_frame _ _).sameMasterHolds (by decide))).trans (removeRecord_sameMasterHolds _ _)).trans
    ((((withdrawTie_frame _ _).within rfl).andThen (judgeBlasts_frame _) rfl : OnlyTouches [.bag, .crumb] _ _).sameMasterHolds
      (by decide))

theorem flushQueue_sameMasterHolds : SameMasterHolds s s.flushQueue :=
  (SameMasterHolds.foldl _ (fun t r => leave_sameMasterHolds t r .flushed) _ s).trans
    (((setGate_frame _ .reject _).trans (setGate_frame _ .exit _)).sameMasterHolds (by decide))

/-- Of the blocks' line-reset parts only the line's own and the queue's flush reach the line. -/
theorem lineReset_sameMasterHolds : SameMasterHolds s (lineResetReply s).state := by
  have rest : OnlyTouches [.recipes, .schedule, .ports, .bag, .crumb] s.stopLine.flushQueue s.resetLine :=
    (((((setSelection_frame _ _).within rfl).andThen (suspendSchedule_frame _) rfl).andThen (setBag_frame _ _) rfl).andThen
      (cutBlast_frame _ .z0) rfl).andThen (cutBlast_frame _ .z1) rfl
  exact ((stopLine_sameMasterHolds s).trans (flushQueue_sameMasterHolds _)).trans (rest.sameMasterHolds (by decide))

/-! ## R149 -/

/-- Settles O19: the own reason through what a placing and a release make of the line, each refusal through its result, and the line
requests and a port reset through what they leave of the masters' reasons. -/
theorem holdRequestsFollowR149 : Obligations.HoldRequestsFollowR149 := by
  intro s p seq reason
  refine ⟨?own, fun range => exec_holdRequests_refused s seq (holdRefusal_outOfRange p range),
    fun range other => exec_holdRequests_refused s seq (holdRefusal_notPermitted p range other),
    ⟨_, rfl, (lineStart_sameMasterHolds s).answer .lineStart p seq⟩, ⟨_, rfl, (lineStop_sameMasterHolds s).answer .lineStop p seq⟩,
    ⟨_, rfl, (lineReset_sameMasterHolds s).answer .lineReset p seq⟩,
    ⟨_, rfl, (setPort_frame s p _).sameMasterHolds (by decide)⟩⟩
  rintro rfl
  refine ⟨⟨_, exec_holdSet_own s p seq, placeHold_holds s _, placeHold_line_state s _, ?enters, respond_answers _ p .holdSet seq .ok _,
      (placeHold_frame s _).andThen (respond_frame _ _ _ _ _ _) rfl⟩, ?alreadyPlaced, ?alreadyAbsent,
    ⟨_, exec_holdRelease_own s p seq, releaseHold_holds s _, releaseHold_line_state s _, ?leaves,
      respond_answers _ p .holdRelease seq .ok _, (releaseHold_frame s _).andThen (respond_frame _ _ _ _ _ _) rfl⟩⟩
  case enters =>
    intro absent
    obtain ⟨permit, noticed⟩ := placeHold_enters s (ownHold p) absent
    exact ⟨permit, fun q => (noticed q).respond _ _ _ _ _⟩
  case alreadyPlaced =>
    intro held
    rw [exec_holdSet_own, placeHold_of_held s _ held]
    rfl
  case alreadyAbsent =>
    intro absent
    rw [exec_holdRelease_own, releaseHold_of_absent s _ absent]
    rfl
  case leaves =>
    intro held
    obtain ⟨permit, noticed⟩ := releaseHold_leaves s (ownHold p) held
    exact ⟨permit, fun q => (noticed q).respond _ _ _ _ _⟩

end Sys2Proof.Machine
end

section
/-! SUPPORT. What a command makes of the state, said once: a chain of events, each a quiet change of one block that keeps that block's
law, or a leave, a creation or a closing of the shift, which move the counts of records together. Every invariant is derived from this. -/

namespace Sys2Proof.Machine

/-! ## The laws of the blocks -/

/-- A port's attention line stands at its condition (R174). -/
def PortState.AttentionLaw (x : PortState) : Prop := x.attention = .asserted ↔ x.flags &&& ~~~x.mask ≠ 0

/-- A port's flags and mask name only its kinds (R175, R176). -/
def PortState.NoticeLaw (p : Port) (x : PortState) : Prop :=
  x.flags &&& ~~~(noticePositions p) = 0 ∧ x.mask &&& ~~~(noticePositions p) = 0

/-- A port's transaction is in order (R169, R171, R178). -/
def PortState.LinkLaw (x : PortState) : Prop :=
  (x.link ≠ .listening → x.frame = .idle) ∧ (x.link = .judged → ∀ b ∈ x.dataOut, b = 0)
    ∧ ∀ bytes, x.frame = .receiving bytes →
      bytes ≠ [] ∧ x.dataOut.length = bytes.length ∧ (bytes.head? ≠ some 0 → ∀ b ∈ x.dataOut, b = 0)

/-- A valve is driven exactly while its zone blasts (R128). -/
def ZoneState.ValveLaw (x : ZoneState) : Prop := x.valve = .driven ↔ x.blastEnd ≠ none

/-- An unfitted zone has no load, rests, is owed nothing, and its hold reason, whose presence is `full`, is absent (R128, R129). -/
def ZoneState.RestLaw (x : ZoneState) (full : Bool) : Prop :=
  x.fitted = false → x.load = 0 ∧ x.blastEnd = none ∧ x.manualClear = false ∧ x.purgeOwed = false ∧ full = false

/-- Whether a hold reason is in a hold set word. -/
def inHolds (w : Set16) (r : HoldReason) : Bool := w.getLsbD r.code

/-- The magazine's, the tyer's and the date's reasons stand at their conditions in a hold set (R118, R124, R114). -/
def BagClipUnit.TyerLaw (b : BagClipUnit) (w : Set16) : Prop :=
  (inHolds w .clipEmpty = true ↔ b.magazine = 0) ∧ (inHolds w .tyerFault = true ↔ b.tyer = .fault)
    ∧ (b.tyer = .firing ↔ b.tieInFlight ≠ none) ∧ (inHolds w .noDate = true ↔ b.dateSet = false)

/-- The idle timer runs exactly while the line is RUNNING (R146). -/
def LineUnit.TimerLaw (l : LineUnit) : Prop := l.idleTimer ≠ none ↔ l.state = .running

/-- Every accumulator holds less than a second (R156). -/
def TotalsUnit.MsLaw (t : TotalsUnit) : Prop := t.runMs < 1000 ∧ t.idleMs < 1000 ∧ t.stoppedMs < 1000 ∧ t.heldMs < 1000

/-- The slots and the pending selection are in order (R27, R28, R33). -/
def RecipeTable.SlotLaw (r : RecipeTable) : Prop :=
  (∀ i j, (r.slots.get i).state = .active → (r.slots.get j).state = .active → i = j)
    ∧ (∀ x, r.selection = some x → (r.slots.get x.slot).state = .loaded)
    ∧ ∀ i, (r.slots.get i).state = .empty ↔ (r.slots.get i).product = none

/-- The law of R160 and R162 on the store alone. -/
def TotalsStore.Law (t : TotalsStore) : Prop :=
  (t.write ≠ none ↔ t.state = .writing) ∧ (∀ w, t.write = some w → t.writeLaw w)
    ∧ (∀ i, t.current = some i → (t.bank i).stateWord = true)
    ∧ (∀ i, (t.bank i).inRange)
    ∧ ∀ i, (t.bank i).stateWord = true → ((t.bank i).records.map ShiftRecord.number).Nodup

/-- X is H − P within its limit, and v is within its range (R3, R4, R7). -/
def PositionUnit.Law (u : PositionUnit) : Prop :=
  ((u.h - u.p).toInt = (u.x : Int)) ∧ u.x ≤ 2147483647 ∧ u.v ≤ 262080

/-- The tags of the records with the slots they refer to, in queue order. -/
def TrackingQueue.roster (q : TrackingQueue) : List (Nat × Fin 16) := q.records.map fun r => (r.tag, r.slot)

/-! ## What a change keeps -/

/-- A port keeps its laws. -/
structure PortKeeps (p : Port) (x y : PortState) : Prop where
  attention : x.AttentionLaw → y.AttentionLaw
  notices : x.NoticeLaw p → y.NoticeLaw p
  link : x.LinkLaw → y.LinkLaw

/-- The Bag and Clip Unit, the zones and the hold set keep their laws together. -/
structure HoldsKeep (s : State) (b : BagClipUnit) (c : CrumbUnit) (w : Set16) : Prop where
  tyer : s.bag.TyerLaw s.line.holds → b.TyerLaw w
  valve : ∀ z, (s.zone z).ValveLaw → (c.get z).ValveLaw
  rest : ∀ z, (s.zone z).RestLaw (s.held (fullReason z)) → (c.get z).RestLaw (inHolds w (fullReason z))

/-- Two shift records agree in what the balance counts (R157). -/
def SameBalance (a b : ShiftRecord) : Prop :=
  b.carriedIn = a.carriedIn ∧ b.created = a.created ∧ b.products = a.products ∧ b.other = a.other

/-- A line unit with its hold set replaced and the permit judged (R150). -/
def LineUnit.withHolds (l : LineUnit) (w : Set16) : LineUnit := { l with holds := w, permit := permitOf l.state w }

/-! ## Events -/

/-- A quiet change: one block, or blocks that a law ties together, with that law kept; where G holds, no count of records moves. -/
inductive Quiet (G : Prop) (s : State) : State → Prop
  | now (x : Nat) : Quiet G s (s.setNow x)
  | choices (x : Nat) : Quiet G s (s.setChoices x)
  | pos (u : PositionUnit) (h : s.pos.Law → u.Law) : Quiet G s (s.setPos u)
  | chain (c : StationChain) : Quiet G s (s.setChain c)
  | recipes (r : RecipeTable) (h : s.recipes.SlotLaw → r.SlotLaw)
      (g : G → ∀ i, (r.slots.get i).inFlight = (s.slot i).inFlight) : Quiet G s (s.setRecipes r)
  | queue (q : TrackingQueue) (g : G → q.roster = s.queue.roster ∧ q.tagCounter = s.queue.tagCounter) : Quiet G s (s.setQueue q)
  | schedule (x : RunSchedule) : Quiet G s (s.setSchedule x)
  | blocks (b : BagClipUnit) (c : CrumbUnit) (h : HoldsKeep s b c s.line.holds) : Quiet G s ((s.setBag b).setCrumb c)
  | holds (b : BagClipUnit) (c : CrumbUnit) (w : Set16) (h : HoldsKeep s b c w) :
      Quiet G s (((s.setBag b).setCrumb c).setLine (s.line.withHolds w))
  | lineState (l : LineState) (x : Option Nat) (h : x ≠ none ↔ l = .running) : Quiet G s (s.setLineState l x)
  | timer (x : Nat) (h : s.line.state = .running) : Quiet G s (s.setLine { s.line with idleTimer := some x })
  | totals (t : TotalsUnit) (h : s.totals.MsLaw → t.MsLaw) (g : G → SameBalance s.totals.openShift t.openShift) :
      Quiet G s (s.setTotals t)
  | store (t : TotalsStore) (h : s.store.Law → t.Law) : Quiet G s (s.setStore t)
  | port (p : Port) (y : PortState) (h : PortKeeps p (s.port p) y) : Quiet G s (s.setPort p y)

/-- A record that refers to r's slot under r's tag is in the queue. -/
def State.present (s : State) (r : LoafRecord) : Prop := (r.tag, r.slot) ∈ s.queue.roster

/-- One event: a quiet change, or one that moves the counts of records together. -/
inductive Event (G : Prop) (s : State) : State → Prop
  | quiet {t : State} (h : Quiet G s t) : Event G s t
  /-- A record leaves (R82). -/
  | leave (r : LoafRecord) (o : LeaveOutcome) (here : G → s.present r)
      (via : Relation.ReflTransGen (Quiet False) s (s.leave r o)) : Event G s (s.leave r o)
  /-- A record joins (R66). -/
  | create (i : Fin 16) (p : Pos) (room : s.queueCount < queueCapacity)
      (via : Relation.ReflTransGen (Quiet False) s (s.createRecord i p)) : Event G s (s.createRecord i p)
  /-- The next shift opens with the queue count carried in (R158). -/
  | nextShift : Event G s s.openNextShift

/-- A chain of events. -/
def Evolves (G : Prop) : State → State → Prop := Relation.ReflTransGen (Event G)

theorem Quiet.unguarded {G : Prop} {s t : State} (h : Quiet G s t) : Quiet False s t := by
  cases h with
  | now x => exact .now x
  | choices x => exact .choices x
  | pos u h => exact .pos u h
  | chain c => exact .chain c
  | recipes r h _ => exact .recipes r h False.elim
  | queue q _ => exact .queue q False.elim
  | schedule x => exact .schedule x
  | blocks b c h => exact .blocks b c h
  | holds b c w h => exact .holds b c w h
  | lineState l x h => exact .lineState l x h
  | timer x h => exact .timer x h
  | totals t h _ => exact .totals t h False.elim
  | store t h => exact .store t h
  | port p y h => exact .port p y h

theorem openNextShift_quiet (s : State) : Quiet False s s.openNextShift :=
  .totals _ (fun _ => ⟨Nat.zero_lt_succ _, Nat.zero_lt_succ _, Nat.zero_lt_succ _, Nat.zero_lt_succ _⟩) False.elim

/-- A property that every quiet change keeps, whatever counts it moves, holds after every chain of events. -/
theorem Evolves.keeps {G : Prop} {I : State → Prop} (quiet : ∀ s t, Quiet False s t → I s → I t) {s t : State}
    (h : Evolves G s t) (base : I s) : I t := by
  have chain : ∀ {s t}, Relation.ReflTransGen (Quiet False) s t → I s → I t := by
    intro s t via base
    induction via with
    | refl => exact base
    | tail _ step ih => exact quiet _ _ step ih
  induction h with
  | refl => exact base
  | tail _ event ih =>
    cases event with
    | quiet h => exact quiet _ _ h.unguarded ih
    | leave r o _ via => exact chain via ih
    | create i p _ via => exact chain via ih
    | nextShift => exact quiet _ _ (openNextShift_quiet _) ih

variable {G : Prop} {s t u : State}

theorem Evolves.refl (s : State) : Evolves G s s := Relation.ReflTransGen.refl

theorem Quiet.evolves (h : Quiet G s t) : Evolves G s t := .single (.quiet h)

theorem Evolves.trans (h : Evolves G s t) (k : Evolves G t u) : Evolves G s u := Relation.ReflTransGen.trans h k

theorem Evolves.ite {c : Prop} [Decidable c] (h : c → Evolves G s t) (k : ¬c → Evolves G s u) :
    Evolves G s (if c then t else u) := by
  split
  · exact h ‹_›
  · exact k ‹_›

/-- Under False every event is a chain of quiet changes. -/
theorem Evolves.quietly (h : Evolves False s t) : Relation.ReflTransGen (Quiet False) s t := by
  induction h with
  | refl => exact .refl
  | tail _ event ih =>
    cases event with
    | quiet h => exact ih.tail h
    | leave r o _ via => exact ih.trans via
    | create i p _ via => exact ih.trans via
    | nextShift => exact ih.tail (openNextShift_quiet _)

end Sys2Proof.Machine
end

section
/-! SUPPORT. The shared operations as chains of events: one lemma per operation, from notices and holds up to an advance of H. -/

namespace Sys2Proof.Machine

variable {G : Prop} (s : State)

theorem Evolves.foldl {α : Type} (f : State → α → State) (h : ∀ s a, Evolves G s (f s a)) (l : List α) (s : State) :
    Evolves G s (l.foldl f s) := by
  induction l generalizing s with
  | nil => exact .refl s
  | cons a l ih => exact (h s a).trans (ih (f s a))

/-! ## Notices -/

theorem noticeBit_names (p : Port) (k : NoticeKind) : noticeBit p k &&& ~~~(noticePositions p) = 0 := by
  cases p <;> cases k <;> decide

theorem judged_attentionLaw (x : PortState) : x.judged.AttentionLaw := attentionOf_asserted x.flags x.mask

theorem raiseFlags_keeps (p : Port) (x : PortState) (k : NoticeKind) : PortKeeps p x (x.raiseFlags (noticeBit p k)) where
  attention _ := judged_attentionLaw _
  notices := by
    rintro ⟨flags, mask⟩
    refine ⟨?_, mask⟩
    rw [raiseFlags_flags, BitVec.and_comm, BitVec.and_or_distrib_left, BitVec.and_comm, flags, BitVec.and_comm, noticeBit_names]
    rfl
  link h := h

theorem notify_evolves (p : Port) (k : NoticeKind) : Evolves G s (s.notify p k) :=
  (Quiet.port p _ (raiseFlags_keeps p _ k)).evolves

theorem notifyHoldChanged_evolves : Evolves G s s.notifyHoldChanged :=
  ((notify_evolves s _ _).trans (notify_evolves _ _ _)).trans (notify_evolves _ _ _)

/-! ## The hold set with the blocks its reasons speak of -/

theorem inHolds_or_bit (w : Set16) (r q : HoldReason) : inHolds (w ||| r.bit) q = (decide (r = q) || inHolds w q) := by
  rw [inHolds, BitVec.getLsbD_or, bit_getLsbD, Bool.or_comm]; rfl

theorem inHolds_and_not_bit (w : Set16) (r q : HoldReason) : inHolds (w &&& ~~~r.bit) q = (!decide (r = q) && inHolds w q) := by
  rw [inHolds, BitVec.getLsbD_and, BitVec.getLsbD_not, bit_getLsbD, Bool.and_comm]
  simp [code_lt q, inHolds]

theorem HoldsKeep.changeHolds {b : BagClipUnit} {c : CrumbUnit} {w : Set16} (h : HoldsKeep s b c w) :
    Evolves G s (((s.setBag b).setCrumb c).changeHolds w) :=
  (Quiet.holds b c w h).evolves.trans (notifyHoldChanged_evolves _)

theorem HoldsKeep.placeHold {b : BagClipUnit} {c : CrumbUnit} {r : HoldReason} (h : HoldsKeep s b c (s.line.holds ||| r.bit)) :
    Evolves G s (((s.setBag b).setCrumb c).placeHold r) := by
  cases held : s.held r with
  | true =>
    rw [placeHold_of_held _ _ (show ((s.setBag b).setCrumb c).held r = true from held)]
    rw [or_bit_of_held s r held] at h
    exact (Quiet.blocks b c h).evolves
  | false =>
    rw [placeHold_of_absent _ _ (show ((s.setBag b).setCrumb c).held r = false from held)]
    exact h.changeHolds

theorem HoldsKeep.releaseHold {b : BagClipUnit} {c : CrumbUnit} {r : HoldReason} (h : HoldsKeep s b c (s.line.holds &&& ~~~r.bit)) :
    Evolves G s (((s.setBag b).setCrumb c).releaseHold r) := by
  cases held : s.held r with
  | true =>
    rw [releaseHold_of_held _ _ (show ((s.setBag b).setCrumb c).held r = true from held)]
    exact h.changeHolds
  | false =>
    rw [releaseHold_of_absent _ _ (show ((s.setBag b).setCrumb c).held r = false from held)]
    rw [and_not_bit_of_absent s r held] at h
    exact (Quiet.blocks b c h).evolves

/-- A hold reason that no law of a block speaks of. -/
def HoldReason.free : HoldReason → Bool
  | .crumbFull0 | .crumbFull1 | .clipEmpty | .tyerFault | .noDate => false
  | .slicerHold | .baggerHold | .officeHold | .noProduct | .bladeMismatch | .queueFull | .scheduleGap | .scheduleStop => true

/-- A hold set that agrees in every reason that is not free keeps the laws. -/
theorem HoldsKeep.of_same {s : State} {w : Set16} (same : ∀ q : HoldReason, q.free = false → inHolds w q = s.held q) :
    HoldsKeep s s.bag s.crumb w where
  tyer := by
    rintro ⟨clips, fault, firing, date⟩
    unfold BagClipUnit.TyerLaw
    rw [same .clipEmpty rfl, same .tyerFault rfl, same .noDate rfl]
    exact ⟨clips, fault, firing, date⟩
  valve _ h := h
  rest z h := by rw [same _ (by cases z <;> rfl)]; exact h

theorem ne_of_free {r q : HoldReason} (hr : r.free = true) (hq : q.free = false) : r ≠ q := by
  rintro rfl; simp [hr] at hq

theorem placeHold_evolves {r : HoldReason} (free : r.free = true) : Evolves G s (s.placeHold r) :=
  HoldsKeep.placeHold (b := s.bag) (c := s.crumb) s <| .of_same fun q hq => by
    rw [inHolds_or_bit, decide_eq_false (ne_of_free free hq), Bool.false_or]; rfl

theorem releaseHold_evolves {r : HoldReason} (free : r.free = true) : Evolves G s (s.releaseHold r) :=
  HoldsKeep.releaseHold (b := s.bag) (c := s.crumb) s <| .of_same fun q hq => by
    rw [inHolds_and_not_bit, decide_eq_false (ne_of_free free hq), Bool.not_false, Bool.true_and]; rfl

theorem judgeHold_evolves {r : HoldReason} (free : r.free = true) (c : Bool) : Evolves G s (s.judgeHold r c) :=
  .ite (fun _ => placeHold_evolves s free) fun _ => releaseHold_evolves s free

/-! ## Zones -/

/-- A zone replaced by one that keeps its laws. -/
theorem HoldsKeep.of_zone {s : State} (z : Zone) (x : ZoneState) {w : Set16}
    (tyer : s.bag.TyerLaw s.line.holds → s.bag.TyerLaw w)
    (valve : (s.zone z).ValveLaw → x.ValveLaw)
    (rest : (s.zone z).RestLaw (s.held (fullReason z)) → x.RestLaw (inHolds w (fullReason z)))
    (others : ∀ y, y ≠ z → inHolds w (fullReason y) = s.held (fullReason y)) :
    HoldsKeep s s.bag (s.crumb.set z x) w where
  tyer := tyer
  valve y h := by
    by_cases e : y = z
    · subst e; rw [CrumbUnit.get_set_self]; exact valve h
    · rw [CrumbUnit.get_set_of_ne _ _ _ _ e]; exact h
  rest y h := by
    by_cases e : y = z
    · subst e; rw [CrumbUnit.get_set_self]; exact rest h
    · rw [CrumbUnit.get_set_of_ne _ _ _ _ e, others y e]; exact h

theorem setZone_evolves (z : Zone) (x : ZoneState) (valve : (s.zone z).ValveLaw → x.ValveLaw)
    (rest : (s.zone z).RestLaw (s.held (fullReason z)) → x.RestLaw (s.held (fullReason z))) : Evolves G s (s.setZone z x) :=
  (Quiet.blocks s.bag (s.crumb.set z x) (.of_zone z x id valve rest fun _ _ => rfl)).evolves

theorem judgeBlast_evolves (z : Zone) : Evolves G s (s.judgeBlast z) := by
  unfold State.judgeBlast
  split
  · refine .ite (fun starts => ?_) fun _ => .refl s
    simp only [State.blastStarts, Bool.and_eq_true] at starts
    refine setZone_evolves s z _ (fun _ => ?_) fun _ unfitted => ?_
    · simp [ZoneState.ValveLaw, ZoneState.startBlast]
    · simp [ZoneState.startBlast, starts] at unfitted
  · exact .refl s

theorem judgeBlasts_evolves : Evolves G s s.judgeBlasts := (judgeBlast_evolves s _).trans (judgeBlast_evolves _ _)

theorem fullReason_ne {y z : Zone} (h : y ≠ z) : fullReason z ≠ fullReason y := by
  cases y <;> cases z <;> simp_all [fullReason]

theorem tyerLaw_or_full (b : BagClipUnit) (w : Set16) (z : Zone) (h : b.TyerLaw w) : b.TyerLaw (w ||| (fullReason z).bit) := by
  unfold BagClipUnit.TyerLaw at *
  cases z <;> simpa [inHolds_or_bit, fullReason] using h

theorem tyerLaw_and_not_full (b : BagClipUnit) (w : Set16) (z : Zone) (h : b.TyerLaw w) :
    b.TyerLaw (w &&& ~~~(fullReason z).bit) := by
  unfold BagClipUnit.TyerLaw at *
  cases z <;> simpa [inHolds_and_not_bit, fullReason] using h

/-- A zone replaced and CRUMB_FULL judged on it: where the zone kept its law, the new one is fitted, or rests with no load below hard. -/
theorem setZone_judgeFull_evolves (z : Zone) (x : ZoneState) (valve : (s.zone z).ValveLaw → x.ValveLaw)
    (rest : (s.zone z).RestLaw (s.held (fullReason z)) → x.RestLaw (s.held (fullReason z)) ∧ (x.fitted = true ∨ x.load < x.hard)) :
    Evolves G s ((s.setZone z x).judgeFull z) := by
  unfold State.judgeFull
  rw [zone_setZone_self]
  refine .ite (fun full => ?_) fun _ => .ite (fun _ => ?_) fun _ => ?_
  · refine HoldsKeep.placeHold (b := s.bag) s (.of_zone z x (tyerLaw_or_full _ _ z) valve (fun h unfitted => ?_) fun y ne => ?_)
    · obtain fitted | below := (rest h).2
      · simp [fitted] at unfitted
      · omega
    · rw [inHolds_or_bit, decide_eq_false (fullReason_ne ne), Bool.false_or]; rfl
  · refine HoldsKeep.releaseHold (b := s.bag) s (.of_zone z x (tyerLaw_and_not_full _ _ z) valve (fun h unfitted => ?_) fun y ne => ?_)
    · obtain ⟨load, blast, manual, purge, -⟩ := (rest h).1 unfitted
      exact ⟨load, blast, manual, purge, by simp [inHolds_and_not_bit]⟩
    · rw [inHolds_and_not_bit, decide_eq_false (fullReason_ne ne), Bool.not_false, Bool.true_and]; rfl
  · exact setZone_evolves s z x valve fun h => (rest h).1

theorem charge_evolves (z : Zone) (c : Nat) : Evolves G s (s.charge z c) := by
  refine .ite (fun fitted => ?_) fun _ => .refl s
  refine (setZone_judgeFull_evolves s z { s.zone z with load := min ((s.zone z).load + c) loadLimit } (fun h => h) fun _ =>
    ⟨fun unfitted => ?_, .inl fitted⟩).trans (judgeBlast_evolves _ z)
  exact absurd (fitted.symm.trans unfitted) (by decide)

theorem unfitZone_evolves (z : Zone) : Evolves G s (s.unfitZone z) := by
  refine .ite (fun _ => ?_) fun _ => .refl s
  refine HoldsKeep.releaseHold (b := s.bag) s (.of_zone z _ (tyerLaw_and_not_full _ _ z) (fun _ => ?_) (fun _ _ => ?_) fun y ne => ?_)
  · simp [ZoneState.ValveLaw, ZoneState.rest]
  · exact ⟨rfl, rfl, rfl, rfl, by simp [inHolds_and_not_bit]⟩
  · rw [inHolds_and_not_bit, decide_eq_false (fullReason_ne ne), Bool.not_false, Bool.true_and]; rfl

theorem fitZone_evolves (z : Zone) : Evolves G s (s.fitZone z) := by
  refine .ite (fun _ => .refl s) fun _ => .ite (fun _ => ?_) fun _ => .refl s
  exact (setZone_evolves s z { s.zone z with fitted := true } (fun h => h) fun _ unfitted => absurd unfitted (by simp)).trans
    (judgeBlast_evolves _ z)

theorem dropPurges_evolves : Evolves G s s.dropPurges := by
  refine (Quiet.blocks s.bag _ ⟨id, fun z h => ?_, fun z h unfitted => ?_⟩).evolves
  · cases z <;> exact h
  · cases z <;>
    · obtain ⟨load, blast, manual, -, full⟩ := h unfitted
      exact ⟨load, blast, manual, rfl, full⟩

theorem owePurge_valveLaw {x : ZoneState} (h : x.ValveLaw) : x.owePurge.ValveLaw := by
  unfold ZoneState.owePurge; split <;> exact h

theorem owePurge_restLaw {x : ZoneState} {full : Bool} (h : x.RestLaw full) : x.owePurge.RestLaw full := by
  unfold ZoneState.owePurge
  split
  · next owed => intro unfitted; simp at owed; exact absurd (owed.1.symm.trans unfitted) (by decide)
  · exact h

theorem enterIdlePurge_evolves : Evolves G s s.enterIdlePurge := by
  refine (Quiet.blocks s.bag _ ⟨id, fun z h => ?_, fun z h => ?_⟩).evolves.trans (judgeBlasts_evolves _)
  · cases z <;> exact owePurge_valveLaw h
  · cases z <;> exact owePurge_restLaw h

theorem rest_valveLaw (x : ZoneState) : x.rest.ValveLaw := by simp [ZoneState.ValveLaw, ZoneState.rest]

theorem rest_restLaw {x : ZoneState} {full : Bool} (h : x.RestLaw full) : x.rest.RestLaw full := by
  intro unfitted
  obtain ⟨load, -, manual, purge, absent⟩ := h unfitted
  exact ⟨load, rfl, manual, purge, absent⟩

theorem cutBlast_evolves (z : Zone) : Evolves G s (s.cutBlast z) := by
  unfold State.cutBlast
  split
  · exact (setZone_evolves s z _ (fun _ => rest_valveLaw _) rest_restLaw).trans (judgeBlast_evolves _ z)
  · exact .refl s

/-! ## Totals and time -/

/-- The open shift replaced by one that agrees in what the balance counts. -/
theorem setShift_evolves (x : ShiftRecord) (h : G → SameBalance s.totals.openShift x) : Evolves G s (s.setShift x) :=
  (Quiet.totals { s.totals with openShift := x } id h).evolves

theorem countUntracked_evolves : Evolves G s s.countUntracked := setShift_evolves s _ fun _ => ⟨rfl, rfl, rfl, rfl⟩

theorem countStray_evolves : Evolves G s s.countStray := setShift_evolves s _ fun _ => ⟨rfl, rfl, rfl, rfl⟩

theorem countClip_evolves : Evolves G s s.countClip := setShift_evolves s _ fun _ => ⟨rfl, rfl, rfl, rfl⟩

theorem countBlast_evolves (z : Zone) : Evolves G s (s.countBlast z) := by
  cases z <;> exact setShift_evolves s _ fun _ => ⟨rfl, rfl, rfl, rfl⟩

theorem pass_msLaw {t : TotalsUnit} (h : t.MsLaw) (d : Nat) (a : TimeCount) : (t.pass d a).MsLaw := by
  obtain ⟨run, idle, stopped, held⟩ := h
  cases a <;> simp only [TotalsUnit.pass, TotalsUnit.MsLaw] <;> omega

theorem pass_sameBalance (t : TotalsUnit) (d : Nat) (a : TimeCount) : SameBalance t.openShift (t.pass d a).openShift := by
  cases a <;> exact ⟨rfl, rfl, rfl, rfl⟩

theorem passInto_evolves (d : Nat) (a : TimeCount) : Evolves G s (s.passInto d a) :=
  .ite (fun _ => (Quiet.totals _ (fun h => pass_msLaw h d a) fun _ => pass_sameBalance _ d a).evolves) fun _ => .refl s

theorem elapse_evolves (d : Nat) : Evolves G s (s.elapse d) :=
  ((((Quiet.now _).evolves.trans (passInto_evolves _ d _)).trans (passInto_evolves _ d _)).trans
    (passInto_evolves _ d _)).trans (passInto_evolves _ d _)

theorem reach_evolves (x : Nat) : Evolves G s (s.reach x) := .ite (fun _ => elapse_evolves s _) fun _ => .refl s

/-! ## Recipes -/

/-- A slot replaced by one with the same in-flight count, the law of the slots kept. -/
theorem setSlot_evolves (i : Fin 16) (x : Slot) (h : s.recipes.SlotLaw → (s.setSlot i x).recipes.SlotLaw)
    (g : G → x.inFlight = (s.slot i).inFlight) : Evolves G s (s.setSlot i x) := by
  refine (Quiet.recipes _ h fun assumed j => ?_).evolves
  by_cases e : j = i
  · subst e; exact (congrArg Slot.inFlight (slot_setSlot_self s j x)).trans (g assumed)
  · exact congrArg Slot.inFlight (slot_setSlot_of_ne s i j x e)

/-- The law of the slots, read through a state. -/
theorem slotLaw_iff (t : State) : t.recipes.SlotLaw ↔ RecipeLaw t := Iff.rfl

/-- A slot replaced by one that is not newly ACTIVE, stays LOADED where it is selected, and holds a product unless it is EMPTY. -/
theorem setSlot_recipeLaw (i : Fin 16) (x : Slot) (h : RecipeLaw s)
    (active : x.state = .active → (s.slot i).state = .active)
    (selected : ∀ y, s.recipes.selection = some y → y.slot = i → x.state = .loaded)
    (product : x.state = .empty ↔ x.product = none) : RecipeLaw (s.setSlot i x) := by
  obtain ⟨one, pending, products⟩ := h
  have slots : ∀ j, (s.setSlot i x).slot j = if j = i then x else s.slot j := fun j => by
    by_cases e : j = i
    · subst e; simp
    · simp [e, slot_setSlot_of_ne]
  refine ⟨fun j k hj hk => one j k ?_ ?_, fun y hy => ?_, fun j => ?_⟩
  · by_cases e : j = i
    · subst e; simp only [slots, if_true] at hj; exact active hj
    · simpa [slots, e] using hj
  · by_cases e : k = i
    · subst e; simp only [slots, if_true] at hk; exact active hk
    · simpa [slots, e] using hk
  · by_cases e : y.slot = i
    · rw [slots, if_pos e]; exact selected y hy e
    · rw [slots, if_neg e]; exact pending y hy
  · by_cases e : j = i
    · rw [slots, if_pos e]; exact product
    · rw [slots, if_neg e]; exact products j

theorem setSelection_evolves (x : Option Selection) (h : ∀ y, x = some y → (s.slot y.slot).state = .loaded) :
    Evolves G s (s.setSelection x) :=
  (Quiet.recipes { s.recipes with selection := x } (fun ⟨one, _, products⟩ => ⟨one, h, products⟩) fun _ _ => rfl).evolves

/-! ### The changeover -/

theorem activeSlot_state {i : Fin 16} (h : s.activeSlot = some i) : (s.slot i).state = .active := by
  simpa using List.find?_some h

theorem activeSlot_eq_none_iff : s.activeSlot = none ↔ ∀ i, (s.slot i).state ≠ .active := by
  simp [State.activeSlot]

/-- The slots after the ACTIVE one has returned to LOADED. -/
theorem slot_unloadActive (j : Fin 16) :
    s.unloadActive.slot j = if s.activeSlot = some j then { s.slot j with state := .loaded } else s.slot j := by
  unfold State.unloadActive
  cases h : s.activeSlot with
  | none => simp
  | some i =>
    by_cases e : j = i
    · subst e; simp [State.setSlotState]
    · simp [State.setSlotState, slot_setSlot_of_ne _ _ _ _ e, Ne.symm e]

/-- The slots after a changeover. -/
def State.changedSlots (s : State) (i : Fin 16) : State := (s.unloadActive.setSlotState i .active).setSelection none

theorem slot_changedSlots_self (i : Fin 16) : (s.changedSlots i).slot i = { s.slot i with state := .active } := by
  show (s.unloadActive.setSlotState i .active).slot i = _
  rw [State.setSlotState, slot_setSlot_self, slot_unloadActive]
  split <;> rfl

theorem slot_changedSlots_of_ne {i j : Fin 16} (ne : j ≠ i) : (s.changedSlots i).slot j = s.unloadActive.slot j :=
  slot_setSlot_of_ne s.unloadActive i j _ ne

theorem inFlight_changedSlots (i j : Fin 16) : ((s.changedSlots i).slot j).inFlight = (s.slot j).inFlight := by
  by_cases e : j = i
  · subst e; rw [slot_changedSlots_self]
  · rw [slot_changedSlots_of_ne s e, slot_unloadActive]; split <;> rfl

theorem changedSlots_eq (i : Fin 16) : s.changedSlots i = s.setRecipes (s.changedSlots i).recipes := by
  unfold State.changedSlots State.unloadActive
  cases s.activeSlot <;> rfl

theorem changedSlots_recipeLaw (i : Fin 16) (loaded : (s.slot i).state = .loaded) (h : RecipeLaw s) :
    RecipeLaw (s.changedSlots i) := by
  obtain ⟨one, -, products⟩ := h
  have only : ∀ j, ((s.changedSlots i).slot j).state = .active → j = i := by
    intro j active
    by_contra ne
    rw [slot_changedSlots_of_ne s ne, slot_unloadActive] at active
    split at active
    · exact absurd active (by simp)
    · next other =>
      cases found : s.activeSlot with
      | none => exact (activeSlot_eq_none_iff s).mp found j active
      | some k => exact other (found.trans (congrArg some (one k j (activeSlot_state s found) active)))
  refine ⟨fun j k hj hk => (only j hj).trans (only k hk).symm, fun x hx => absurd hx (by simp [State.changedSlots, State.setSelection]),
    fun j => ?_⟩
  by_cases e : j = i
  · subst e
    rw [slot_changedSlots_self]
    have held := products j
    simp only [loaded, reduceCtorEq, false_iff] at held
    simp [held]
  · rw [slot_changedSlots_of_ne s e, slot_unloadActive]
    split
    · next active =>
      have held := products j
      rw [activeSlot_state s active] at held
      simp only [reduceCtorEq, false_iff] at held
      simp [held]
    · exact products j

theorem judgeBlade_evolves : Evolves G s s.judgeBlade := judgeHold_evolves s rfl _

/-- A changeover to a slot that the law of the slots makes LOADED. -/
theorem changeover_evolves (i : Fin 16) (loaded : RecipeLaw s → (s.slot i).state = .loaded) : Evolves G s (s.changeover i) := by
  have slots : Evolves G s (s.changedSlots i) := by
    rw [changedSlots_eq]
    exact (Quiet.recipes _ (fun h => changedSlots_recipeLaw s i (loaded h) h) fun _ j => inFlight_changedSlots s i j).evolves
  exact (((slots.trans (notify_evolves _ _ _)).trans (notify_evolves _ _ _)).trans (releaseHold_evolves _ rfl)).trans
    (judgeBlade_evolves _)

theorem notifyDisplaced_evolves (w : Source) : Evolves G s (s.notifyDisplaced w) := by
  unfold State.notifyDisplaced
  split
  · refine .ite (fun _ => .refl s) fun _ => ?_
    split
    · exact notify_evolves s _ _
    · exact notify_evolves s _ _
    · exact .refl s
  · exact .refl s

/-- A notice to a displaced source leaves the slots. -/
theorem slot_notifyDisplaced (w : Source) (i : Fin 16) : (s.notifyDisplaced w).slot i = s.slot i := by
  rw [State.slot, notifyDisplaced_frame s w .recipes (by decide)]; rfl

theorem writeSelection_evolves (i : Fin 16) (w : Source) : Evolves G s (s.writeSelection i w) := by
  have told := notifyDisplaced_evolves (G := G) s w
  unfold State.writeSelection
  split
  · next loaded =>
    rw [← slot_notifyDisplaced s w] at loaded
    split
    · exact told.trans (changeover_evolves _ i fun _ => loaded)
    · exact told.trans (setSelection_evolves _ _ fun y hy => by cases hy; exact loaded)
  · exact told.trans (setSelection_evolves _ _ fun y hy => by cases hy)
  · exact .refl s
  · exact .refl s

theorem takePending_evolves : Evolves G s s.takePending := by
  unfold State.takePending
  split
  · next x selected => exact changeover_evolves s x.slot fun h => h.2.1 x selected
  · exact .refl s

/-! ## Schedule -/

theorem setSchedule_evolves (x : RunSchedule) : Evolves G s (s.setSchedule x) := (Quiet.schedule x).evolves

theorem updateEntry_evolves (id : Nat) (f : Entry → Entry) : Evolves G s (s.updateEntry id f) := setSchedule_evolves s _

theorem setScheduleState_evolves (x : ScheduleState) : Evolves G s (s.setScheduleState x) := setSchedule_evolves s _

theorem suspendSchedule_evolves : Evolves G s s.suspendSchedule :=
  .ite (fun _ => (setScheduleState_evolves s _).trans (notify_evolves _ _ _)) fun _ => .refl s

theorem raiseCarried_evolves (id : Option Nat) : Evolves G s (s.raiseCarried id) := by
  cases id
  · exact .refl s
  · exact updateEntry_evolves s _ _

theorem closeEntry_evolves (id : Nat) : Evolves G s (s.closeEntry id) := by
  unfold State.closeEntry
  split
  · exact .ite (fun _ => (updateEntry_evolves s _ _).trans (notify_evolves _ _ _)) fun _ => .refl s
  · exact .refl s

theorem countInEntry_evolves (r : LoafRecord) (o : LeaveOutcome) : Evolves G s (s.countInEntry r o) := by
  unfold State.countInEntry
  split
  · exact (updateEntry_evolves s _ _).trans (closeEntry_evolves _ _)
  · exact .refl s

theorem judgeGap_evolves (p : Pos) (gap : Nat) : Evolves G s (s.judgeGap p gap) :=
  .ite (fun _ => .refl s) fun _ => .ite (fun _ => .refl s) fun _ => (placeHold_evolves s rfl).trans (setSchedule_evolves _ _)

theorem activateNext_evolves (stop : Bool) : Evolves G s (s.activateNext stop) := by
  unfold State.activateNext
  split
  · refine (updateEntry_evolves s _ _).trans (.ite (fun _ => ?_) fun _ => .ite (fun _ => writeSelection_evolves _ _ _) fun _ => .refl _)
    exact (placeHold_evolves _ rfl).trans (suspendSchedule_evolves _)
  · exact (setScheduleState_evolves s _).trans (.ite (fun _ => placeHold_evolves _ rfl) fun _ => .refl _)

theorem fillByAdmission_evolves (e : Entry) (p : Pos) : Evolves G s (s.fillByAdmission e p) :=
  (((updateEntry_evolves s _ _).trans (judgeGap_evolves _ p _)).trans (activateNext_evolves _ _)).trans (closeEntry_evolves _ _)

theorem fillByCancel_evolves (e : Entry) : Evolves G s (s.fillByCancel e) :=
  ((updateEntry_evolves s _ _).trans (activateNext_evolves _ _)).trans (closeEntry_evolves _ _)

/-! ## Records changed in place -/

theorem roster_changeRecord (tag : Nat) (f : LoafRecord → LoafRecord) (rs : List LoafRecord)
    (h : ∀ r ∈ rs, r.tag = tag → (f r).tag = r.tag ∧ (f r).slot = r.slot) :
    (changeRecord tag f rs).map (fun r => (r.tag, r.slot)) = rs.map fun r => (r.tag, r.slot) := by
  unfold changeRecord
  rw [List.map_map]
  refine List.map_congr_left fun r hr => ?_
  simp only [Function.comp]
  split
  · next e => rw [(h r hr e).1, (h r hr e).2]
  · rfl

theorem updateRecord_roster (tag : Nat) (f : LoafRecord → LoafRecord)
    (h : ∀ r ∈ s.queue.records, r.tag = tag → (f r).tag = r.tag ∧ (f r).slot = r.slot) :
    (s.updateRecord tag f).queue.roster = s.queue.roster := roster_changeRecord tag f _ h

theorem updateRecord_evolves (tag : Nat) (f : LoafRecord → LoafRecord)
    (h : G → ∀ r ∈ s.queue.records, r.tag = tag → (f r).tag = r.tag ∧ (f r).slot = r.slot) : Evolves G s (s.updateRecord tag f) :=
  (Quiet.queue _ fun g => ⟨updateRecord_roster s tag f (h g), rfl⟩).evolves

/-- The record under r's tag refers to r's slot, and no other tag is r's. -/
def State.owns (s : State) (r : LoafRecord) : Prop := s.present r ∧ ∀ i, (r.tag, i) ∈ s.queue.roster → i = r.slot

theorem State.owns.same_slot {s : State} {r x : LoafRecord} (h : s.owns r) (hx : x ∈ s.queue.records) (e : x.tag = r.tag) :
    x.slot = r.slot := h.2 x.slot (e ▸ List.mem_map.mpr ⟨x, hx, rfl⟩)

theorem State.owns.of_roster {s t : State} {r : LoafRecord} (h : s.owns r) (e : t.queue.roster = s.queue.roster) : t.owns r := by
  unfold State.owns State.present; rw [e]; exact h

theorem putRecord_roster {s : State} {r : LoafRecord} (h : s.owns r) : (s.putRecord r).queue.roster = s.queue.roster :=
  updateRecord_roster s r.tag _ fun _ hx e => ⟨e.symm, (h.same_slot hx e).symm⟩

theorem putRecord_evolves (r : LoafRecord) (h : G → s.owns r) : Evolves G s (s.putRecord r) :=
  updateRecord_evolves s r.tag _ fun g _ hx e => ⟨e.symm, ((h g).same_slot hx e).symm⟩

theorem present_of_mem {s : State} {r : LoafRecord} (h : r ∈ s.queue.records) : s.present r := List.mem_map.mpr ⟨r, h, rfl⟩

/-- With distinct tags, a record of the queue is the only one under its tag. -/
theorem owns_of_mem {s : State} {r : LoafRecord} (tags : (s.queue.records.map LoafRecord.tag).Nodup) (h : r ∈ s.queue.records) :
    s.owns r := by
  refine ⟨present_of_mem h, fun i hi => ?_⟩
  obtain ⟨x, hx, e⟩ := List.mem_map.mp hi
  cases List.inj_on_of_nodup_map tags hx h (congrArg Prod.fst e)
  exact (congrArg Prod.snd e).symm

theorem judgeAdmission_evolves (r : LoafRecord) (x : Reasons) (p : Pos) : Evolves G s (s.judgeAdmission r x p) := by
  unfold State.judgeAdmission
  split
  · exact .refl s
  · refine .ite (fun _ => .refl s) fun _ => ?_
    split
    · exact .refl s
    · rename_i id _ _ _ e _
      refine .ite (fun _ => ?_) fun _ => ?_
      · have admitted := updateEntry_evolves (G := G) s id fun x => { x with admitted := x.admitted + 1 }
        exact .ite (fun _ => admitted.trans (fillByAdmission_evolves _ _ p)) fun _ => admitted
      · have withdrawn := updateRecord_evolves (G := G) s r.tag (fun x => { x with entry := none }) fun _ _ _ _ => ⟨rfl, rfl⟩
        exact (withdrawn.trans (updateEntry_evolves _ _ _)).trans (closeEntry_evolves _ _)

theorem watchGap_evolves : Evolves G s s.watchGap := by
  unfold State.watchGap
  split
  · exact .ite (fun _ => (releaseHold_evolves s rfl).trans (setSchedule_evolves _ _)) fun _ => .refl s
  · exact .refl s

end Sys2Proof.Machine
end

section
/-! SUPPORT. The Bag and Clip Unit, the queue and an advance of H as chains of events. -/

namespace Sys2Proof.Machine

variable {G : Prop} (s : State)

/-! ## Bags and ties -/

/-- The Bag and Clip Unit replaced, the reasons of the zones left. -/
theorem HoldsKeep.of_bag {s : State} (b : BagClipUnit) {w : Set16} (tyer : s.bag.TyerLaw s.line.holds → b.TyerLaw w)
    (full : ∀ z, inHolds w (fullReason z) = s.held (fullReason z)) : HoldsKeep s b s.crumb w where
  tyer := tyer
  valve _ h := h
  rest z h := by rw [full]; exact h

theorem setBag_evolves (b : BagClipUnit) (h : s.bag.TyerLaw s.line.holds → b.TyerLaw s.line.holds) : Evolves G s (s.setBag b) :=
  (Quiet.blocks b s.crumb (.of_bag b h fun _ => rfl)).evolves

theorem setBag_placeHold_evolves (b : BagClipUnit) (r : HoldReason) (ne : ∀ z, r ≠ fullReason z)
    (h : s.bag.TyerLaw s.line.holds → b.TyerLaw (s.line.holds ||| r.bit)) : Evolves G s ((s.setBag b).placeHold r) :=
  HoldsKeep.placeHold (c := s.crumb) s <| .of_bag b h fun z => by
    rw [inHolds_or_bit, decide_eq_false (ne z), Bool.false_or]; rfl

theorem setBag_releaseHold_evolves (b : BagClipUnit) (r : HoldReason) (ne : ∀ z, r ≠ fullReason z)
    (h : s.bag.TyerLaw s.line.holds → b.TyerLaw (s.line.holds &&& ~~~r.bit)) : Evolves G s ((s.setBag b).releaseHold r) :=
  HoldsKeep.releaseHold (c := s.crumb) s <| .of_bag b h fun z => by
    rw [inHolds_and_not_bit, decide_eq_false (ne z), Bool.not_false, Bool.true_and]; rfl

theorem setMagazine_evolves (count threshold : Nat) : Evolves G s (s.setMagazine count threshold) := by
  have judged : Evolves G s
      ((s.setBag { s.bag with magazine := count, lowThreshold := threshold }).judgeHold .clipEmpty (decide (count = 0))) := by
    refine .ite (fun empty => ?_) fun left => ?_
    · refine setBag_placeHold_evolves s _ _ (fun z => by cases z <;> decide) fun ⟨_, fault, firing, date⟩ => ?_
      simp only [decide_eq_true_eq] at empty
      exact ⟨by simp [inHolds_or_bit, empty], by simpa [inHolds_or_bit] using fault, firing, by simpa [inHolds_or_bit] using date⟩
    · refine setBag_releaseHold_evolves s _ _ (fun z => by cases z <;> decide) fun ⟨_, fault, firing, date⟩ => ?_
      simp only [decide_eq_true_eq] at left
      exact ⟨by simp [inHolds_and_not_bit, left], by simpa [inHolds_and_not_bit] using fault, firing,
        by simpa [inHolds_and_not_bit] using date⟩
  exact .ite (fun _ => judged.trans (notify_evolves _ _ _)) fun _ => judged

theorem setTieStatus_evolves (tag : Nat) (x : TieStatus) : Evolves G s (s.setTieStatus tag x) :=
  updateRecord_evolves s tag (fun r => { r with tie := x }) fun _ _ _ _ => ⟨rfl, rfl⟩

theorem missTie_evolves (tag : Nat) (c : MissCause) : Evolves G s (s.missTie tag c) :=
  (setBag_evolves s { s.bag with lastMiss := some (tag, c) } id).trans (setTieStatus_evolves _ _ _)

theorem fireTyer_evolves (tag : Nat) (ready : s.bag.tyer = .ready) : Evolves G s (s.fireTyer tag) := by
  have fired : Evolves G s (s.setBag
      { s.bag with
        fireLine := .driven (s.now + firePulse)
        tyer := .firing
        tieInFlight := some { tag := tag, present := true, expiry := s.now + s.bag.tieTimeout } }) := by
    refine setBag_evolves s _ fun ⟨clips, fault, _, date⟩ => ⟨clips, ?_, by simp, date⟩
    rw [fault, ready]; simp
  exact ((fired.trans (setMagazine_evolves _ _ _)).trans (countClip_evolves _)).trans (setTieStatus_evolves _ _ _)

theorem takeTieFire_evolves (tag : Nat) : Evolves G s (s.takeTieFire tag) := by
  unfold State.takeTieFire
  split
  · next ready => exact .ite (fun _ => missTie_evolves s _ _) fun _ => fireTyer_evolves s tag ready
  · exact missTie_evolves s _ _
  · exact missTie_evolves s _ _

theorem enterTie_evolves (tag : Nat) (q : Pos) : Evolves G s (s.enterTie tag q) := setBag_evolves s _ id

theorem withdrawTie_evolves (tag : Nat) : Evolves G s (s.withdrawTie tag) :=
  setBag_evolves s _ fun ⟨clips, fault, firing, date⟩ => ⟨clips, fault, by rw [firing]; simp, date⟩

theorem endTie_evolves (f : TieInFlight) (x : TieStatus) : Evolves G s (s.endTie f x) :=
  .ite (fun _ => setTieStatus_evolves s _ _) fun _ => .refl s

/-! ## Leaves -/

/-- The queue replaced, whatever counts move with it. -/
theorem setQueue_quietly (q : TrackingQueue) : Evolves False s (s.setQueue q) := (Quiet.queue q False.elim).evolves

theorem lowerInFlight_quietly (i : Fin 16) : Evolves False s (s.lowerInFlight i) := by
  have slot (x : Slot) (active : x.state = .active → (s.slot i).state = .active)
      (loaded : (s.slot i).state = .loaded → x.state = .loaded)
      (product : RecipeLaw s → (x.state = .empty ↔ x.product = none)) : Evolves False s (s.setSlot i x) :=
    setSlot_evolves s i x (fun h => setSlot_recipeLaw s i x h active (fun y hy e => loaded (e ▸ h.2.1 y hy)) (product h)) False.elim
  refine .ite (fun gone => ?_) fun _ => ?_
  · refine (slot _ (fun active => absurd active (by simp [Slot.emptied])) (fun loaded => ?_) fun _ => ⟨fun _ => rfl, fun _ => rfl⟩).trans
      (notify_evolves _ _ _)
    exact absurd (loaded.symm.trans gone.1) (by decide)
  · exact slot _ id id fun h => h.2.2 i

theorem removeRecord_quietly (tag : Nat) : Evolves False s (s.removeRecord tag) := by
  have dropped := setQueue_quietly s { s.queue with records := dropRecord tag s.queue.records }
  exact .ite (fun _ => dropped.trans (releaseHold_evolves _ rfl)) fun _ => dropped

theorem leave_quietly (r : LoafRecord) (o : LeaveOutcome) : Evolves False s (s.leave r o) :=
  (((((setShift_evolves s _ False.elim).trans (countInEntry_evolves _ r o)).trans (lowerInFlight_quietly _ _)).trans
    (removeRecord_quietly _ _)).trans (withdrawTie_evolves _ _)).trans (judgeBlasts_evolves _)

theorem leave_evolves (r : LoafRecord) (o : LeaveOutcome) (h : G → s.present r) : Evolves G s (s.leave r o) :=
  .single (.leave r o h (leave_quietly s r o).quietly)

theorem judgeWithdrawn_evolves (r : LoafRecord) : Evolves G s (s.judgeWithdrawn r) :=
  .ite (fun _ => notify_evolves s _ _) fun _ => .refl s

theorem lose_evolves (r : LoafRecord) (h : G → s.present r) : Evolves G s (s.lose r) :=
  ((leave_evolves s r _ h).trans (notify_evolves _ _ _)).trans (judgeWithdrawn_evolves _ r)

/-! ## Gates -/

theorem setGate_evolves (g : Gate) (x : Pulse) : Evolves G s (s.setGate g x) := by
  cases g
  · exact (Quiet.queue { s.queue with rejectGate := x } fun _ => ⟨rfl, rfl⟩).evolves
  · exact (Quiet.queue { s.queue with exitGate := x } fun _ => ⟨rfl, rfl⟩).evolves

theorem driveGate_evolves (g : Gate) : Evolves G s (s.driveGate g) := by
  unfold State.driveGate
  split
  · exact setGate_evolves s g _
  · exact .refl s

theorem driveGate_records (g : Gate) : (s.driveGate g).queue.records = s.queue.records := by
  unfold State.driveGate
  split
  · cases g <;> rfl
  · rfl

theorem present_driveGate (g : Gate) (r : LoafRecord) : (s.driveGate g).present r ↔ s.present r := by
  rw [State.present, TrackingQueue.roster, driveGate_records]; rfl

theorem rejectFire_evolves (r : LoafRecord) (h : G → s.present r) : Evolves G s (s.rejectFire r) :=
  (driveGate_evolves s _).trans (leave_evolves _ r _ fun g => (present_driveGate s _ r).mpr (h g))

theorem exitFire_evolves (r : LoafRecord) (h : G → s.present r) : Evolves G s (s.exitFire r) := by
  unfold State.exitFire
  split
  · exact leave_evolves s r _ h
  · exact (driveGate_evolves s _).trans (leave_evolves _ r _ fun g => (present_driveGate s _ r).mpr (h g))

/-! ## Creation and planning -/

theorem joinRecord_quietly (r : LoafRecord) : Evolves False s (s.joinRecord r) := by
  have joined := setQueue_quietly s { s.queue with records := s.queue.records ++ [r], tagCounter := after255 r.tag }
  exact .ite (fun _ => joined.trans (placeHold_evolves _ rfl)) fun _ => joined

theorem raiseInFlight_quietly (i : Fin 16) : Evolves False s (s.raiseInFlight i) :=
  setSlot_evolves s i _ (fun h => setSlot_recipeLaw s i _ h id (fun y hy e => e ▸ h.2.1 y hy) (h.2.2 i)) False.elim

theorem createRecord_quietly (i : Fin 16) (p : Pos) : Evolves False s (s.createRecord i p) :=
  ((((joinRecord_quietly s _).trans (raiseInFlight_quietly _ i)).trans (raiseCarried_evolves _ _)).trans
    (setShift_evolves _ _ False.elim)).trans (judgeBlasts_evolves _)

theorem createRecord_evolves (i : Fin 16) (p : Pos) (room : s.queueCount < queueCapacity) : Evolves G s (s.createRecord i p) :=
  .single (.create i p room (createRecord_quietly s i p).quietly)

theorem enterLoaf_evolves (p : Pos) : Evolves G s (s.enterLoaf p) := by
  unfold State.enterLoaf
  split
  · exact .refl s
  · refine .ite (fun _ => (countUntracked_evolves s).trans (notify_evolves _ _ _)) fun room => ?_
    split
    · exact takePending_evolves s
    · refine (takePending_evolves s).trans (createRecord_evolves _ _ p ?_)
      have same : s.takePending.queueCount = s.queueCount := by
        rw [State.queueCount, takePending_frame s .queue (by decide)]; rfl
      omega

theorem measuring?_mem {r : LoafRecord} (h : s.measuring? = some r) : r ∈ s.queue.records := List.mem_of_find?_eq_some h

theorem infeedLeading_evolves (p : Pos) : Evolves G s (s.infeedLeading p) := by
  unfold State.infeedLeading
  split
  · next r found => exact (lose_evolves s r fun _ => present_of_mem (measuring?_mem s found)).trans (enterLoaf_evolves _ p)
  · exact enterLoaf_evolves s p

theorem judgeBagReady_evolves (x : Reasons) : Evolves G s (s.judgeBagReady x) :=
  .ite (fun _ => .refl s) fun _ => notify_evolves s _ _

theorem planRecord_evolves (r : LoafRecord) (q : Product) (p : Pos) : Evolves G s (s.planRecord r q p) := by
  have planned := updateRecord_evolves (G := G) s r.tag
    (fun x => { x with
      plan := some (makePlan r.reference p s.pos.config q (s.held .bladeMismatch)).1
      reasons := x.reasons.union (makePlan r.reference p s.pos.config q (s.held .bladeMismatch)).2
      stage := .toSlicer }) fun _ _ _ _ => ⟨rfl, rfl⟩
  exact ((planned.trans (judgeAdmission_evolves _ r _ p)).trans (judgeBagReady_evolves _ _)).trans (judgeBlasts_evolves _)

theorem infeedTrailing_evolves (p : Pos) : Evolves G s (s.infeedTrailing p) := by
  unfold State.infeedTrailing
  split
  · exact .refl s
  · split
    · exact planRecord_evolves s _ _ p
    · exact .refl s

/-! ## Matching -/

theorem strayEdge_evolves : Evolves G s s.strayEdge := (countStray_evolves s).trans (notify_evolves _ _ _)

/-- Where only other parts change, the roster stands. -/
theorem owns_of_frame {s t : State} {ps : List Part} {r : LoafRecord} (h : s.owns r) (frame : OnlyTouches ps s t)
    (apart : Part.queue ∉ ps) : t.owns r := h.of_roster (congrArg TrackingQueue.roster (frame .queue apart))

theorem matchE1_evolves (r : LoafRecord) (p : Pos) (h : G → s.owns r) : Evolves G s (s.matchE1 r p) := by
  have charged := (putRecord_evolves s r h).trans (charge_evolves (s.putRecord r) .z0 (r.plan.elim 0 Plan.crumb))
  have owner : G → ((s.putRecord r).charge .z0 (r.plan.elim 0 Plan.crumb)).owns r := fun g =>
    owns_of_frame ((h g).of_roster (putRecord_roster (h g))) (charge_frame _ _ _) (by decide)
  refine .ite (fun _ => ?_) fun _ => (charged.trans (putRecord_evolves _ { r with stage := .toBag } owner)).trans (judgeBlasts_evolves _)
  split
  · exact charged
  · next q _ =>
    have diverting := (charged.trans (putRecord_evolves _ { r with
      stage := .diverting, gateFire := some q
      late := r.late || reached q ((s.putRecord r).charge .z0 (r.plan.elim 0 Plan.crumb)).pos.h } owner)).trans
      (judgeWithdrawn_evolves _ r)
    refine .ite (fun _ => diverting.trans (rejectFire_evolves _ _ fun g => ?_)) fun _ => diverting.trans (judgeBlasts_evolves _)
    exact (owns_of_frame ((owner g).of_roster (putRecord_roster (r := { r with stage := .diverting, gateFire := some q, late := _ })
      (owner g))) (judgeWithdrawn_frame _ _) (by decide)).1

theorem matchE2_evolves (r : LoafRecord) (p : Pos) (h : G → s.owns r) : Evolves G s (s.matchE2 r p) := by
  have charged := (putRecord_evolves s r h).trans
    (charge_evolves (s.putRecord r) .z1 (bagZoneCharge (r.plan.elim 0 Plan.crumb)))
  have bagging := charged.trans (putRecord_evolves _ { r with stage := .bagging, blind := r.blind || !r.fetched } fun g =>
    owns_of_frame ((h g).of_roster (putRecord_roster (h g))) (charge_frame _ _ _) (by decide))
  exact (Evolves.ite (fun _ => bagging) fun _ => bagging.trans (notify_evolves _ _ _)).trans (judgeBlasts_evolves _)

theorem matchE3_evolves (r : LoafRecord) (p : Pos) (h : G → s.owns r) : Evolves G s (s.matchE3 r p) := by
  have tying := (putRecord_evolves s { r with stage := .tying } h).trans (judgeBlasts_evolves _)
  refine .ite (fun _ => tying) fun _ => ?_
  split
  · exact tying
  · next q _ =>
    have put := putRecord_evolves s { r with stage := .tying, tieFire := some q, late := r.late || reached q s.pos.h } h
    exact (Evolves.ite (fun _ => put.trans (takeTieFire_evolves _ _)) fun _ => put.trans (enterTie_evolves _ _ _)).trans
      (judgeBlasts_evolves _)

theorem matchE4_evolves (r : LoafRecord) (p : Pos) (h : G → s.owns r) : Evolves G s (s.matchE4 r p) := by
  unfold State.matchE4
  split
  · exact (putRecord_evolves s r h).trans (leave_evolves _ r _ fun g => ((h g).of_roster (putRecord_roster (h g))).1)
  · next q _ =>
    have put := putRecord_evolves s { r with stage := .exiting, gateFire := some q, late := r.late || reached q s.pos.h } h
    refine .ite (fun _ => put.trans (exitFire_evolves _ _ fun g => ?_)) fun _ => put.trans (judgeBlasts_evolves _)
    exact ((h g).of_roster (putRecord_roster (r := { r with stage := .exiting, gateFire := some q, late := _ }) (h g))).1

theorem matchAt_evolves (e : Eye) (r : LoafRecord) (p : Pos) (h : G → s.owns r) : Evolves G s (s.matchAt e r p) := by
  cases e
  · exact .refl s
  · exact matchE1_evolves s r p h
  · exact matchE2_evolves s r p h
  · exact matchE3_evolves s r p h
  · exact matchE4_evolves s r p h

/-- A loss leaves the other records, and takes out those under the lost one's tag. -/
theorem lose_records (r : LoafRecord) : (s.lose r).queue.records = dropRecord r.tag s.queue.records := by
  rw [State.lose, judgeWithdrawn_frame _ _ .queue (by decide), notify_frame _ _ _ .queue (by decide), leave_records]

/-- The records of a list are in the queue, each alone under its tag, and the list names no tag twice. -/
def State.ownsAll (s : State) (rs : List LoafRecord) : Prop := (∀ r ∈ rs, s.owns r) ∧ (rs.map LoafRecord.tag).Nodup

theorem mem_roster_drop {tag t : Nat} {i : Fin 16} (rs : List LoafRecord) :
    (t, i) ∈ (dropRecord tag rs).map (fun r => (r.tag, r.slot)) ↔ (t, i) ∈ rs.map (fun r => (r.tag, r.slot)) ∧ t ≠ tag := by
  simp only [List.mem_map, mem_dropRecord, Prod.mk.injEq]
  constructor
  · rintro ⟨r, ⟨hr, ne⟩, rfl, rfl⟩; exact ⟨⟨r, hr, rfl, rfl⟩, ne⟩
  · rintro ⟨⟨r, hr, rfl, rfl⟩, ne⟩; exact ⟨r, ⟨hr, ne⟩, rfl, rfl⟩

/-- What becomes of the rest of a list when the record at its front leaves. -/
theorem State.ownsAll.tail {s t : State} {r : LoafRecord} {rs : List LoafRecord} (h : s.ownsAll (r :: rs))
    (gone : t.queue.records = dropRecord r.tag s.queue.records) : t.ownsAll rs := by
  obtain ⟨owners, tags⟩ := h
  obtain ⟨fresh, tags⟩ := List.nodup_cons.mp tags
  refine ⟨fun x hx => ?_, tags⟩
  have ne : x.tag ≠ r.tag := fun e => fresh (e ▸ List.mem_map_of_mem hx)
  obtain ⟨here, only⟩ := owners x (List.mem_cons_of_mem _ hx)
  unfold State.owns State.present TrackingQueue.roster
  rw [gone]
  exact ⟨(mem_roster_drop _).mpr ⟨here, ne⟩, fun i hi => only i ((mem_roster_drop _).mp hi).1⟩

/-- With distinct tags a part of the queue, in order, is owned. -/
theorem ownsAll_of_sublist {s : State} {rs : List LoafRecord} (tags : (s.queue.records.map LoafRecord.tag).Nodup)
    (h : rs.Sublist s.queue.records) : s.ownsAll rs :=
  ⟨fun _ hr => owns_of_mem tags (h.subset hr), (h.map _).nodup tags⟩

theorem tryCandidates_evolves (e : Eye) (st : EyeStation) (p : Pos) (rs : List LoafRecord) (h : G → s.ownsAll rs) :
    Evolves G s (s.tryCandidates e st p rs) := by
  induction rs generalizing s with
  | nil => exact strayEdge_evolves s
  | cons r rest ih =>
    unfold State.tryCandidates
    refine .ite (fun _ => strayEdge_evolves s) fun _ => .ite (fun _ => ?_) fun _ => ?_
    · exact (lose_evolves s r fun g => ((h g).1 r List.mem_cons_self).1).trans (ih _ fun g => (h g).tail (lose_records s r))
    · exact matchAt_evolves s e (r.rebase p st) p fun g => (h g).1 r List.mem_cons_self

theorem candidates_sublist (e : Eye) : (s.candidates e).Sublist s.queue.records := by
  unfold State.candidates
  split
  · exact List.nil_sublist _
  · exact List.filter_sublist

theorem downstreamLeading_evolves (e : Eye) (p : Pos) (tags : G → (s.queue.records.map LoafRecord.tag).Nodup) :
    Evolves G s (s.downstreamLeading e p) := by
  unfold State.downstreamLeading
  split
  · exact strayEdge_evolves s
  · exact tryCandidates_evolves s e _ p _ fun g => ownsAll_of_sublist (tags g) (candidates_sublist s e)

theorem takeEdge_evolves (e : Eye) (l : Level) (p : Pos) (tags : G → (s.queue.records.map LoafRecord.tag).Nodup) :
    Evolves G s (s.takeEdge e l p) := by
  cases e <;> cases l
  case e0.dark => exact infeedLeading_evolves s p
  case e0.clear => exact infeedTrailing_evolves s p
  case e1.dark | e2.dark | e3.dark | e4.dark => exact downstreamLeading_evolves s _ p tags
  case e1.clear | e2.clear | e3.clear | e4.clear => exact .refl s

/-! ## An advance of H -/

theorem record?_mem {tag : Nat} {r : LoafRecord} (h : s.record? tag = some r) : r ∈ s.queue.records := List.mem_of_find?_eq_some h

theorem takeDue_evolves (tag : Nat) : Evolves G s (s.takeDue tag) := by
  unfold State.takeDue
  split
  · exact .refl s
  · next r found =>
    have here : G → s.present r := fun _ => present_of_mem (record?_mem s found)
    split
    · exact .refl s
    · exact lose_evolves s r here
    · exact rejectFire_evolves s r here
    · exact exitFire_evolves s r here

theorem watchRecords_evolves : Evolves G s s.watchRecords := .foldl _ takeDue_evolves _ s

theorem watchTie_evolves (x : PendingTie) : Evolves G s (s.watchTie x) := by
  have taken (t : State) : Evolves G t ((t.setBag { t.bag with pendingTies := dropTies x.tag t.bag.pendingTies }).takeTieFire x.tag) :=
    (setBag_evolves t { t.bag with pendingTies := dropTies x.tag t.bag.pendingTies } id).trans (takeTieFire_evolves _ _)
  refine .ite (fun _ => .ite (fun _ => ?_) fun _ => taken s) fun _ => .refl s
  have chosen : Evolves G s (s.setChoices (s.choices + 1)) := (Quiet.choices _).evolves
  exact .ite (fun _ => chosen) fun _ => chosen.trans (taken _)

theorem watchTies_evolves : Evolves G s s.watchTies := .foldl _ watchTie_evolves _ s

theorem activity_evolves : Evolves G s s.activity := by
  unfold State.activity
  split
  · exact .refl s
  · next running => exact (Quiet.timer _ running).evolves
  · exact (Quiet.lineState _ _ (by simp)).evolves.trans (dropPurges_evolves _)

theorem advanced_evolves : Evolves G s s.advanced :=
  ((((activity_evolves s).trans (watchTies_evolves _)).trans (watchRecords_evolves _)).trans (watchGap_evolves _)).trans
    (judgeBlasts_evolves _)

end Sys2Proof.Machine
end

section
/-! SUPPORT. Every command, and every step, as a chain of events. -/

namespace Sys2Proof.Machine

variable {G : Prop} (s : State)

/-! ## The Position Unit and the eyes -/

/-- The Position Unit replaced by one with its positions and its speed. -/
theorem setPos_evolves (u : PositionUnit) (h : s.pos.Law → u.Law) : Evolves G s (s.setPos u) := (Quiet.pos u h).evolves

theorem PositionUnit.law_iff (u : PositionUnit) : u.Law ↔ u.ExcursionLaw ∧ u.v ≤ 262080 :=
  ⟨fun ⟨x, limit, v⟩ => ⟨⟨x, limit⟩, v⟩, fun ⟨⟨x, limit⟩, v⟩ => ⟨x, limit, v⟩⟩

theorem stepForward_evolves : Evolves G s s.stepForward := by
  have law : s.pos.Law → s.stepForward.pos.Law := fun h => by
    obtain ⟨excursion, v⟩ := s.pos.law_iff.mp h
    refine (PositionUnit.law_iff _).mpr ⟨stepForward_excursionLaw s excursion, ?_⟩
    by_cases x : s.pos.x = 0
    · rw [stepForward_pos_atH s x]; exact v
    · rw [stepForward_behindH s (Nat.pos_of_ne_zero x)]; exact v
  by_cases x : s.pos.x = 0
  · rw [stepForward_pos_atH s x] at law
    rw [State.stepForward, if_pos x]
    exact (setPos_evolves s _ law).trans (advanced_evolves _)
  · rw [stepForward_behindH s (Nat.pos_of_ne_zero x)] at law ⊢
    exact setPos_evolves s _ law

theorem stepReverse_evolves : Evolves G s s.stepReverse := by
  have law : s.pos.Law → s.stepReverse.pos.Law := fun h => by
    obtain ⟨excursion, v⟩ := s.pos.law_iff.mp h
    refine (PositionUnit.law_iff _).mpr ⟨stepReverse_excursionLaw s excursion, ?_⟩
    unfold State.stepReverse
    split <;> exact v
  by_cases limit : s.pos.x < excursionLimit
  · rw [stepReverse_belowLimit s limit] at law ⊢
    exact setPos_evolves s _ law
  · rw [stepReverse_atLimit s (Nat.le_of_not_lt limit)] at law ⊢
    exact setPos_evolves s _ law

theorem encoder_evolves (q : Quad) : Evolves G s (s.encoder q) := by
  have lines : Evolves G s (s.takeLines q) := setPos_evolves s _ id
  exact .ite (fun _ => lines.trans (stepForward_evolves _)) fun _ => .ite (fun _ => lines.trans (stepReverse_evolves _)) fun _ => lines

theorem setFilter_evolves (e : Eye) (f : EyeFilter) : Evolves G s (s.setFilter e f) := setPos_evolves s _ id

theorem edgeActivity_evolves (e : Eye) : Evolves G s (s.edgeActivity e) := by
  cases e
  case e0 => exact activity_evolves s
  all_goals exact .refl s

theorem acceptEdge_evolves (e : Eye) (l : Level) (c : PendingChange) (tags : G → (s.queue.records.map LoafRecord.tag).Nodup) :
    Evolves G s (s.acceptEdge e l c) := by
  have accepted := (setFilter_evolves (G := G) s e { accepted := l, change := none }).trans (edgeActivity_evolves _ e)
  refine .ite (fun _ => accepted.trans (takeEdge_evolves _ e l _ fun g => ?_)) fun _ => accepted
  rw [edgeActivity_frame _ e .queue (by decide)]
  exact tags g

theorem rawLevel_evolves (e : Eye) (l : Level) (tags : G → (s.queue.records.map LoafRecord.tag).Nodup) :
    Evolves G s (s.rawLevel e l) := by
  refine .ite (fun _ => .refl s) fun _ => ?_
  split
  · exact setFilter_evolves s _ _
  · exact .ite (fun _ => acceptEdge_evolves s e l _ tags) fun _ => setFilter_evolves s _ _

theorem filterExpiry_evolves (e : Eye) (tags : G → (s.queue.records.map LoafRecord.tag).Nodup) : Evolves G s (s.filterExpiry e) := by
  unfold State.filterExpiry
  split
  · next c _ =>
    refine (reach_evolves s c.expiry).trans (acceptEdge_evolves _ e _ c fun g => ?_)
    rw [reach_frame s _ .queue (by decide)]
    exact tags g
  · exact .refl s

/-! ### The speed sampler (R6, R7) -/

theorem clampInt_le (lo hi : Nat) (h : lo ≤ hi) (a : Int) : clampInt lo hi a ≤ hi := by
  unfold clampInt; split
  · exact h
  · split <;> omega

theorem rawSpeed_le (u : PositionUnit) : u.rawSpeed ≤ 262080 := by
  have := clampInt_le 0 4095 (by decide) (posDiff u.h u.windowStart)
  unfold PositionUnit.rawSpeed; omega

/-- A quarter, rounded, is at most the whole. -/
theorem roundNat_four_le (a : Nat) : roundNat a 4 ≤ a := by
  unfold roundNat
  split
  · omega
  · split
    · omega
    · split <;> omega

/-- The filtered speed lies between the old speed and the raw speed (R7). -/
theorem filteredSpeed_between (v raw : Nat) :
    (v ≤ raw → v ≤ filteredSpeed v raw ∧ filteredSpeed v raw ≤ raw)
      ∧ (raw ≤ v → raw ≤ filteredSpeed v raw ∧ filteredSpeed v raw ≤ v) := by
  unfold filteredSpeed roundInt
  constructor
  · intro le
    have quarter := roundNat_four_le ((raw : Int) - v).natAbs
    rw [if_neg (by omega)]; omega
  · intro le
    have quarter := roundNat_four_le ((raw : Int) - v).natAbs
    split <;> omega

theorem sample_law {u : PositionUnit} (h : u.Law) : u.sample.Law := by
  obtain ⟨x, limit, v⟩ := h
  refine ⟨x, limit, ?_⟩
  obtain ⟨up, down⟩ := filteredSpeed_between u.v u.rawSpeed
  have raw := rawSpeed_le u
  obtain le | le := Nat.le_total u.v u.rawSpeed
  · exact (up le).2.trans raw
  · exact (down le).2.trans v

theorem sampleSpeed_evolves : Evolves G s s.sampleSpeed := by
  refine ((reach_evolves s _).trans (setPos_evolves _ _ fun h => ?_)).trans (judgeBlasts_evolves _)
  rw [reach_frame s _ .pos (by decide)] at h
  exact sample_law h

/-! ## Timers -/

theorem endGatePulse_evolves (g : Gate) : Evolves G s (s.endGatePulse g) := by
  unfold State.endGatePulse
  split
  · exact (reach_evolves s _).trans (setGate_evolves _ g _)
  · exact .refl s

/-- What the passing of time leaves: the line, its hold set, and the Bag and Clip Unit. -/
theorem reach_bag (x : Nat) : (s.reach x).bag = s.bag := reach_frame s x .bag (by decide)

theorem reach_line (x : Nat) : (s.reach x).line = s.line := reach_frame s x .line (by decide)

theorem endFirePulse_evolves : Evolves G s s.endFirePulse := by
  unfold State.endFirePulse
  split
  · refine (reach_evolves s _).trans (setBag_evolves _ _ fun h => ?_)
    rw [reach_bag] at h; exact h
  · exact .refl s

theorem tyerDone_evolves : Evolves G s s.tyerDone := by
  unfold State.tyerDone
  split
  · next firing _ =>
    refine (setBag_evolves s { s.bag with tyer := .ready, tieInFlight := none } fun ⟨clips, fault, _, date⟩ => ?_).trans
      (endTie_evolves _ _ _)
    refine ⟨clips, ?_, by simp, date⟩
    rw [fault, firing]; simp
  · exact .refl s

theorem tieTimeout_evolves : Evolves G s s.tieTimeout := by
  unfold State.tieTimeout
  split
  · next f _ _ =>
    refine ((((reach_evolves s f.expiry).trans ?_).trans (notify_evolves _ _ _))).trans (endTie_evolves _ _ _)
    refine setBag_placeHold_evolves _ _ _ (fun z => by cases z <;> decide) fun h => ?_
    rw [reach_bag, reach_line] at h
    obtain ⟨clips, -, -, date⟩ := h
    rw [reach_line]
    simp only [BagClipUnit.TyerLaw, BagClipUnit.timedOut, inHolds_or_bit]
    exact ⟨by simpa using clips, by simp, by simp, by simpa using date⟩
  · exact .refl s

theorem zone_reach (x : Nat) (z : Zone) : (s.reach x).zone z = s.zone z := by
  rw [State.zone, reach_frame s x .crumb (by decide)]; rfl

theorem held_reach (x : Nat) (r : HoldReason) : (s.reach x).held r = s.held r := by
  rw [State.held, reach_line]; rfl

/-- The counting of a blast and the zone's change may stand in either order. -/
theorem setZone_countBlast (z : Zone) (x : ZoneState) : (s.setZone z x).countBlast z = (s.countBlast z).setZone z x := by
  cases z <;> rfl

theorem endBlast_evolves (z : Zone) : Evolves G s (s.endBlast z) := by
  unfold State.endBlast
  split
  · next t blasting =>
    rw [setZone_countBlast]
    have counted := (reach_evolves (G := G) s t).trans (countBlast_evolves _ z)
    refine (counted.trans (setZone_judgeFull_evolves _ z ((s.zone z).blasted ((s.bar z).elim 0 Bar.yield))
      (fun _ => rest_valveLaw (s.zone z)) fun h => ?_)).trans (judgeBlast_evolves _ z)
    have zone : ((s.reach t).countBlast z).zone z = s.zone z := by
      rw [State.zone, countBlast_frame _ z .crumb (by decide)]; exact zone_reach s t z
    rw [zone] at h
    have fitted : (s.zone z).fitted = true := by
      by_contra unfitted
      obtain ⟨-, resting, -⟩ := h (by simpa using unfitted)
      exact absurd (blasting.symm.trans resting) (by simp)
    exact ⟨fun unfitted => absurd (fitted.symm.trans unfitted) (by decide), .inl fitted⟩
  · exact .refl s

theorem setLineState_evolves (l : LineState) (x : Option Nat) (h : x ≠ none ↔ l = .running) : Evolves G s (s.setLineState l x) :=
  (Quiet.lineState l x h).evolves

theorem idleExpired_evolves : Evolves G s s.idleExpired := by
  unfold State.idleExpired
  split
  · exact (((reach_evolves s _).trans (setLineState_evolves _ _ _ (by simp))).trans (notify_evolves _ _ _)).trans
      (enterIdlePurge_evolves _)
  · exact .refl s

theorem fillAccumulator_evolves (a : TimeCount) : Evolves G s (s.fillAccumulator a) :=
  .ite (fun _ => elapse_evolves s _) fun _ => .refl s

/-! ## The store -/

/-- A bank replaced by one in range, the other left. -/
theorem setBank_inRange {t : TotalsStore} (i : BankId) (x : Bank) (h : ∀ j, (t.bank j).inRange) (hx : x.inRange) (j : BankId) :
    ((t.setBank i x).bank j).inRange := by
  by_cases e : j = i
  · subst e; rw [bank_setBank_self]; exact hx
  · rw [bank_setBank_of_ne _ _ _ _ e]; exact h j

theorem setBank_state (t : TotalsStore) (i : BankId) (x : Bank) : (t.setBank i x).state = t.state := by cases i <;> rfl

theorem setBank_current (t : TotalsStore) (i : BankId) (x : Bank) : (t.setBank i x).current = t.current := by cases i <;> rfl

/-- The bank of a store is read from its two banks alone. -/
theorem bank_with (t : TotalsStore) (current : Option BankId) (state : StoreState) (write : Option StoreWrite) (i : BankId) :
    ({ t with current := current, state := state, write := write } : TotalsStore).bank i = t.bank i := by cases i <;> rfl

/-- The target bank changed and the write moved on: its law holds after, where the bank is in range and has no valid state word, or the
numbers it holds are distinct. -/
theorem stepWrite_law {t : TotalsStore} {w next : StoreWrite} {x : Bank} (h : t.Law) (writing : t.write = some w)
    (target : next.target = w.target) (chosen : next.chosen = w.chosen) (newSeq : next.newSeq = w.newSeq) (range : x.inRange)
    (numbers : x.stateWord = true → (x.records.map ShiftRecord.number).Nodup)
    (programmed : next.step = .verify ∨ next.step = .stateWord → x.records = w.chosen) :
    ({ t.setBank w.target x with write := some next } : TotalsStore).Law := by
  obtain ⟨busy, law, current, ranges, distinct⟩ := h
  obtain ⟨apart, six, nodup, seq, -⟩ := law w writing
  have bank : ∀ i, ({ t.setBank w.target x with write := some next } : TotalsStore).bank i = (t.setBank w.target x).bank i :=
    fun i => bank_with _ _ _ _ i
  refine ⟨?_, fun w' hw => ?_, fun i hi => ?_, fun i => ?_, fun i hi => ?_⟩
  · simpa [setBank_state] using busy.mp (by simp [writing])
  · cases hw
    refine ⟨?_, chosen ▸ six, chosen ▸ nodup, newSeq ▸ seq, fun hs => ?_⟩
    · rw [target]; simpa [setBank_current] using apart
    · rw [bank, target, bank_setBank_self, chosen]; exact programmed hs
  · have ne : i ≠ w.target := fun e => apart (by rw [← e]; simpa [setBank_current] using hi)
    rw [bank, bank_setBank_of_ne _ _ _ _ ne]
    exact current i (by simpa [setBank_current] using hi)
  · rw [bank]; exact setBank_inRange _ _ ranges range i
  · by_cases e : i = w.target
    · subst e; rw [bank, bank_setBank_self] at hi ⊢; exact numbers hi
    · rw [bank, bank_setBank_of_ne _ _ _ _ e] at hi ⊢; exact distinct i hi

theorem setStore_evolves (t : TotalsStore) (h : s.store.Law → t.Law) : Evolves G s (s.setStore t) := (Quiet.store t h).evolves

theorem storeEraseDone_evolves : Evolves G s s.storeEraseDone := by
  unfold State.storeEraseDone
  split
  · next w writing =>
    refine .ite (fun _ => setStore_evolves s _ fun h => stepWrite_law h writing rfl rfl rfl ?_ (by simp [Bank.erase]) (by simp))
      fun _ => .refl s
    obtain ⟨low, high, -⟩ := h.2.2.2.1 w.target
    exact ⟨low, high, Nat.zero_le _⟩
  · exact .refl s

theorem newest_length (n : Nat) (rs : List ShiftRecord) : (newest n rs).length ≤ n := by
  simp [newest]; omega

theorem storeProgramDone_evolves : Evolves G s s.storeProgramDone := by
  unfold State.storeProgramDone
  split
  · next w writing =>
    refine .ite (fun _ => setStore_evolves s _ fun h => ?_) fun _ => .refl s
    obtain ⟨-, six, nodup, -, -⟩ := h.2.1 w writing
    obtain ⟨low, high, -⟩ := h.2.2.2.1 w.target
    exact stepWrite_law h writing rfl rfl rfl ⟨low, high, six⟩ (fun _ => nodup) fun _ => rfl
  · exact .refl s

/-- The write moved on with the banks as they stand. -/
theorem moveWrite_law {t : TotalsStore} {w next : StoreWrite} (h : t.Law) (writing : t.write = some w) (law : t.writeLaw next) :
    ({ t with write := some next } : TotalsStore).Law := by
  obtain ⟨busy, -, current, ranges, distinct⟩ := h
  refine ⟨by simpa using busy.mp (by simp [writing]), fun w' hw => ?_, current, ranges, distinct⟩
  cases hw; exact law

theorem storeVerifyDone_evolves (ok : Bool) : Evolves G s (s.storeVerifyDone ok) := by
  unfold State.storeVerifyDone
  split
  · next w writing =>
    refine .ite (fun verifying => .ite (fun _ => setStore_evolves s _ fun h => ?_) fun _ => .ite (fun _ => setStore_evolves s _ fun h => ?_)
      fun _ => (setStore_evolves s _ fun h => ?_).trans (notify_evolves _ _ _)) fun _ => .refl s
    · obtain ⟨apart, six, nodup, seq, programmed⟩ := h.2.1 w writing
      exact moveWrite_law h writing ⟨apart, six, nodup, seq, fun _ => programmed (.inl verifying)⟩
    · obtain ⟨apart, six, nodup, seq, -⟩ := h.2.1 w writing
      exact moveWrite_law h writing ⟨apart, six, nodup, seq, by simp⟩
    · obtain ⟨-, -, current, ranges, distinct⟩ := h
      exact ⟨by simp, by simp, current, ranges, distinct⟩
  · exact .refl s

theorem storeStateWordDone_evolves : Evolves G s s.storeStateWordDone := by
  unfold State.storeStateWordDone
  split
  · next w writing =>
    refine .ite (fun last => (setStore_evolves s _ fun h => ?_).trans (notify_evolves _ _ _)) fun _ => .refl s
    obtain ⟨-, law, -, ranges, distinct⟩ := h
    obtain ⟨-, six, nodup, seq, programmed⟩ := law w writing
    have chosen := programmed (.inr last)
    refine ⟨by simp, by simp, fun i hi => ?_, fun i => ?_, fun i hi => ?_⟩
    · cases hi; rw [bank_with, bank_setBank_self]
    · rw [bank_with]; exact setBank_inRange _ _ ranges ⟨seq.1, seq.2, by rw [chosen]; exact six⟩ i
    · rw [bank_with] at hi ⊢
      by_cases e : i = w.target
      · subst e; rw [bank_setBank_self, chosen]; exact nodup
      · rw [bank_setBank_of_ne _ _ _ _ e] at hi ⊢; exact distinct i hi
  · exact .refl s

theorem newest_sublist (n : Nat) (rs : List ShiftRecord) : (newest n rs).Sublist rs := List.drop_sublist _ _

theorem otherBank_ne (i : BankId) : i ≠ otherBank i := by cases i <;> decide

/-- The records chosen for a write are at most six with distinct numbers, if the current bank's numbers are distinct (R162). -/
theorem chosen_nodup {t : TotalsStore} (h : t.Law) (buffer : ShiftRecord) :
    ((t.chosen buffer).map ShiftRecord.number).Nodup := by
  obtain ⟨-, -, current, -, distinct⟩ := h
  have held : (t.currentRecords.map ShiftRecord.number).Nodup := by
    unfold TotalsStore.currentRecords
    split
    · next i hi => exact distinct i (current i hi)
    · exact List.nodup_nil
  unfold TotalsStore.chosen
  rw [List.map_append, List.nodup_append]
  refine ⟨(((newest_sublist _ _).trans List.filter_sublist).map _).nodup held, by simp, ?_⟩
  intro a ha b hb e
  obtain ⟨r, hr, rfl⟩ := List.mem_map.mp ha
  have := (newest_sublist _ _).subset hr
  simp at this hb
  exact this.2 (e.trans hb)

theorem startWrite_law {t : TotalsStore} (h : t.Law) (buffer : ShiftRecord) : (t.startWrite buffer).Law := by
  have nodup := chosen_nodup h buffer
  obtain ⟨-, -, current, ranges, distinct⟩ := h
  refine ⟨by simp [TotalsStore.startWrite], fun w hw => ?_, current, ranges, distinct⟩
  cases hw
  refine ⟨?_, ?_, nodup, ?_, by simp⟩
  · show t.current ≠ some t.target
    unfold TotalsStore.target
    cases h : t.current with
    | none => simp
    | some i => simpa using otherBank_ne i
  · have five := newest_length 5 (t.currentRecords.filter fun r => decide (r.number ≠ buffer.number))
    simpa [TotalsStore.chosen, Nat.lt_succ_iff] using five
  · show 1 ≤ t.newSeq ∧ t.newSeq ≤ 4294967295
    unfold TotalsStore.newSeq
    split
    · exact nextSeq_range _
    · decide

theorem startStoreWrite_evolves (x : ShiftRecord) : Evolves G s (s.startStoreWrite x) := by
  unfold State.startStoreWrite
  split
  case h_1 | h_2 => exact setStore_evolves s _ fun h => startWrite_law h x
  case h_3 | h_4 => exact .refl s

theorem closeShift_evolves : Evolves G s s.closeShift :=
  ((Relation.ReflTransGen.single .nextShift : Evolves G s s.openNextShift).trans (startStoreWrite_evolves _ _)).trans
    (notify_evolves _ _ _)

theorem formatStore_evolves : Evolves G s s.formatStore := by
  refine setStore_evolves s _ fun ⟨_, _, _, ranges, _⟩ => ⟨by simp, by simp, by simp, fun i => ?_, fun i hi => ?_⟩
  · cases i
    · exact ⟨(ranges .a).1, (ranges .a).2.1, Nat.zero_le _⟩
    · exact ⟨(ranges .b).1, (ranges .b).2.1, Nat.zero_le _⟩
  · cases i <;> exact absurd hi (by simp [TotalsStore.bank, Bank.erase])

end Sys2Proof.Machine
end

section
/-! SUPPORT. Every request's reply, every command and every step as a chain of events. -/

namespace Sys2Proof.Machine

variable {G : Prop} (s : State)

/-! ## Ports -/

/-- A port replaced by one with the same notices and its transaction in order. -/
theorem PortKeeps.of_link {p : Port} {x y : PortState} (notices : y.flags = x.flags ∧ y.mask = x.mask ∧ y.attention = x.attention)
    (link : x.LinkLaw → y.LinkLaw) : PortKeeps p x y where
  attention h := by obtain ⟨flags, mask, attention⟩ := notices; rwa [PortState.AttentionLaw, flags, mask, attention]
  notices h := by obtain ⟨flags, mask, -⟩ := notices; rwa [PortState.NoticeLaw, flags, mask]
  link := link

theorem setPort_evolves (p : Port) (y : PortState) (h : PortKeeps p (s.port p) y) : Evolves G s (s.setPort p y) :=
  (Quiet.port p y h).evolves

theorem filler_zero {n : Nat} : ∀ b ∈ filler n, b = 0 := fun _ hb => List.eq_of_mem_replicate hb

/-- An idle port that is listening, or that has driven only the filler, is in order. -/
theorem linkLaw_of_idle {x : PortState} (idle : x.frame = .idle) (driven : x.link = .judged → ∀ b ∈ x.dataOut, b = 0) : x.LinkLaw :=
  ⟨fun _ => idle, driven, fun bytes h => by rw [idle] at h; cases h⟩

theorem respond_evolves (p : Port) (kind seq : Byte) (result : ResultCode) (body : List Byte) :
    Evolves G s (s.respond p kind seq result body) :=
  setPort_evolves s p _ (.of_link ⟨rfl, rfl, rfl⟩ fun _ => linkLaw_of_idle rfl (by simp))

theorem answer_evolves (k : RequestKind) (p : Port) (seq : Byte) (r : Reply) (h : Evolves G s r.state) :
    Evolves G s (s.answer k p seq r) :=
  .ite (fun _ => h.trans (respond_evolves _ _ _ _ _ _)) fun _ => respond_evolves _ _ _ _ _ _

theorem released_linkLaw (x : PortState) : x.released.LinkLaw := linkLaw_of_idle (released_frame x) (by simp)

theorem reset_evolves (p : Port) : Evolves G s (s.setPort p (s.port p).reset) :=
  setPort_evolves s p _
    { attention := fun _ => attentionOf_asserted 0 0
      notices := fun _ => ⟨by simp [PortState.reset], by simp [PortState.reset]⟩
      link := fun _ => linkLaw_of_idle rfl (by simp [PortState.reset]) }

theorem fetched_linkLaw (x : PortState) (n : Nat) : (x.fetched n).LinkLaw := by
  unfold PortState.fetched
  split
  · exact released_linkLaw x
  · exact linkLaw_of_idle rfl (by simp [PortState.fetchEnded, PortState.fetching])

theorem fetched_evolves (p : Port) (n : Nat) : Evolves G s (s.setPort p ((s.port p).fetched n)) :=
  setPort_evolves s p _ (.of_link (fetched_notices _ n) fun _ => fetched_linkLaw _ n)

theorem releaseSelect_evolves (p : Port) : Evolves G s (s.releaseSelect p) :=
  setPort_evolves s p _ (.of_link (released_notices _) fun _ => released_linkLaw _)

/-- Notices replaced within the port's kinds, and the attention line judged. -/
theorem judged_evolves (p : Port) (flags mask : Set16)
    (h : (s.port p).NoticeLaw p → flags &&& ~~~(noticePositions p) = 0 ∧ mask &&& ~~~(noticePositions p) = 0) :
    Evolves G s (s.setPort p (PortState.judged { s.port p with flags := flags, mask := mask })) :=
  setPort_evolves s p _ { attention := fun _ => judged_attentionLaw _, notices := h, link := id }

/-! ## The replies -/

theorem lineStartReply_evolves : Evolves G s (lineStartReply s).state := by
  unfold lineStartReply lineStartStopped
  split
  · split
    · exact (((Quiet.chain _).evolves.trans (fitZone_evolves _ _)).trans (fitZone_evolves _ _)).trans
        (setLineState_evolves _ _ _ (by simp))
    · exact (Quiet.chain _).evolves
  · exact .refl s
  · exact .refl s

theorem stopLine_evolves : Evolves G s s.stopLine := (setLineState_evolves s _ _ (by simp)).trans (dropPurges_evolves _)

theorem lineStopReply_evolves : Evolves G s (lineStopReply s).state := by
  show Evolves G s s.lineStopped
  unfold State.lineStopped
  split
  · exact .refl s
  · exact stopLine_evolves s
  · exact stopLine_evolves s

/-- Records that leave one after the other, each alone under its tag. -/
theorem foldl_leave_evolves (o : LeaveOutcome) (rs : List LoafRecord) (h : G → s.ownsAll rs) :
    Evolves G s (rs.foldl (fun t r => t.leave r o) s) := by
  induction rs generalizing s with
  | nil => exact .refl s
  | cons r rest ih =>
    exact (leave_evolves s r o fun g => ((h g).1 r List.mem_cons_self).1).trans (ih _ fun g => (h g).tail (leave_records s r o))

theorem flushQueue_evolves (tags : G → (s.queue.records.map LoafRecord.tag).Nodup) : Evolves G s s.flushQueue :=
  ((foldl_leave_evolves s _ _ fun g => ownsAll_of_sublist (tags g) (List.Sublist.refl _)).trans (setGate_evolves _ _ _)).trans
    (setGate_evolves _ _ _)

theorem bagLineReset_tyerLaw {b : BagClipUnit} {w : Set16} (h : b.TyerLaw w) : b.lineReset.TyerLaw w := by
  obtain ⟨clips, fault, -, date⟩ := h
  refine ⟨clips, ?_, ?_, date⟩
  · rw [fault]; cases e : b.tyer <;> simp [BagClipUnit.lineReset, e]
  · cases e : b.tyer <;> simp [BagClipUnit.lineReset, e]

theorem resetLine_evolves (tags : G → (s.queue.records.map LoafRecord.tag).Nodup) : Evolves G s s.resetLine := by
  have stopped := stopLine_evolves (G := G) s
  have flushed := stopped.trans (flushQueue_evolves s.stopLine fun g => by
    rw [stopLine_frame s .queue (by decide)]; exact tags g)
  have suspended := (flushed.trans (setSelection_evolves _ none fun _ h => by cases h)).trans (suspendSchedule_evolves _)
  exact ((suspended.trans (setBag_evolves _ _ bagLineReset_tyerLaw)).trans (cutBlast_evolves _ _)).trans (cutBlast_evolves _ _)

theorem lineConfigReply_evolves (c : LineConfig) : Evolves G s (lineConfigReply c s).state := by
  unfold lineConfigReply
  split
  · exact .refl s
  · split
    · exact .refl s
    · exact setPos_evolves s { s.pos with config := c } id

theorem ownHold_free (p : Port) : (ownHold p).free = true := by cases p <;> rfl

theorem holdSetReply_evolves (p : Port) (reason : Nat) : Evolves G s (holdSetReply p reason s).state := by
  unfold holdSetReply
  split
  · exact .refl s
  · exact placeHold_evolves s (ownHold_free p)

theorem holdReleaseReply_evolves (p : Port) (reason : Nat) : Evolves G s (holdReleaseReply p reason s).state := by
  unfold holdReleaseReply
  split
  · exact .refl s
  · exact releaseHold_evolves s (ownHold_free p)

theorem chainEdited_evolves (c : StationChain) : Evolves G s (s.chainEdited c) :=
  ((Quiet.chain _).evolves.trans (unfitZone_evolves _ _)).trans (unfitZone_evolves _ _)

theorem chainWriteReply_evolves (index kind distance next : Nat) (area : Vector Byte 7) :
    Evolves G s (chainWriteReply index kind distance next area s).state := by
  unfold chainWriteReply
  split
  · exact .refl s
  · split
    · exact chainEdited_evolves s _
    · exact .refl s

theorem chainHeadReply_evolves (index : Nat) : Evolves G s (chainHeadReply index s).state := by
  unfold chainHeadReply
  split
  · exact .refl s
  · split
    · exact .refl s
    · exact chainEdited_evolves s _

theorem recipeLoadReply_evolves (slot : Nat) (q : Product) : Evolves G s (recipeLoadReply slot q s).state := by
  unfold recipeLoadReply
  split
  · exact .refl s
  · next i _ =>
    unfold recipeLoadSlot
    split
    · exact .refl s
    · next empty =>
      split
      · exact .refl s
      · split
        · exact .refl s
        · refine setSlot_evolves s i _ (fun h => setSlot_recipeLaw s i _ h (fun active => by cases active) (fun _ _ _ => rfl)
            (by simp [Slot.load])) fun _ => rfl

theorem recipeRetireReply_evolves (slot : Nat) : Evolves G s (recipeRetireReply slot s).state := by
  unfold recipeRetireReply
  split
  · exact .refl s
  · next i _ =>
    unfold recipeRetireSlot
    split
    · exact .refl s
    · next taken =>
      have slot : (s.slot i).state = .loaded ∧ s.selectionSource i = none := by
        unfold State.retireRefusal at taken
        split at taken <;> try cases taken
        next loaded =>
          refine ⟨loaded, ?_⟩
          by_contra selected
          rw [if_pos (Option.isSome_iff_ne_none.mpr selected)] at taken
          cases taken
      refine setSlot_evolves s i _ (fun h => setSlot_recipeLaw s i _ h (fun active => ?_) (fun y hy e => ?_) ?_) fun _ => ?_
      · unfold Slot.retire at active; split at active <;> cases active
      · have selected : s.selectionSource i = some y.source := by simp [State.selectionSource, hy, e]
        rw [slot.2] at selected; cases selected
      · have product : (s.slot i).state = .empty ↔ (s.slot i).product = none := h.2.2 i
        rw [slot.1] at product
        simp only [reduceCtorEq, false_iff] at product
        unfold Slot.retire; split
        · exact ⟨fun _ => rfl, fun _ => rfl⟩
        · simp [product]
      · unfold Slot.retire; split <;> rfl

theorem selectReply_evolves (source : Source) (slot : Nat) : Evolves G s (selectReply source slot s).state := by
  unfold selectReply
  split
  · exact .refl s
  · split
    · exact (writeSelection_evolves s _ _).trans (suspendSchedule_evolves _)
    · exact .refl s

theorem bladeReportReply_evolves (pitch : Nat) : Evolves G s (bladeReportReply pitch s).state := by
  unfold bladeReportReply
  split
  · exact .refl s
  · exact (Quiet.recipes { s.recipes with pitch := pitch } id fun _ _ => rfl).evolves.trans (judgeBlade_evolves _)

theorem divertMarked_evolves (r : LoafRecord) (q : Pos) (h : G → s.owns r) : Evolves G s (s.divertMarked r q) :=
  (putRecord_evolves s { r.mark with stage := .diverting, gateFire := some q } h).trans (judgeWithdrawn_evolves _ r)

theorem markDivertReply_evolves (tag : Nat) (tags : G → (s.queue.records.map LoafRecord.tag).Nodup) :
    Evolves G s (markDivertReply tag s).state := by
  unfold markDivertReply
  split
  · exact .refl s
  · split
    · exact .refl s
    · next r found =>
      have owner : G → s.owns r := fun g => owns_of_mem (tags g) (record?_mem s found)
      show Evolves G s (s.markRecord r).1
      unfold State.markRecord
      split
      case h_1 | h_2 => exact putRecord_evolves s r.mark owner
      case h_3 =>
        split
        · exact divertMarked_evolves s r _ owner
        · exact .refl s
      all_goals exact .refl s

theorem trackReadReply_state (selector value : Nat) : (trackReadReply selector value s).state = s := by
  unfold trackReadReply
  split
  · unfold trackReadTag; split
    · rfl
    · split <;> rfl
  · unfold trackReadPosition; split
    · rfl
    · split <;> rfl
  · rfl

theorem scheduleAppendReply_evolves (slot target gap stopAfter : Nat) :
    Evolves G s (scheduleAppendReply slot target gap stopAfter s).state := by
  unfold scheduleAppendReply
  split
  · split
    · exact .refl s
    · split
      · exact .refl s
      · split
        · exact .refl s
        · exact setSchedule_evolves s _
  · exact .refl s

theorem takeStart_evolves : Evolves G s s.takeStart.1 := by
  unfold State.takeStart
  split
  · split
    · exact (((updateEntry_evolves s _ _).trans (setScheduleState_evolves _ _)).trans (releaseHold_evolves _ rfl)).trans
        (writeSelection_evolves _ _ _)
    · exact .refl s
  · exact .refl s
  · exact .refl s

theorem takeResume_evolves : Evolves G s s.takeResume := by
  unfold State.takeResume
  split
  · have resumed := (setScheduleState_evolves (G := G) s .active).trans (releaseHold_evolves (r := .scheduleStop) _ rfl)
    unfold State.resumeSuspended
    dsimp only
    split
    · exact resumed.trans (writeSelection_evolves _ _ _)
    · exact resumed
  · exact releaseHold_evolves s rfl
  · exact .refl s

theorem scheduleCancelReply_evolves (id : Nat) : Evolves G s (scheduleCancelReply id s).state := by
  unfold scheduleCancelReply
  split
  · exact .refl s
  · split
    · exact .refl s
    · unfold scheduleCancelEntry
      split
      · exact setSchedule_evolves s _
      · exact fillByCancel_evolves s _
      · exact .refl s
      · exact .refl s

theorem scheduleReadReply_state (selector value : Nat) : (scheduleReadReply selector value s).state = s := by
  unfold scheduleReadReply
  split
  · unfold scheduleReadId; split
    · rfl
    · split <;> rfl
  · unfold scheduleReadPosition; split
    · rfl
    · split <;> rfl
  · rfl

theorem bagNextReply_evolves : Evolves G s (bagNextReply s).state := by
  unfold bagNextReply
  split
  · exact .refl s
  · split
    · exact .refl s
    · exact updateRecord_evolves s _ (fun r => { r with fetched := true }) fun _ _ _ _ => ⟨rfl, rfl⟩

theorem bagResultReply_evolves (tag result : Nat) : Evolves G s (bagResultReply tag result s).state := by
  unfold bagResultReply
  split
  · next x _ _ =>
    unfold bagResultTag
    split
    · exact .refl s
    · split
      · exact updateRecord_evolves s tag (fun r => { r with result := some x }) fun _ _ _ _ => ⟨rfl, rfl⟩
      · exact .refl s
  · exact .refl s

theorem takeDate_evolves (d : Date) : Evolves G s (s.takeDate d) := by
  refine setBag_releaseHold_evolves s _ _ (fun z => by cases z <;> decide) fun ⟨clips, fault, firing, _⟩ => ?_
  exact ⟨by simpa [inHolds_and_not_bit] using clips, by simpa [inHolds_and_not_bit] using fault, firing, by simp [inHolds_and_not_bit]⟩

theorem dateSetReply_evolves (day yearDigit weekday leap : Nat) : Evolves G s (dateSetReply day yearDigit weekday leap s).state := by
  unfold dateSetReply
  split
  · exact .refl s
  · dsimp only
    split
    · exact takeDate_evolves s _
    · exact .refl s

theorem colourTableReply_evolves (c : Vector Nat 7) : Evolves G s (colourTableReply c s).state := by
  unfold colourTableReply
  split
  · exact setBag_evolves s { s.bag with colours := c } id
  · exact .refl s

theorem clipReloadReply_evolves (count : Nat) : Evolves G s (clipReloadReply count s).state := by
  unfold clipReloadReply
  split
  · exact .refl s
  · exact setMagazine_evolves s _ _

theorem clipConfigReply_evolves (threshold timeout : Nat) : Evolves G s (clipConfigReply threshold timeout s).state := by
  unfold clipConfigReply
  split
  · exact .refl s
  · exact (setBag_evolves s { s.bag with tieTimeout := timeout } id).trans (setMagazine_evolves _ _ _)

theorem resetTyer_evolves : Evolves G s s.resetTyer := by
  unfold State.resetTyer
  split
  · next faulty =>
    refine setBag_releaseHold_evolves s _ _ (fun z => by cases z <;> decide) fun ⟨clips, _, firing, date⟩ => ?_
    rw [faulty] at firing
    exact ⟨by simpa [inHolds_and_not_bit] using clips, by simp [inHolds_and_not_bit], by simpa using firing,
      by simpa [inHolds_and_not_bit] using date⟩
  · exact .refl s
  · exact .refl s

theorem crumbConfigReply_evolves (zone soft hard : Nat) : Evolves G s (crumbConfigReply zone soft hard s).state := by
  unfold crumbConfigReply
  split
  · exact .refl s
  · next z _ =>
    split
    · next ok =>
      simp only [thresholdsOk, Bool.and_eq_true, decide_eq_true_eq] at ok
      refine (setZone_judgeFull_evolves s z { s.zone z with soft := soft, hard := hard } (fun h => h) fun h => ⟨h, ?_⟩).trans
        (judgeBlast_evolves _ z)
      cases fitted : (s.zone z).fitted with
      | true => exact .inl rfl
      | false =>
        refine .inr ?_
        show (s.zone z).load < hard
        rw [(h fitted).1]; omega
    · exact .refl s

theorem crumbClearReply_evolves (zone : Nat) : Evolves G s (crumbClearReply zone s).state := by
  unfold crumbClearReply
  split
  · exact .refl s
  · next z _ =>
    split
    · next fitted =>
      refine .ite (fun _ => .refl s) fun _ => ?_
      refine (setZone_evolves s z { s.zone z with manualClear := true } (fun h => h) fun _ unfitted => ?_).trans
        (judgeBlast_evolves _ z)
      exact absurd (fitted.symm.trans unfitted) (by decide)
    · exact .refl s

theorem shiftCloseReply_evolves : Evolves G s (shiftCloseReply s).state := by
  unfold shiftCloseReply
  split
  · exact .refl s
  · exact closeShift_evolves s

theorem storeFormatReply_evolves : Evolves G s (storeFormatReply s).state := by
  unfold storeFormatReply
  split
  · exact .refl s
  · exact formatStore_evolves s

theorem totalsReadReply_state (selector page : Nat) : (totalsReadReply selector page s).state = s := by
  unfold totalsReadReply
  split
  · rfl
  · split
    · rfl
    · split <;> rfl

theorem storeReadReply_state (shift page : Nat) : (storeReadReply shift page s).state = s := by
  unfold storeReadReply
  split
  · rfl
  · split
    · rfl
    · split <;> rfl

theorem recipeReadReply_state (slot : Nat) : (recipeReadReply slot s).state = s := by
  unfold recipeReadReply; split <;> rfl

theorem noticeAckReply_evolves (p : Port) (kinds : Set16) : Evolves G s (noticeAckReply p kinds s).state := by
  unfold noticeAckReply
  split
  · refine judged_evolves s p _ _ fun ⟨flags, mask⟩ => ⟨?_, mask⟩
    rw [BitVec.and_assoc, BitVec.and_comm (~~~kinds), ← BitVec.and_assoc, flags]
    exact BitVec.zero_and
  · exact .refl s

theorem noticeMaskReply_evolves (p : Port) (kinds : Set16) : Evolves G s (noticeMaskReply p kinds s).state := by
  unfold noticeMaskReply
  split
  · next named => exact judged_evolves s p _ _ fun ⟨flags, _⟩ => ⟨flags, by simpa [namesKinds] using named⟩
  · exact .refl s

/-! ## A taken frame -/

/-- A request of the queue's own that reads nothing but the queue: the tags it relies on. -/
theorem replyTo_evolves (k : RequestKind) (p : Port) (b : List Byte) (tags : G → (s.queue.records.map LoafRecord.tag).Nodup) :
    Evolves G s (replyTo k p b s).state := by
  cases k
  case statusRead | chainRead | crumbRead | noticeRead => exact .refl s
  case recipeRead => exact (recipeReadReply_state s _).symm ▸ .refl s
  case trackRead => exact (trackReadReply_state s _ _).symm ▸ .refl s
  case scheduleRead => exact (scheduleReadReply_state s _ _).symm ▸ .refl s
  case totalsRead => exact (totalsReadReply_state s _ _).symm ▸ .refl s
  case storeRead => exact (storeReadReply_state s _ _).symm ▸ .refl s
  case lineStart => exact lineStartReply_evolves s
  case lineStop => exact lineStopReply_evolves s
  case lineReset => exact resetLine_evolves s tags
  case lineConfig => exact lineConfigReply_evolves s _
  case holdSet => exact holdSetReply_evolves s p _
  case holdRelease => exact holdReleaseReply_evolves s p _
  case chainWrite => exact chainWriteReply_evolves s _ _ _ _ _
  case chainHead => exact chainHeadReply_evolves s _
  case recipeLoad => exact recipeLoadReply_evolves s _ _
  case recipeRetire => exact recipeRetireReply_evolves s _
  case select => exact selectReply_evolves s _ _
  case bladeReport => exact bladeReportReply_evolves s _
  case markDivert => exact markDivertReply_evolves s _ tags
  case scheduleAppend => exact scheduleAppendReply_evolves s _ _ _ _
  case scheduleStart => exact takeStart_evolves s
  case scheduleResume => exact takeResume_evolves s
  case scheduleCancel => exact scheduleCancelReply_evolves s _
  case scheduleReap => exact setSchedule_evolves s _
  case bagNext => exact bagNextReply_evolves s
  case bagResult => exact bagResultReply_evolves s _ _
  case dateSet => exact dateSetReply_evolves s _ _ _ _
  case colourTable => exact colourTableReply_evolves s _
  case clipReload => exact clipReloadReply_evolves s _
  case clipConfig => exact clipConfigReply_evolves s _ _
  case tyerReset => exact resetTyer_evolves s
  case crumbConfig => exact crumbConfigReply_evolves s _ _ _
  case crumbClear => exact crumbClearReply_evolves s _
  case shiftClose => exact shiftCloseReply_evolves s
  case storeFormat => exact storeFormatReply_evolves s
  case noticeAck => exact noticeAckReply_evolves s p _
  case noticeMask => exact noticeMaskReply_evolves s p _

theorem judgedLow_evolves (p : Port) (r : Response) (n : Nat) : Evolves G s (s.setPort p ((s.port p).judgedLow r n)) :=
  setPort_evolves s p _ (.of_link ⟨rfl, rfl, rfl⟩ fun _ => linkLaw_of_idle rfl fun _ => filler_zero)

theorem driven_length (frame : List Byte) (n : Nat) : (driven frame n).length = n := by
  simp [driven, filler]; omega

/-- A frame that is not refused or taken goes on, and holds at least a byte (R169). -/
theorem judgeFrame_cons {p : Port} {frame : List Byte} (h : judgeFrame p frame ≠ .noFrame) : frame ≠ [] := by
  rintro rfl; exact h rfl

theorem judgeFrame_fetch_iff (p : Port) (frame : List Byte) : judgeFrame p frame = .fetch ↔ frame.head? = some 0 := by
  cases frame with
  | nil => simp [judgeFrame]
  | cons kind rest =>
    by_cases zero : kind = 0
    · simp [judgeFrame, zero]
    · simp only [judgeFrame, zero, if_false, List.head?_cons, Option.some.injEq, iff_false]
      match rest with
      | [] => simp
      | [_] => simp
      | _ :: length :: body =>
        simp only [judgeComplete]
        split
        · simp
        · split
          · simp
          · split
            · simp
            · split
              · simp
              · split <;> simp

theorem judgeFrame_evolves (p : Port) (frame : List Byte) (listening : (s.port p).link = .listening)
    (tags : G → (s.queue.records.map LoafRecord.tag).Nodup) : Evolves G s (s.judgeFrame p frame) := by
  unfold State.judgeFrame
  split
  · exact .refl s
  · next fetch =>
    refine setPort_evolves s p _ (.of_link ⟨rfl, rfl, rfl⟩ fun _ => ⟨fun deaf => absurd listening deaf, ?_, fun bytes h => ?_⟩)
    · intro judged; exact absurd (listening.symm.trans judged) (by decide)
    · cases h
      exact ⟨judgeFrame_cons (by rw [fetch]; simp), driven_length _ _, fun request =>
        absurd ((judgeFrame_fetch_iff p frame).mp fetch) request⟩
  · next receiving =>
    refine setPort_evolves s p _ (.of_link ⟨rfl, rfl, rfl⟩ fun _ => ⟨fun deaf => absurd listening deaf, fun _ => filler_zero,
      fun bytes h => ?_⟩)
    cases h
    exact ⟨judgeFrame_cons (by rw [receiving]; simp), List.length_replicate, fun _ => filler_zero⟩
  · exact judgedLow_evolves s p _ _
  · exact (replyTo_evolves s _ p _ tags).trans (judgedLow_evolves _ p _ _)

theorem receiveBytes_evolves (p : Port) (bytes : List Byte) (tags : G → (s.queue.records.map LoafRecord.tag).Nodup) :
    Evolves G s (s.receiveBytes p bytes) := by
  unfold State.receiveBytes
  split
  · next listening => exact judgeFrame_evolves s p _ listening tags
  · next judged =>
    refine setPort_evolves s p _ (.of_link ⟨rfl, rfl, rfl⟩ fun ⟨idle, zeros, _⟩ => linkLaw_of_idle (idle (by simp [judged])) ?_)
    intro _ b hb
    obtain hb | hb := List.mem_append.mp hb
    · exact zeros judged b hb
    · exact filler_zero b hb
  · exact .refl s

/-! ## Commands and steps -/

/-- A command that is no power-on reset is a chain of events; its records are told apart by their tags. -/
theorem exec_evolves (c : Instr) (t : State) (run : exec c s = .next t) (tags : G → (s.queue.records.map LoafRecord.tag).Nodup) :
    (∃ lines eyes, c = .powerOnReset lines eyes ∧ t = s.powerOn lines eyes) ∨ Evolves G s t := by
  cases c <;> cases run
  case powerOnReset lines eyes => exact .inl ⟨lines, eyes, rfl, rfl⟩
  all_goals refine .inr ?_
  case encoderStep q => exact encoder_evolves s q
  case eyeRawLevelChange e l => exact rawLevel_evolves s e l tags
  case eyeFilterExpiry e => exact filterExpiry_evolves s e tags
  case speedSamplerExpiry => exact sampleSpeed_evolves s
  case gatePulseEnd g => exact endGatePulse_evolves s g
  case firePulseEnd => exact endFirePulse_evolves s
  case tyerDone => exact tyerDone_evolves s
  case tieTimeoutExpiry => exact tieTimeout_evolves s
  case blastEnd z => exact endBlast_evolves s z
  case idleTimerExpiry => exact idleExpired_evolves s
  case secondsAccumulatorFull a => exact fillAccumulator_evolves s a
  case storeEraseDone => exact storeEraseDone_evolves s
  case storeProgramDone => exact storeProgramDone_evolves s
  case storeVerifyDone ok => exact storeVerifyDone_evolves s ok
  case storeStateWordDone => exact storeStateWordDone_evolves s
  case portReset p => exact reset_evolves s p
  case frameRefused p bytes released =>
    have received := receiveBytes_evolves s p bytes tags
    exact .ite (fun _ => received.trans (releaseSelect_evolves _ p)) fun _ => received
  case fetch p n => exact fetched_evolves s p n
  all_goals refine answer_evolves s _ _ _ _ ?_
  case statusRead | chainRead | crumbRead | noticeRead => exact .refl s
  case recipeRead => exact (recipeReadReply_state s _).symm ▸ .refl s
  case trackRead => exact (trackReadReply_state s _ _).symm ▸ .refl s
  case scheduleRead => exact (scheduleReadReply_state s _ _).symm ▸ .refl s
  case totalsRead => exact (totalsReadReply_state s _ _).symm ▸ .refl s
  case storeRead => exact (storeReadReply_state s _ _).symm ▸ .refl s
  case lineStart => exact lineStartReply_evolves s
  case lineStop => exact lineStopReply_evolves s
  case lineReset => exact resetLine_evolves s tags
  case lineConfig => exact lineConfigReply_evolves s _
  case holdSet => exact holdSetReply_evolves s _ _
  case holdRelease => exact holdReleaseReply_evolves s _ _
  case chainWrite => exact chainWriteReply_evolves s _ _ _ _ _
  case chainHead => exact chainHeadReply_evolves s _
  case recipeLoad => exact recipeLoadReply_evolves s _ _
  case recipeRetire => exact recipeRetireReply_evolves s _
  case select => exact selectReply_evolves s _ _
  case bladeReport => exact bladeReportReply_evolves s _
  case markDivert => exact markDivertReply_evolves s _ tags
  case scheduleAppend => exact scheduleAppendReply_evolves s _ _ _ _
  case scheduleStart => exact takeStart_evolves s
  case scheduleResume => exact takeResume_evolves s
  case scheduleCancel => exact scheduleCancelReply_evolves s _
  case scheduleReap => exact setSchedule_evolves s _
  case bagNext => exact bagNextReply_evolves s
  case bagResult => exact bagResultReply_evolves s _ _
  case dateSet => exact dateSetReply_evolves s _ _ _ _
  case colourTable => exact colourTableReply_evolves s _
  case clipReload => exact clipReloadReply_evolves s _
  case clipConfig => exact clipConfigReply_evolves s _ _
  case tyerReset => exact resetTyer_evolves s
  case crumbConfig => exact crumbConfigReply_evolves s _ _ _
  case crumbClear => exact crumbClearReply_evolves s _
  case shiftClose => exact shiftCloseReply_evolves s
  case storeFormat => exact storeFormatReply_evolves s
  case noticeAck => exact noticeAckReply_evolves s _ _
  case noticeMask => exact noticeMaskReply_evolves s _ _

end Sys2Proof.Machine
end

section
/-! SUPPORT. What every step keeps: the laws of the blocks through the quiet changes, and the counts of records through the events that
move them together. -/

namespace Sys2Proof.Machine

/-! ## A step -/

theorem tick_evolves {G : Prop} (s : State) : Evolves G s (s.elapse 1) := elapse_evolves s 1

/-- A property that the queue of commands does not touch, that a power-on reset establishes and that every command's chain of events keeps,
is kept by every step. -/
theorem step_keeps {I : State → Prop} (G : State → Prop) (tags : ∀ s, G s → (s.queue.records.map LoafRecord.tag).Nodup)
    (pending : ∀ s x, I s → I (s.setPending x)) (powerOn : ∀ s lines eyes, I s → I (s.powerOn lines eyes))
    (events : ∀ s t, I s → Evolves (G s) s t → I t) (s t : State) (h : I s) (run : step s = .next t) : I t := by
  unfold step at run
  split at run
  · next c rest _ =>
    obtain ⟨lines, eyes, -, rfl⟩ | evolves := exec_evolves (G := G (s.setPending rest)) (s.setPending rest) c t run (tags _)
    · exact powerOn _ lines eyes (pending s rest h)
    · exact events _ _ (pending s rest h) evolves
  · obtain rfl : s.tick = t := Host.Outcome.next.inj run
    exact pending _ _ (events s _ h (tick_evolves s))

/-- A property that every quiet change keeps, whatever counts move, is kept by every step. -/
theorem step_keeps_of_quiet {I : State → Prop} (pending : ∀ s x, I s → I (s.setPending x))
    (powerOn : ∀ s lines eyes, I s → I (s.powerOn lines eyes)) (quiet : ∀ s t, Quiet False s t → I s → I t) (s t : State) (h : I s)
    (run : step s = .next t) : I t :=
  step_keeps (fun _ => False) (fun _ => False.elim) pending powerOn (fun _ _ h evolves => evolves.keeps quiet h) s t h run

/-! ## The laws at reset -/

theorem reset_outputs : OutputsFollow State.reset := by
  refine ⟨by decide, fun p => ?_, fun z => ?_⟩
  · cases p <;> decide
  · cases z <;> decide

theorem reset_notices : NoticesNameKinds State.reset := fun p => by cases p <;> decide

theorem reset_link : LinkFollows State.reset := fun p => by cases p <;> exact linkLaw_of_idle rfl (by decide)

theorem reset_timers : TimersFollow State.reset := by unfold TimersFollow; decide

theorem reset_tyerHolds : TyerHoldsFollow State.reset := by unfold TyerHoldsFollow; decide

theorem reset_positions : PositionsAgree State.reset := by unfold PositionsAgree; decide

theorem reset_tags : TagsDistinct State.reset := by unfold TagsDistinct; decide

/-- Every slot is EMPTY at power-on (R27). -/
theorem reset_slot (i : Fin 16) : State.reset.slot i = Slot.initial := Vector.getElem_replicate i.isLt

theorem reset_inFlight : InFlightCounts State.reset := fun i => by rw [reset_slot]; rfl

theorem reset_recipes : RecipeLaw State.reset := by
  refine ⟨fun i _ active => ?_, fun x h => ?_, fun i => ?_⟩
  · rw [reset_slot] at active; cases active
  · cases h
  · rw [reset_slot]; exact ⟨fun _ => rfl, fun _ => rfl⟩

theorem reset_balance : ShiftBalances State.reset := ⟨by decide, .inr (by decide)⟩

theorem reset_store : StoreLaw State.reset := by
  refine ⟨by decide, fun w h => ?_, fun i h => ?_, fun i => ?_, fun i h => ?_⟩
  · cases h
  · cases h
  · cases i <;> (unfold Bank.inRange; decide)
  · cases i <;> exact absurd h (by decide)

theorem reset_unfitted : UnfittedAtRest State.reset := fun z _ => by cases z <;> decide

/-- Settles O53: each invariant's lemma at reset. -/
theorem resetSatisfiesInvariants : Obligations.ResetSatisfiesInvariants :=
  ⟨reset_outputs, reset_notices, reset_link, reset_timers, reset_tyerHolds, reset_positions, reset_tags, reset_inFlight,
    reset_recipes, reset_balance, reset_store, reset_unfitted⟩

/-! ## The laws through a quiet change -/

section quiet

variable {s t : State} (h : Quiet False s t)

include h

theorem Quiet.attention : (∀ p, (s.port p).AttentionLaw) → ∀ p, (t.port p).AttentionLaw := by
  intro law p
  cases h with
  | port q y keeps =>
    by_cases e : p = q
    · subst e; rw [port_setPort_self]; exact keeps.attention (law p)
    · rw [port_setPort_of_ne _ _ _ _ e]; exact law p
  | _ => exact law p

theorem Quiet.notices : NoticesNameKinds s → NoticesNameKinds t := by
  intro law p
  cases h with
  | port q y keeps =>
    by_cases e : p = q
    · subst e; rw [port_setPort_self]; exact keeps.notices (law p)
    · rw [port_setPort_of_ne _ _ _ _ e]; exact law p
  | _ => exact law p

theorem Quiet.linkFollows : LinkFollows s → LinkFollows t := by
  intro law p
  cases h with
  | port q y keeps =>
    by_cases e : p = q
    · subst e; rw [port_setPort_self]; exact keeps.link (law p)
    · rw [port_setPort_of_ne _ _ _ _ e]; exact law p
  | _ => exact law p

theorem Quiet.valves : (∀ z, (s.zone z).ValveLaw) → ∀ z, (t.zone z).ValveLaw := by
  intro law z
  cases h with
  | blocks b c keeps => exact keeps.valve z (law z)
  | holds b c w keeps => exact keeps.valve z (law z)
  | _ => exact law z

theorem Quiet.permit (law : s.line.permit = .driven ↔ s.line.state ≠ .stopped ∧ s.line.holds = 0) :
    t.line.permit = .driven ↔ t.line.state ≠ .stopped ∧ t.line.holds = 0 := by
  cases h with
  | holds b c w keeps => exact permitOf_driven s.line.state w
  | lineState l x _ => exact permitOf_driven l s.line.holds
  | _ => exact law

theorem Quiet.outputs : OutputsFollow s → OutputsFollow t := fun ⟨permit, attention, valves⟩ =>
  ⟨h.permit permit, h.attention attention, h.valves valves⟩

theorem Quiet.timers : TimersFollow s → TimersFollow t := by
  rintro ⟨timer, ms⟩
  cases h with
  | lineState l x agree => exact ⟨agree, ms⟩
  | timer x running => exact ⟨⟨fun _ => running, fun _ => by simp⟩, ms⟩
  | totals x keeps _ => exact ⟨timer, keeps ms⟩
  | _ => exact ⟨timer, ms⟩

theorem Quiet.positions : PositionsAgree s → PositionsAgree t := by
  intro law
  cases h with
  | pos u keeps => exact keeps law
  | _ => exact law

theorem Quiet.tyerHolds : TyerHoldsFollow s → TyerHoldsFollow t := by
  intro law
  cases h with
  | blocks b c keeps => exact keeps.tyer law
  | holds b c w keeps => exact keeps.tyer law
  | _ => exact law

theorem Quiet.recipeLaw : RecipeLaw s → RecipeLaw t := by
  intro law
  cases h with
  | recipes r keeps _ => exact keeps law
  | _ => exact law

theorem Quiet.storeLaw : StoreLaw s → StoreLaw t := by
  intro law
  cases h with
  | store x keeps => exact keeps law
  | _ => exact law

theorem Quiet.unfitted : UnfittedAtRest s → UnfittedAtRest t := by
  intro law z
  cases h with
  | blocks b c keeps => exact keeps.rest z (law z)
  | holds b c w keeps => exact keeps.rest z (law z)
  | _ => exact law z

end quiet

/-! ## The invariants of single blocks -/

/-- Settles O54: the permit, the attention lines and the valves through the quiet changes. -/
theorem stepKeepsOutputs : Obligations.StepKeepsOutputs :=
  step_keeps_of_quiet (fun _ _ h => h) (fun _ _ _ _ => reset_outputs) fun _ _ => Quiet.outputs

/-- Settles O55: the ports' notices and transactions, the timers and the positions, each through the quiet changes. -/
theorem stepKeepsPortsTimersAndPositions : Obligations.StepKeepsPortsTimersAndPositions :=
  ⟨step_keeps_of_quiet (fun _ _ h => h) (fun _ _ _ _ => reset_notices) fun _ _ => Quiet.notices,
    step_keeps_of_quiet (fun _ _ h => h) (fun _ _ _ _ => reset_link) fun _ _ => Quiet.linkFollows,
    step_keeps_of_quiet (fun _ _ h => h) (fun _ _ _ _ => reset_timers) fun _ _ => Quiet.timers,
    step_keeps_of_quiet (fun _ _ h => h) (fun _ _ _ _ => reset_positions) fun _ _ => Quiet.positions⟩

/-- Settles O56: the magazine's, the tyer's and the date's reasons through the quiet changes. -/
theorem stepKeepsTyerHolds : Obligations.StepKeepsTyerHolds :=
  step_keeps_of_quiet (fun _ _ h => h) (fun _ _ _ _ => reset_tyerHolds) fun _ _ => Quiet.tyerHolds

/-- A mount chooses a bank with a valid state word (R160). -/
theorem currentOf_valid {a b : Bank} {i : BankId} (h : currentOf a b = some i) :
    (match i with | .a => a | .b => b).stateWord = true := by
  have valid {x : Bank} {n : Nat} (hx : x.validSeq = some n) : x.stateWord = true := by
    by_contra invalid; simp [Bank.validSeq, invalid] at hx
  unfold currentOf at h
  split at h
  · cases h
  · next ha _ => cases h; exact valid ha
  · next hb => cases h; exact valid hb
  · next ha hb =>
    cases i
    · exact valid ha
    · exact valid hb

theorem mounted_law {t : TotalsStore} (h : t.Law) : t.mounted.Law := by
  obtain ⟨-, -, -, ranges, distinct⟩ := h
  refine ⟨?_, fun w hw => (by cases hw), fun i hi => ?_, fun i => ?_, fun i hi => ?_⟩
  · simp only [TotalsStore.mounted]
    cases currentOf t.bankA t.bankB <;> simp
  · have valid := currentOf_valid hi
    cases i <;> exact valid
  · cases i
    · exact ranges .a
    · exact ranges .b
  · cases i
    · exact distinct .a hi
    · exact distinct .b hi

/-- Settles O59: the store's law through the steps of a write, a mount through the choice of the current bank. -/
theorem stepKeepsStoreLaw : Obligations.StepKeepsStoreLaw :=
  step_keeps_of_quiet (fun _ _ h => h) (fun _ _ _ h => mounted_law h) fun _ _ => Quiet.storeLaw

/-- Settles O60: the zones' rest with the hold set through the quiet changes. -/
theorem stepKeepsUnfittedAtRest : Obligations.StepKeepsUnfittedAtRest :=
  step_keeps_of_quiet (fun _ _ h => h) (fun _ _ _ _ => reset_unfitted) fun _ _ => Quiet.unfitted

/-! ## The roster of the queue -/

/-- The tags of a roster distinct and in range, at most 48 of them, and the counter in range (R61, R64). -/
def RosterLaw (roster : List (Nat × Fin 16)) (counter : Nat) : Prop :=
  (roster.map Prod.fst).Nodup ∧ roster.length ≤ 48 ∧ (∀ x ∈ roster, 1 ≤ x.1 ∧ x.1 ≤ 255) ∧ 1 ≤ counter ∧ counter ≤ 255

theorem roster_tags (q : TrackingQueue) : q.roster.map Prod.fst = q.records.map LoafRecord.tag := by
  simp [TrackingQueue.roster, Function.comp_def]

theorem tagsDistinct_iff (s : State) : TagsDistinct s ↔ RosterLaw s.queue.roster s.queue.tagCounter := by
  rw [TagsDistinct, RosterLaw, roster_tags]
  simp [TrackingQueue.roster]

theorem references_eq (s : State) (i : Fin 16) : s.references i = s.queue.roster.countP fun x => decide (x.2 = i) := by
  simp [State.references, TrackingQueue.roster, List.countP_map, Function.comp_def]

theorem roster_drop (tag : Nat) (rs : List LoafRecord) :
    (dropRecord tag rs).map (fun r => (r.tag, r.slot)) = (rs.map fun r => (r.tag, r.slot)).filter fun x => decide (x.1 ≠ tag) := by
  rw [List.filter_map]; rfl

/-- With distinct tags a roster is one of its entries and the rest of it. -/
theorem roster_perm_of_mem {roster : List (Nat × Fin 16)} {tag : Nat} {i : Fin 16} (distinct : (roster.map Prod.fst).Nodup)
    (h : (tag, i) ∈ roster) : roster.Perm ((tag, i) :: roster.filter fun x => decide (x.1 ≠ tag)) := by
  induction roster with
  | nil => cases h
  | cons x rest ih =>
    obtain ⟨fresh, distinct⟩ := List.nodup_cons.mp distinct
    obtain rfl | later := List.mem_cons.mp h
    · have rest_kept : rest.filter (fun x => decide (x.1 ≠ tag)) = rest :=
        List.filter_eq_self.mpr fun y hy => by
          simpa using fun e : y.1 = tag => fresh (List.mem_map.mpr ⟨y, hy, e⟩)
      rw [List.filter_cons_of_neg (by simp), rest_kept]
    · have ne : x.1 ≠ tag := fun e => fresh (List.mem_map.mpr ⟨_, later, e.symm⟩)
      rw [List.filter_cons_of_pos (by simpa using ne)]
      exact ((ih distinct later).cons x).trans (List.Perm.swap _ _ _)

/-! ### The roster through the events -/

theorem removeRecord_tagCounter (s : State) (tag : Nat) : (s.removeRecord tag).queue.tagCounter = s.queue.tagCounter := by
  unfold State.removeRecord
  dsimp only
  split
  · rw [releaseHold_frame _ _ .queue (by decide)]; rfl
  · rfl

theorem leave_tagCounter (s : State) (r : LoafRecord) (o : LeaveOutcome) :
    (s.leave r o).queue.tagCounter = s.queue.tagCounter := by
  rw [State.leave, judgeBlasts_frame _ .queue (by decide), withdrawTie_frame _ _ .queue (by decide), removeRecord_tagCounter,
    lowerInFlight_frame _ _ .queue (by decide), countInEntry_frame _ _ _ .queue (by decide),
    countLeave_frame _ _ _ .queue (by decide)]

theorem leave_roster (s : State) (r : LoafRecord) (o : LeaveOutcome) :
    (s.leave r o).queue.roster = s.queue.roster.filter fun x => decide (x.1 ≠ r.tag) := by
  rw [TrackingQueue.roster, leave_records, roster_drop]; rfl

/-- The queue of a state that a record has joined (R64). -/
theorem joinRecord_queue (s : State) (r : LoafRecord) :
    (s.joinRecord r).queue = { s.queue with records := s.queue.records ++ [r], tagCounter := after255 r.tag } := by
  unfold State.joinRecord
  dsimp only
  split
  · rw [placeHold_frame _ _ .queue (by decide)]; rfl
  · rfl

/-- What joins the queue at a creation (R66). -/
def State.created (s : State) (i : Fin 16) (p : Pos) : LoafRecord := newRecord s.nextTag i s.entryIdForRecord s.bag.date p

theorem createRecord_queue (s : State) (i : Fin 16) (p : Pos) :
    (s.createRecord i p).queue =
      { s.queue with records := s.queue.records ++ [s.created i p], tagCounter := after255 s.nextTag } := by
  rw [State.createRecord, judgeBlasts_frame _ .queue (by decide)]
  show ((((s.joinRecord (s.created i p)).raiseInFlight i).raiseCarried s.entryIdForRecord)).queue = _
  rw [raiseCarried_frame _ _ .queue (by decide), raiseInFlight_frame _ _ .queue (by decide), joinRecord_queue]
  rfl

theorem createRecord_roster (s : State) (i : Fin 16) (p : Pos) :
    (s.createRecord i p).queue.roster = s.queue.roster ++ [(s.nextTag, i)] := by
  rw [TrackingQueue.roster, createRecord_queue]
  simp [TrackingQueue.roster, State.created, newRecord]

/-! ### The next tag is free (R64) -/

/-- The tag k places after t. -/
theorem after255_iterate (k t : Nat) (h : 1 ≤ t ∧ t ≤ 255) : after255^[k] t = (t - 1 + k) % 255 + 1 := by
  induction k with
  | zero => simp only [Function.iterate_zero, id_eq]; omega
  | succ k ih =>
    rw [Function.iterate_succ_apply', ih]
    unfold after255
    split <;> omega

/-- The search answers a tag that is not used, or it has met a used one at every place. -/
theorem firstFree_spec (used : List Nat) (fuel t : Nat) :
    firstFree used fuel t ∉ used ∨ ∀ k < fuel, after255^[k] t ∈ used := by
  induction fuel generalizing t with
  | zero => exact .inr fun k hk => absurd hk (Nat.not_lt_zero k)
  | succ fuel ih =>
    unfold firstFree
    split
    · next taken =>
      obtain free | met := ih (after255 t)
      · exact .inl free
      · refine .inr fun k hk => ?_
        cases k with
        | zero => simpa using taken
        | succ k => rw [Function.iterate_succ_apply]; exact met k (by omega)
    · next free => exact .inl (by simpa using free)

/-- With fewer than 255 tags used, the search finds a free one. -/
theorem firstFree_free (used : List Nat) (t : Nat) (range : 1 ≤ t ∧ t ≤ 255) (room : used.length < 255) :
    firstFree used 255 t ∉ used := by
  refine (firstFree_spec used 255 t).resolve_right fun met => ?_
  have all : (List.range 255).map (fun k => after255^[k] t) ⊆ used := by
    intro x hx
    obtain ⟨k, hk, rfl⟩ := List.mem_map.mp hx
    exact met k (List.mem_range.mp hk)
  have distinct : ((List.range 255).map fun k => after255^[k] t).Nodup := by
    refine List.Nodup.map_on (fun a ha b hb e => ?_) List.nodup_range
    rw [after255_iterate _ _ range, after255_iterate _ _ range] at e
    rw [List.mem_range] at ha hb
    omega
  have all_used := (distinct.subperm all).length_le
  rw [List.length_map, List.length_range] at all_used
  omega

theorem nextTag_fresh {s : State} (h : TagsDistinct s) : s.nextTag ∉ s.queue.records.map LoafRecord.tag := by
  obtain ⟨-, length, -, low, high⟩ := h
  exact firstFree_free _ _ ⟨low, high⟩ (by simp; omega)

theorem nextTag_range {s : State} (h : TagsDistinct s) : 1 ≤ s.nextTag ∧ s.nextTag ≤ 255 := by
  obtain ⟨-, -, -, low, high⟩ := h
  exact firstFree_range _ _ _ ⟨low, high⟩

/-! ## Counts of records through the events -/

/-- What a chain of events under G keeps, if quiet changes, leaves, creations and the closing of a shift keep it. -/
theorem Evolves.keeps_counts {G : Prop} {I : State → Prop} (g : G) (quiet : ∀ s t, Quiet G s t → I s → I t)
    (leave : ∀ s r o, s.present r → I s → I (s.leave r o))
    (create : ∀ s i p, s.queueCount < queueCapacity → I s → I (s.createRecord i p))
    (nextShift : ∀ s : State, I s → I s.openNextShift) {s t : State} (h : Evolves G s t) (base : I s) : I t := by
  induction h with
  | refl => exact base
  | tail _ event ih =>
    cases event with
    | quiet h => exact quiet _ _ h ih
    | leave r o here _ => exact leave _ r o (here g) ih
    | create i p room _ => exact create _ i p room ih
    | nextShift => exact nextShift _ ih

theorem Quiet.roster {G : Prop} (g : G) {s t : State} (h : Quiet G s t) :
    t.queue.roster = s.queue.roster ∧ t.queue.tagCounter = s.queue.tagCounter := by
  cases h with
  | queue q same => exact same g
  | _ => exact ⟨rfl, rfl⟩

theorem Quiet.inFlight {G : Prop} (g : G) {s t : State} (h : Quiet G s t) (i : Fin 16) :
    (t.slot i).inFlight = (s.slot i).inFlight := by
  cases h with
  | recipes r _ same => exact same g i
  | _ => rfl

theorem Quiet.balance {G : Prop} (g : G) {s t : State} (h : Quiet G s t) : SameBalance s.totals.openShift t.totals.openShift := by
  cases h with
  | totals x _ same => exact same g
  | _ => exact ⟨rfl, rfl, rfl, rfl⟩

/-! ### Tags -/

theorem Quiet.tags {G : Prop} (g : G) {s t : State} (h : Quiet G s t) (law : TagsDistinct s) : TagsDistinct t := by
  rw [tagsDistinct_iff] at law ⊢
  rwa [(h.roster g).1, (h.roster g).2]

theorem leave_tags (s : State) (r : LoafRecord) (o : LeaveOutcome) (law : TagsDistinct s) : TagsDistinct (s.leave r o) := by
  rw [tagsDistinct_iff] at law ⊢
  obtain ⟨distinct, length, range, counter⟩ := law
  rw [leave_roster, leave_tagCounter]
  exact ⟨(List.filter_sublist.map _).nodup distinct, (List.length_filter_le _ _).trans length,
    fun x hx => range x (List.mem_of_mem_filter hx), counter⟩

theorem createRecord_tags (s : State) (i : Fin 16) (p : Pos) (room : s.queueCount < queueCapacity) (law : TagsDistinct s) :
    TagsDistinct (s.createRecord i p) := by
  have fresh := nextTag_fresh law
  have tagRange := nextTag_range law
  rw [tagsDistinct_iff] at law ⊢
  obtain ⟨distinct, length, range, -⟩ := law
  rw [createRecord_roster, createRecord_queue]
  refine ⟨?_, ?_, fun x hx => ?_, after255_range _⟩
  · rw [← roster_tags] at fresh
    rw [List.map_append, List.nodup_append]
    exact ⟨distinct, by simp, fun a ha b hb e => fresh (by simp at hb; rwa [← hb, ← e])⟩
  · simp [State.queueCount, queueCapacity] at room
    simp [TrackingQueue.roster]; omega
  · obtain old | new := List.mem_append.mp hx
    · exact range x old
    · rw [List.mem_singleton] at new; rw [new]; exact tagRange

theorem events_tags {G : Prop} (g : G) {s t : State} (law : TagsDistinct s) (h : Evolves G s t) : TagsDistinct t :=
  h.keeps_counts g (fun _ _ => Quiet.tags g) (fun s r o _ => leave_tags s r o) createRecord_tags (fun _ h => h) law

/-! ### In-flight counts (R31) -/

theorem lowerInFlight_inFlight (s : State) (i j : Fin 16) :
    ((s.lowerInFlight i).slot j).inFlight = if j = i then (s.slot j).inFlight - 1 else (s.slot j).inFlight := by
  have lowered (x : Slot) (hx : x.inFlight = (s.slot i).inFlight - 1) :
      ((s.setSlot i x).slot j).inFlight = if j = i then (s.slot j).inFlight - 1 else (s.slot j).inFlight := by
    by_cases e : j = i
    · subst e; simp [hx]
    · simp [e, slot_setSlot_of_ne]
  unfold State.lowerInFlight
  dsimp only
  split
  · rw [State.slot, notify_frame _ _ _ .recipes (by decide)]; exact lowered _ rfl
  · exact lowered _ rfl

/-- The slots after a leave are those after the in-flight count has fallen. -/
theorem leave_inFlight (s : State) (r : LoafRecord) (o : LeaveOutcome) (j : Fin 16) :
    ((s.leave r o).slot j).inFlight = if j = r.slot then (s.slot j).inFlight - 1 else (s.slot j).inFlight := by
  have before : ((s.countLeave r o).countInEntry r o).slot j = s.slot j := by
    rw [State.slot, countInEntry_frame _ _ _ .recipes (by decide), countLeave_frame _ _ _ .recipes (by decide)]; rfl
  rw [State.leave, State.slot, judgeBlasts_frame _ .recipes (by decide), withdrawTie_frame _ _ .recipes (by decide),
    removeRecord_frame _ _ .recipes (by decide), ← before]
  exact lowerInFlight_inFlight _ _ _

theorem createRecord_inFlight (s : State) (i j : Fin 16) (p : Pos) :
    ((s.createRecord i p).slot j).inFlight = if j = i then (s.slot j).inFlight + 1 else (s.slot j).inFlight := by
  have before : (s.joinRecord (s.created i p)).slot = s.slot := by
    funext k; rw [State.slot, joinRecord_frame _ _ .recipes (by decide)]; rfl
  rw [State.createRecord, State.slot, judgeBlasts_frame _ .recipes (by decide)]
  show (((((s.joinRecord (s.created i p)).raiseInFlight i).raiseCarried s.entryIdForRecord)).recipes.slots.get j).inFlight = _
  rw [raiseCarried_frame _ _ .recipes (by decide)]
  show (((s.joinRecord (s.created i p)).setSlot i _).slot j).inFlight = _
  by_cases e : j = i
  · subst e; simp [before]
  · simp [e, slot_setSlot_of_ne, before]

theorem leave_inFlightCounts (s : State) (r : LoafRecord) (o : LeaveOutcome) (here : s.present r) (tags : TagsDistinct s)
    (law : InFlightCounts s) : InFlightCounts (s.leave r o) := by
  intro j
  have distinct := ((tagsDistinct_iff s).mp tags).1
  have split := (roster_perm_of_mem distinct here).countP_eq fun x => decide (x.2 = j)
  have held := law j
  rw [references_eq] at held
  rw [leave_inFlight, references_eq, leave_roster, held, split, List.countP_cons]
  by_cases e : j = r.slot
  · simp [e]
  · simp [e, Ne.symm e]

theorem createRecord_inFlightCounts (s : State) (i : Fin 16) (p : Pos) (law : InFlightCounts s) :
    InFlightCounts (s.createRecord i p) := by
  intro j
  rw [createRecord_inFlight, references_eq, createRecord_roster, List.countP_append, ← references_eq, ← law j]
  by_cases e : j = i
  · simp [e]
  · simp [e, Ne.symm e]

/-! ### The balance of the open shift (R157) -/

theorem raise_cases (n : Nat) : raise n = countLimit ∨ raise n = n + 1 := by
  unfold raise raiseBy; omega

theorem raise_limit : raise countLimit = countLimit := by decide

/-- A count raised where a condition holds, as the balance's words have it. -/
theorem raised_eq (b : Bool) (n : Nat) : (if b then min (n + 1) 4294967295 else n) = if b then raise n else n := rfl

/-- A leave raises an entry's leaves by 1, or the entry has saturated. -/
theorem countLeave_leaves (e : ProductEntry) (r : LoafRecord) (o : LeaveOutcome) :
    (e.countLeave r o).saturated ∨ (e.countLeave r o).leaves = e.leaves + 1 := by
  obtain ⟨-, good, diverted, lost, bagFail, untied, unconfirmed, flushed, -⟩ := e.countLeave_counts r o
  simp only [raised_eq] at good diverted lost bagFail untied unconfirmed flushed
  unfold ProductEntry.saturated ProductEntry.leaves
  rw [good, diverted, lost, bagFail, untied, unconfirmed, flushed]
  cases o <;> simp only [reduceCtorEq, decide_true, decide_false, if_true, Bool.false_eq_true, if_false]
  case good => obtain h | h := raise_cases e.good <;> omega
  case diverted => obtain h | h := raise_cases e.diverted <;> omega
  case lost => obtain h | h := raise_cases e.lost <;> omega
  case bagFail => obtain h | h := raise_cases e.bagFail <;> omega
  case untied => obtain h | h := raise_cases e.untied <;> omega
  case unconfirmed => obtain h | h := raise_cases e.unconfirmed <;> omega
  case flushed => obtain h | h := raise_cases e.flushed <;> omega

/-- A count at its limit stays there. -/
theorem countLeave_saturated {e : ProductEntry} (r : LoafRecord) (o : LeaveOutcome) (h : e.saturated) :
    (e.countLeave r o).saturated := by
  obtain ⟨-, good, diverted, lost, bagFail, untied, unconfirmed, flushed, -⟩ := e.countLeave_counts r o
  simp only [raised_eq] at good diverted lost bagFail untied unconfirmed flushed
  have stays (b : Bool) : (if b then raise countLimit else countLimit) = countLimit := by rw [raise_limit, ite_self]
  unfold ProductEntry.saturated at *
  rw [good, diverted, lost, bagFail, untied, unconfirmed, flushed]
  obtain h | h | h | h | h | h | h := h <;> rw [h] <;> simp only [stays, true_or, or_true]

theorem countLeave_code (e : ProductEntry) (r : LoafRecord) (o : LeaveOutcome) : (e.countLeave r o).code = e.code :=
  (e.countLeave_counts r o).1

theorem leaves_eq (t : ShiftRecord) : t.leaves = (t.products.map ProductEntry.leaves).sum + t.other.leaves := by
  simp [ShiftRecord.leaves, ShiftRecord.entries]

theorem saturated_iff (t : ShiftRecord) :
    t.saturated ↔ t.created = countLimit ∨ (∃ e ∈ t.products, e.saturated) ∨ t.other.saturated := by
  simp [ShiftRecord.saturated, ShiftRecord.entries, or_and_right, exists_or]

/-- Product entries of which the one under a code counts a leave. -/
def countIn (c : Nat) (r : LoafRecord) (o : LeaveOutcome) (es : List ProductEntry) : List ProductEntry :=
  es.map fun e => if e.code = c then e.countLeave r o else e

theorem countIn_codes (c : Nat) (r : LoafRecord) (o : LeaveOutcome) (es : List ProductEntry) :
    (countIn c r o es).map ProductEntry.code = es.map ProductEntry.code := by
  unfold countIn
  rw [List.map_map]
  refine List.map_congr_left fun e _ => ?_
  simp only [Function.comp]
  split
  · exact countLeave_code e r o
  · rfl

theorem countIn_saturated {c : Nat} (r : LoafRecord) (o : LeaveOutcome) {es : List ProductEntry} (h : ∃ e ∈ es, e.saturated) :
    ∃ e ∈ countIn c r o es, e.saturated := by
  obtain ⟨e, he, full⟩ := h
  refine ⟨_, List.mem_map_of_mem he, ?_⟩
  split
  · exact countLeave_saturated r o full
  · exact full

theorem countIn_of_absent {c : Nat} (r : LoafRecord) (o : LeaveOutcome) {es : List ProductEntry}
    (h : c ∉ es.map ProductEntry.code) : countIn c r o es = es := by
  unfold countIn
  refine (List.map_congr_left fun e he => ?_).trans (List.map_id es)
  exact if_neg fun here : e.code = c => h (here ▸ List.mem_map_of_mem he)

/-- Where the codes are distinct and one of them is c, one entry counts the leave. -/
theorem countIn_leaves {c : Nat} (r : LoafRecord) (o : LeaveOutcome) {es : List ProductEntry}
    (distinct : (es.map ProductEntry.code).Nodup) (h : c ∈ es.map ProductEntry.code) :
    (∃ e ∈ countIn c r o es, e.saturated)
      ∨ ((countIn c r o es).map ProductEntry.leaves).sum = (es.map ProductEntry.leaves).sum + 1 := by
  induction es with
  | nil => cases h
  | cons e rest ih =>
    obtain ⟨fresh, distinct⟩ := List.nodup_cons.mp distinct
    by_cases here : e.code = c
    · have head : countIn c r o (e :: rest) = e.countLeave r o :: rest :=
        congrArg₂ List.cons (if_pos here) (countIn_of_absent r o (here ▸ fresh))
      rw [head]
      obtain full | up := countLeave_leaves e r o
      · exact .inl ⟨_, List.mem_cons_self, full⟩
      · right; simp only [List.map_cons, List.sum_cons, up]; omega
    · have head : countIn c r o (e :: rest) = e :: countIn c r o rest := congrArg₂ List.cons (if_neg here) rfl
      rw [head]
      obtain ⟨x, hx, full⟩ | up := ih distinct ((List.mem_cons.mp h).resolve_left (Ne.symm here))
      · exact .inl ⟨x, List.mem_cons_of_mem _ hx, full⟩
      · right; simp only [List.map_cons, List.sum_cons, up]; omega

/-- What the counting of a leave does to a shift record: product codes stay distinct, what has saturated stays so, and otherwise the leaves
rise by 1 (R154, R157). -/
theorem shift_countLeave (t : ShiftRecord) (code : Option Nat) (r : LoafRecord) (o : LeaveOutcome)
    (distinct : (t.products.map ProductEntry.code).Nodup) :
    ((t.countLeave code r o).products.map ProductEntry.code).Nodup
      ∧ (t.saturated → (t.countLeave code r o).saturated)
      ∧ ((t.countLeave code r o).saturated ∨ (t.countLeave code r o).leaves = t.leaves + 1)
      ∧ (t.countLeave code r o).carriedIn = t.carriedIn ∧ (t.countLeave code r o).created = t.created := by
  simp only [saturated_iff, leaves_eq]
  have other : (t.products.map ProductEntry.code).Nodup
      ∧ (t.created = countLimit ∨ (∃ e ∈ t.products, e.saturated) ∨ t.other.saturated →
        t.created = countLimit ∨ (∃ e ∈ t.products, e.saturated) ∨ (t.other.countLeave r o).saturated)
      ∧ ((t.created = countLimit ∨ (∃ e ∈ t.products, e.saturated) ∨ (t.other.countLeave r o).saturated)
        ∨ (t.products.map ProductEntry.leaves).sum + (t.other.countLeave r o).leaves =
          (t.products.map ProductEntry.leaves).sum + t.other.leaves + 1)
      ∧ t.carriedIn = t.carriedIn ∧ t.created = t.created :=
    ⟨distinct, Or.imp_right (Or.imp_right (countLeave_saturated r o)),
      (countLeave_leaves t.other r o).imp (fun h => .inr (.inr h)) (fun h => by omega), rfl, rfl⟩
  unfold ShiftRecord.countLeave
  split
  · exact other
  · next c =>
    split
    · next found =>
      have mem : c ∈ t.products.map ProductEntry.code := by simpa using found
      refine ⟨(countIn_codes c r o _).symm ▸ distinct, Or.imp_right (Or.imp_left (countIn_saturated r o)), ?_, rfl, rfl⟩
      refine (countIn_leaves r o distinct mem).imp (fun h => .inr (.inl h)) fun h => ?_
      show ((countIn c r o t.products).map ProductEntry.leaves).sum + t.other.leaves = _
      omega
    · next absent =>
      have fresh : c ∉ t.products.map ProductEntry.code := by simpa using absent
      split
      · refine ⟨?_, Or.imp_right (Or.imp_left fun ⟨e, he, full⟩ => ⟨e, List.mem_append_left _ he, full⟩), ?_, rfl, rfl⟩
        · rw [List.map_append, List.nodup_append]
          refine ⟨distinct, by simp, fun a ha b hb e => fresh ?_⟩
          simp only [List.map_cons, countLeave_code, List.map_nil, List.mem_singleton] at hb
          exact (show b = c from hb) ▸ e ▸ ha
        · obtain full | up := countLeave_leaves (ProductEntry.zero c) r o
          · exact .inl (.inr (.inl ⟨_, List.mem_append_right _ (List.mem_singleton_self _), full⟩))
          · have none : (ProductEntry.zero c).leaves = 0 := rfl
            right; simp only [List.map_append, List.map_cons, List.map_nil, List.sum_append, List.sum_cons, List.sum_nil, up, none]
            omega
      · exact other

theorem queueCount_eq (s : State) : s.queueCount = s.queue.roster.length := by simp [State.queueCount, TrackingQueue.roster]

theorem Quiet.shiftBalances {G : Prop} (g : G) {s t : State} (h : Quiet G s t) (law : ShiftBalances s) : ShiftBalances t := by
  obtain ⟨carried, created, products, other⟩ := h.balance g
  obtain ⟨distinct, balance⟩ := law
  refine ⟨products ▸ distinct, ?_⟩
  rw [saturated_iff, leaves_eq, queueCount_eq] at balance ⊢
  rwa [carried, created, products, other, (h.roster g).1]

theorem leave_shiftBalances (s : State) (r : LoafRecord) (o : LeaveOutcome) (here : s.present r) (tags : TagsDistinct s)
    (law : ShiftBalances s) : ShiftBalances (s.leave r o) := by
  obtain ⟨distinct, balance⟩ := law
  obtain ⟨codes, full, up, carried, created⟩ := shift_countLeave s.totals.openShift (s.productCode r.slot) r o distinct
  have count := (roster_perm_of_mem ((tagsDistinct_iff s).mp tags).1 here).length_eq
  unfold ShiftBalances
  rw [leave_totals, queueCount_eq, leave_roster]
  rw [queueCount_eq] at balance
  refine ⟨codes, ?_⟩
  obtain saturated | balance := balance
  · exact .inl (full saturated)
  · refine up.imp id fun leaves => ?_
    show (s.totals.openShift.countLeave _ r o).carriedIn + (s.totals.openShift.countLeave _ r o).created
      = _ + (s.totals.openShift.countLeave _ r o).leaves
    rw [carried, created, leaves, balance, count, List.length_cons]
    omega

theorem createRecord_openShift (s : State) (i : Fin 16) (p : Pos) :
    (s.createRecord i p).totals.openShift = { s.totals.openShift with created := raise s.totals.openShift.created } := by
  rw [State.createRecord, judgeBlasts_frame _ .totals (by decide), State.countCreated, setShift_totals,
    raiseCarried_frame _ _ .totals (by decide), raiseInFlight_frame _ _ .totals (by decide), joinRecord_frame _ _ .totals (by decide)]

theorem createRecord_shiftBalances (s : State) (i : Fin 16) (p : Pos) (law : ShiftBalances s) :
    ShiftBalances (s.createRecord i p) := by
  obtain ⟨distinct, balance⟩ := law
  unfold ShiftBalances
  rw [createRecord_openShift, queueCount_eq, createRecord_roster]
  rw [queueCount_eq] at balance
  refine ⟨distinct, ?_⟩
  obtain limit | up := raise_cases s.totals.openShift.created
  · exact .inl (.inl limit)
  · obtain (created | entries) | balance := balance
    · exact .inl (.inl (by rw [created]; exact raise_limit))
    · exact .inl (.inr entries)
    · right
      show s.totals.openShift.carriedIn + raise s.totals.openShift.created = _ + s.totals.openShift.leaves
      rw [up, List.length_append, List.length_singleton]
      omega

theorem openNextShift_shiftBalances (s : State) : ShiftBalances s.openNextShift := ⟨List.nodup_nil, .inr rfl⟩

/-! ## The invariants of the counts -/

/-- Settles O57: the tags and the in-flight counts through the events that move records, the slots through the quiet changes. -/
theorem stepKeepsTagsAndSlots : Obligations.StepKeepsTagsAndSlots := by
  refine ⟨?_, fun s t tags counts run => ?_, ?_⟩
  · exact step_keeps TagsDistinct (fun _ h => h.1) (fun _ _ h => h) (fun _ _ _ _ => reset_tags) fun s _ law => events_tags law law
  · refine (step_keeps (I := fun s => TagsDistinct s ∧ InFlightCounts s) TagsDistinct (fun _ h => h.1) (fun _ _ h => h)
      (fun _ _ _ _ => ⟨reset_tags, reset_inFlight⟩) (fun s _ law evolves => ?_) s t ⟨tags, counts⟩ run).2
    refine evolves.keeps_counts (I := fun s => TagsDistinct s ∧ InFlightCounts s) law.1
      (fun u v h ⟨tags, counts⟩ => ⟨h.tags law.1 tags, fun i => ?_⟩)
      (fun u r o here ⟨tags, counts⟩ => ⟨leave_tags u r o tags, leave_inFlightCounts u r o here tags counts⟩)
      (fun u i p room ⟨tags, counts⟩ => ⟨createRecord_tags u i p room tags, createRecord_inFlightCounts u i p counts⟩)
      (fun _ h => h) law
    rw [h.inFlight law.1, counts i, references_eq, references_eq, (h.roster law.1).1]
  · exact step_keeps_of_quiet (fun _ _ h => h) (fun _ _ _ _ => reset_recipes) fun _ _ => Quiet.recipeLaw

/-- Settles O58: the balance through the events that move records, each with the roster and the open shift it leaves. -/
theorem stepKeepsShiftBalance : Obligations.StepKeepsShiftBalance := by
  intro s t tags balance run
  refine (step_keeps (I := fun s => TagsDistinct s ∧ ShiftBalances s) TagsDistinct (fun _ h => h.1) (fun _ _ h => h)
    (fun _ _ _ _ => ⟨reset_tags, reset_balance⟩) (fun s _ law evolves => ?_) s t ⟨tags, balance⟩ run).2
  exact evolves.keeps_counts (I := fun s => TagsDistinct s ∧ ShiftBalances s) law.1
    (fun u v h ⟨tags, balance⟩ => ⟨h.tags law.1 tags, h.shiftBalances law.1 balance⟩)
    (fun u r o here ⟨tags, balance⟩ => ⟨leave_tags u r o tags, leave_shiftBalances u r o here tags balance⟩)
    (fun u i p room ⟨tags, balance⟩ => ⟨createRecord_tags u i p room tags, createRecord_shiftBalances u i p balance⟩)
    (fun u ⟨tags, _⟩ => ⟨tags, openNextShift_shiftBalances u⟩) law

end Sys2Proof.Machine
end

section
/-! SUPPORT. The queue of commands, power-on, the speed sampler and the eye filters, and the judging of blasts that many events end with. -/

namespace Sys2Proof.Machine

variable (s : State)

/-! ## The queue of commands -/

/-- Settles O1: the step's own match on the queue. -/
theorem stepRunsFrontCommand : Obligations.StepRunsFrontCommand := by
  intro c rest s pending
  rw [step, pending]

theorem Quiet.pending {G : Prop} {s t : State} (h : Quiet G s t) : t.pending = s.pending := by cases h <;> rfl

/-- Settles O3: every command's chain of events leaves the waiting commands, and so does a power-on reset. -/
theorem everyCommandCompletes : Obligations.EveryCommandCompletes := by
  intro c s
  have completes : ∃ t, exec c s = .next t := by cases c <;> exact ⟨_, rfl⟩
  obtain ⟨t, run⟩ := completes
  refine ⟨t, run, ?_⟩
  obtain ⟨lines, eyes, -, rfl⟩ | evolves := exec_evolves (G := False) s c t run False.elim
  · rfl
  · exact evolves.keeps (I := fun u => u.pending = s.pending) (fun u v h base => h.pending.trans base) rfl

theorem mem_dueAt (c x : Instr) (t : Nat) (deadline : Option Nat) :
    x ∈ dueAt t deadline c ↔ x = c ∧ ∃ d, deadline = some d ∧ d ≤ t := by
  cases deadline with
  | none => simp [dueAt]
  | some d =>
    unfold dueAt
    by_cases h : d ≤ t <;> simp [h]

theorem Pulse.endTime?_eq_some {x : Pulse} {t : Nat} : x.endTime? = some t ↔ x = .driven t := by
  cases x <;> simp [Pulse.endTime?]

/-- Which commands wait after a millisecond with none waiting. -/
theorem mem_dueCommands :
    (.idleTimerExpiry ∈ s.dueCommands ↔ ∃ d, s.line.idleTimer = some d ∧ d ≤ s.now)
      ∧ (.speedSamplerExpiry ∈ s.dueCommands ↔ s.pos.nextSample ≤ s.now)
      ∧ (.firePulseEnd ∈ s.dueCommands ↔ ∃ d, s.bag.fireLine = .driven d ∧ d ≤ s.now)
      ∧ (.tieTimeoutExpiry ∈ s.dueCommands ↔ ∃ f, s.bag.tieInFlight = some f ∧ f.expiry ≤ s.now)
      ∧ (∀ z, .blastEnd z ∈ s.dueCommands ↔ ∃ d, (s.zone z).blastEnd = some d ∧ d ≤ s.now)
      ∧ (∀ g, .gatePulseEnd g ∈ s.dueCommands ↔ ∃ d, s.queue.gate g = .driven d ∧ d ≤ s.now)
      ∧ ∀ e, .eyeFilterExpiry e ∈ s.dueCommands ↔ ∃ c, (s.pos.filters.get e).change = some c ∧ c.expiry ≤ s.now := by
  simp only [State.dueCommands, List.mem_append, mem_dueAt, reduceCtorEq, false_and, or_false, false_or, true_and,
    Pulse.endTime?_eq_some, Instr.blastEnd.injEq, Instr.gatePulseEnd.injEq, Instr.eyeFilterExpiry.injEq, Option.map_eq_some_iff,
    Option.some.injEq, exists_eq_left', exists_exists_and_eq_and]
  refine ⟨fun z => ?_, fun g => ?_, fun e => ?_⟩
  · cases z <;> simp [State.zone, CrumbUnit.get]
  · cases g <;> simp [TrackingQueue.gate]
  · cases e <;> simp [EyeFilters.get]

theorem tick_frame : OnlyTouches [.pending, .now, .totals] s s.tick :=
  ((elapse_frame s 1).within rfl).andThen (setPending_frame _ _) rfl

theorem tick_pending : s.tick.pending = (s.elapse 1).dueCommands := setPending_pending _ _

theorem tick_now : s.tick.now = (s.elapse 1).now := setPending_now _ _

/-- Settles O2: a millisecond elapses, and a command waits exactly where its deadline has come. -/
theorem emptyQueuePassesAMillisecond : Obligations.EmptyQueuePassesAMillisecond := by
  intro s pending
  have elapsed := elapse_frame s 1
  have now : (s.elapse 1).now = s.now + 1 := elapse_now s 1
  have queue : (s.elapse 1).queue = s.queue := elapsed .queue (by decide)
  have bag : (s.elapse 1).bag = s.bag := elapsed .bag (by decide)
  have zone : ∀ z, (s.elapse 1).zone z = s.zone z := fun z => congrArg (CrumbUnit.get · z) (elapsed .crumb (by decide))
  have line : (s.elapse 1).line = s.line := elapsed .line (by decide)
  have pos : (s.elapse 1).pos = s.pos := elapsed .pos (by decide)
  have due := mem_dueCommands (s.elapse 1)
  simp only [now, queue, bag, zone, line, pos] at due
  rw [← tick_pending] at due
  exact ⟨s.tick, by rw [step, pending], (tick_now s).trans now, tick_frame s, due⟩

/-! ## Power-on -/

/-- Settles O4: the fields of State.reset read off. -/
theorem resetValues : Obligations.ResetValues := by
  refine ⟨rfl, rfl, rfl, rfl, rfl, rfl, rfl, rfl, fun e => ?_, rfl, reset_slot, rfl, rfl, rfl, rfl, rfl, fun z => ?_, rfl, fun p => ?_⟩
  · cases e <;> rfl
  · cases z <;> rfl
  · cases p <;> exact ⟨rfl, rfl, rfl, rfl, rfl⟩

theorem powerOn_frame (lines : Quad) (eyes : EyeLevels) :
    OnlyTouches [.pending, .choices, .pos, .store] State.reset (s.powerOn lines eyes) := by
  intro x hx
  cases x
  case pending | choices | pos | store => exact absurd (by decide) hx
  all_goals rfl

theorem currentOf_of_valid {a b : Bank} {m n : Nat} (ha : a.validSeq = some m) (hb : b.validSeq = some n) :
    currentOf a b =
      (if m = n then some .a
       else if m = (if n < 4294967295 then n + 1 else 1) then some .a
       else if n = (if m < 4294967295 then m + 1 else 1) then some .b
       else if n < m then some .a else some .b) := by
  simp only [currentOf, ha, hb]; rfl

theorem currentOf_ne_none {a b : Bank} {m n : Nat} (ha : a.validSeq = some m) (hb : b.validSeq = some n) :
    ∃ i, currentOf a b = some i := by
  rw [currentOf_of_valid ha hb]
  split_ifs <;> exact ⟨_, rfl⟩

theorem mounted_state_of_some {t : TotalsStore} {i : BankId} (h : currentOf t.bankA t.bankB = some i) :
    t.mounted.current = some i ∧ t.mounted.state = .ready := by
  simp [TotalsStore.mounted, h]

/-- Settles O5: the reset state but for four fields, and a mount by which of the banks are valid. -/
theorem powerOnResetsAndMounts : Obligations.PowerOnResetsAndMounts := by
  intro lines eyes s
  refine ⟨s.powerOn lines eyes, rfl, rfl, rfl, powerOn_frame s lines eyes, rfl, rfl, rfl, rfl, ?_, ?_, ?_, ?_⟩
  · intro ha hb
    have none : currentOf s.store.bankA s.store.bankB = none := by simp [currentOf, ha, hb]
    exact ⟨none, by simp [State.powerOn, TotalsStore.mounted, none]⟩
  · intro ha hb
    obtain ⟨m, ha⟩ := Option.ne_none_iff_exists'.mp ha
    exact mounted_state_of_some (by simp [currentOf, ha, hb])
  · intro ha hb
    obtain ⟨n, hb⟩ := Option.ne_none_iff_exists'.mp hb
    exact mounted_state_of_some (by simp [currentOf, ha, hb])
  · intro m n ha hb
    obtain ⟨i, current⟩ := currentOf_ne_none ha hb
    obtain ⟨-, ready⟩ := mounted_state_of_some current
    exact ⟨ready, currentOf_of_valid ha hb⟩

/-! ## The judging of blasts (R135, R136) -/

/-- A zone after the start of a blast has been judged in it. -/
def State.judgedZone (s : State) (z : Zone) : ZoneState :=
  match s.bar z with
  | some b => if s.blastStarts z then (s.zone z).startBlast s.now b else s.zone z
  | none => s.zone z

theorem zone_judgeBlast_self (z : Zone) : (s.judgeBlast z).zone z = s.judgedZone z := by
  cases bar : s.bar z with
  | none => simp [State.judgeBlast, State.judgedZone, bar]
  | some b => by_cases starts : s.blastStarts z = true <;> simp [State.judgeBlast, State.judgedZone, bar, starts]

theorem zone_judgeBlast_of_ne {z w : Zone} (ne : w ≠ z) : (s.judgeBlast z).zone w = s.zone w := by
  unfold State.judgeBlast
  split
  · split
    · exact zone_setZone_of_ne s z w _ ne
    · rfl
  · rfl

/-- What the judging of a zone looks at beside the zone. -/
structure SameForBlasts (s t : State) : Prop where
  chain : t.chain = s.chain
  queue : t.queue = s.queue
  pos : t.pos = s.pos
  now : t.now = s.now

theorem SameForBlasts.of_crumb {s t : State} (h : OnlyTouches [.crumb] s t) : SameForBlasts s t :=
  ⟨h .chain (by decide), h .queue (by decide), h .pos (by decide), h .now (by decide)⟩

theorem SameForBlasts.bar {s t : State} (h : SameForBlasts s t) (z : Zone) : t.bar z = s.bar z := by
  rw [State.bar, h.chain]; rfl

theorem SameForBlasts.occupant {s t : State} (h : SameForBlasts s t) {z : Zone} (fitted : (t.zone z).fitted = (s.zone z).fitted) :
    t.occupant z = s.occupant z := by
  rw [State.occupant, fitted, h.bar, h.queue, h.pos]; rfl

theorem SameForBlasts.judgedZone {s t : State} (h : SameForBlasts s t) {z : Zone} (zone : t.zone z = s.zone z) :
    t.judgedZone z = s.judgedZone z := by
  unfold State.judgedZone State.blastStarts
  rw [h.bar, h.occupant (by rw [zone]), zone, h.now]

/-- Judging both zones judges each. -/
theorem zone_judgeBlasts (z : Zone) : s.judgeBlasts.zone z = s.judgedZone z := by
  have frame := SameForBlasts.of_crumb (judgeBlast_frame s .z0)
  cases z with
  | z0 =>
    have first := zone_judgeBlast_self s .z0
    rwa [← zone_judgeBlast_of_ne (s.judgeBlast .z0) (z := .z1) (w := .z0) (by decide)] at first
  | z1 =>
    have second := zone_judgeBlast_self (s.judgeBlast .z0) .z1
    rwa [frame.judgedZone (zone_judgeBlast_of_ne s (by decide))] at second

theorem wanted_iff (x : ZoneState) : x.wanted = true ↔ x.soft ≤ x.load ∨ x.manualClear = true ∨ x.purgeOwed = true := by
  simp [ZoneState.wanted, or_assoc]

theorem blastStarts_iff (z : Zone) :
    s.blastStarts z = true ↔
      (s.zone z).fitted = true ∧ (s.zone z).blastEnd = none ∧ s.occupant z = none ∧ (s.zone z).wanted = true := by
  simp [State.blastStarts, and_assoc]

theorem judgedZone_fitted (z : Zone) : (s.judgedZone z).fitted = (s.zone z).fitted := by
  unfold State.judgedZone
  split
  · split <;> rfl
  · rfl

theorem judgedZone_load (z : Zone) : (s.judgedZone z).load = (s.zone z).load := by
  unfold State.judgedZone
  split
  · split <;> rfl
  · rfl

theorem judgedZone_of_starts {z : Zone} {b : Bar} (bar : s.bar z = some b) (starts : s.blastStarts z = true) :
    s.judgedZone z = (s.zone z).startBlast s.now b := by
  simp [State.judgedZone, bar, starts]

theorem judgedZone_of_not_starts {z : Zone} (h : s.bar z = none ∨ s.blastStarts z = false) : s.judgedZone z = s.zone z := by
  unfold State.judgedZone
  obtain none | stays := h
  · rw [none]
  · rw [stays]; split <;> rfl

/-- An event whose zones, but for their loads and a dropped purge, are as before, has its blasts judged by judging both zones, on where the
loaves then are. -/
theorem blastsJudgedWhere_of_judged {s u t : State} {dropped : Bool} {clear : Zone → Prop} (same : SameForBlasts u t)
    (judged : ∀ z, t.zone z = u.judgedZone z)
    (kept : ∀ z, u.zone z = { s.zone z with load := (u.zone z).load, purgeOwed := (s.zone z).purgeOwed && !dropped })
    (occupied : ∀ z, u.occupant z = none ↔ clear z) : BlastsJudgedWhere s t dropped clear := by
  intro z before wanted
  have load : (t.zone z).load = (u.zone z).load := by rw [judged, judgedZone_load]
  have isBefore : u.zone z = before := (kept z).trans (by rw [← load])
  clear_value before
  subst isBefore
  rw [same.bar, same.now, judged]
  constructor
  · intro b bar fitted resting wanted clear
    exact judgedZone_of_starts u bar ((blastStarts_iff u z).mpr
      ⟨fitted, resting, (occupied z).mpr clear, (wanted_iff _).mpr wanted⟩)
  · intro why
    refine judgedZone_of_not_starts u ?_
    obtain none | why := why
    · exact .inl none
    · refine .inr (Bool.eq_false_iff.mpr fun starts => ?_)
      obtain ⟨fitted, resting, empty, wanted⟩ := (blastStarts_iff u z).mp starts
      obtain unfitted | blasting | unwanted | occupied' := why
      · rw [fitted] at unfitted; cases unfitted
      · exact blasting resting
      · exact unwanted ((wanted_iff _).mp wanted)
      · exact occupied' ((occupied z).mp empty)

theorem judgeBlasts_same : SameForBlasts s s.judgeBlasts := .of_crumb (judgeBlasts_frame s)

theorem occupant_judgeBlasts (z : Zone) : s.judgeBlasts.occupant z = s.occupant z :=
  (judgeBlasts_same s).occupant (by rw [zone_judgeBlasts, judgedZone_fitted])

/-- What follows the judging of the blasts and reaches none of what it looks at. -/
theorem BlastsJudged.after {s t u : State} {dropped : Bool} (h : BlastsJudged s t dropped) {ps : List Part} (frame : OnlyTouches ps t u)
    (apart : ∀ x ∈ [Part.crumb, .chain, .queue, .pos, .now], x ∉ ps) : BlastsJudged s u dropped := by
  have same : SameForBlasts t u :=
    ⟨frame _ (apart .chain (by decide)), frame _ (apart .queue (by decide)), frame _ (apart .pos (by decide)),
      frame _ (apart .now (by decide))⟩
  have zone : ∀ z, u.zone z = t.zone z := fun z => by rw [State.zone, frame _ (apart .crumb (by decide))]; rfl
  intro z
  have hz := h z
  dsimp only at hz ⊢
  rw [zone, same.bar, same.now, same.occupant (by rw [zone])]
  exact hz

theorem blastsJudged_judgeBlasts {s u : State} {dropped : Bool}
    (kept : ∀ z, u.zone z = { s.zone z with load := (u.zone z).load, purgeOwed := (s.zone z).purgeOwed && !dropped }) :
    BlastsJudged s u.judgeBlasts dropped :=
  blastsJudgedWhere_of_judged (judgeBlasts_same u) (zone_judgeBlasts u) kept fun z => by rw [occupant_judgeBlasts]

theorem judgeBlasts_load (z : Zone) : (s.judgeBlasts.zone z).load = (s.zone z).load := by rw [zone_judgeBlasts, judgedZone_load]

/-! ## The speed sampler -/

theorem rawSpeed_eq : s.pos.rawSpeed = s.windowSpeed := by
  show 64 * clampInt 0 4095 (s.pos.h - s.pos.windowStart).toInt = s.windowSpeed
  unfold State.windowSpeed clampInt
  generalize (s.pos.h - s.pos.windowStart).toInt = d
  dsimp only
  split_ifs <;> omega

/-- Settles O7: the Position Unit after a sample, the filtered speed between the old and the raw one, and the blasts judged. -/
theorem speedSamplerFiltersSpeed : Obligations.SpeedSamplerFiltersSpeed := by
  intro s
  have zones : ∀ z, ((s.reach s.pos.nextSample).setPos s.pos.sample).zone z = s.zone z := zone_reach s _
  have pos : s.sampleSpeed.pos = s.pos.sample := judgeBlasts_frame _ .pos (by decide)
  obtain ⟨up, down⟩ := filteredSpeed_between s.pos.v s.pos.rawSpeed
  refine ⟨s.sampleSpeed, rfl, ?_, ?_, fun z => ?_, ?_, ?_, ?_⟩
  · exact (((reach_frame s _).within rfl).andThen (setPos_frame _ _) rfl).andThen (judgeBlasts_frame _) rfl
  · exact blastsJudged_judgeBlasts fun z => by rw [zones]; simp
  · exact (judgeBlasts_load _ z).trans (by rw [zones])
  · rw [pos, ← rawSpeed_eq]; rfl
  · rw [pos, ← rawSpeed_eq]; exact up
  · rw [pos, ← rawSpeed_eq]; exact down

/-! ## The eye filters -/

theorem acceptEdge_pos (e : Eye) (l : Level) (c : PendingChange) :
    (s.acceptEdge e l c).pos = { s.pos with filters := s.pos.filters.set e { accepted := l, change := none } } := by
  have accepted : ((s.setFilter e { accepted := l, change := none }).edgeActivity e).pos =
      (s.setFilter e { accepted := l, change := none }).pos := edgeActivity_frame _ e .pos (by decide)
  unfold State.acceptEdge
  dsimp only
  split
  · rw [takeEdge_frame _ _ _ _ .pos (by decide), accepted]; rfl
  · rw [accepted]; rfl

/-- A filter with no pending change stands at its accepted level, one with a pending change at the other (R9). -/
theorem raw_of_none {f : EyeFilter} (h : f.change = none) : f.raw = f.accepted := by simp [EyeFilter.raw, h]

theorem raw_of_ne_none {f : EyeFilter} (h : f.change ≠ none) : f.raw = otherLevel f.accepted := by
  obtain ⟨c, hc⟩ := Option.ne_none_iff_exists'.mp h
  simp [EyeFilter.raw, hc]

theorem otherLevel_ne (l : Level) : otherLevel l ≠ l := by cases l <;> decide

theorem eq_otherLevel {l m : Level} (h : l ≠ m) : l = otherLevel m := by
  cases l <;> cases m <;> first | rfl | exact absurd rfl h

/-- A change from a level with none pending. -/
theorem rawLevel_opens {e : Eye} {l : Level} (rest : (s.pos.filters.get e).change = none)
    (new : l ≠ (s.pos.filters.get e).accepted) :
    s.rawLevel e l =
      if s.pos.config.filterTime = 0 then s.acceptEdge e l s.openChange
      else s.setFilter e { s.pos.filters.get e with change := some s.openChange } := by
  rw [State.rawLevel, if_neg (by rw [raw_of_none rest]; exact Ne.symm new), rest]

/-- The return to the accepted level drops the change. -/
theorem rawLevel_drops {e : Eye} (pending : (s.pos.filters.get e).change ≠ none) :
    s.rawLevel e (s.pos.filters.get e).accepted = s.setFilter e { s.pos.filters.get e with change := none } := by
  rw [State.rawLevel, if_neg (by rw [raw_of_ne_none pending]; exact otherLevel_ne _)]
  obtain ⟨c, hc⟩ := Option.ne_none_iff_exists'.mp pending
  rw [hc]

theorem filterExpiry_of_pending {e : Eye} {c : PendingChange} (h : (s.pos.filters.get e).change = some c) :
    s.filterExpiry e = (s.reach c.expiry).acceptEdge e (otherLevel (s.pos.filters.get e).accepted) c := by
  rw [State.filterExpiry, h]

theorem EyeFilters.set_set (f : EyeFilters) (e : Eye) (x y : EyeFilter) : (f.set e x).set e y = f.set e y := by cases e <;> rfl

/-- The acceptance of a change reads nothing of the filter it replaces. -/
theorem acceptEdge_setFilter (e : Eye) (f : EyeFilter) (l : Level) (c : PendingChange) :
    (s.setFilter e f).acceptEdge e l c = s.acceptEdge e l c := by
  have same : (s.setFilter e f).setFilter e { accepted := l, change := none } = s.setFilter e { accepted := l, change := none } := by
    show s.setPos { s.pos with filters := (s.pos.filters.set e f).set e _ } = _
    rw [EyeFilters.set_set]; rfl
  rw [State.acceptEdge, same]; rfl

/-- A pending change whose time has come is accepted. -/
theorem filterExpiry_setFilter (e : Eye) (f : EyeFilter) {c : PendingChange} (come : c.expiry ≤ s.now) :
    (s.setFilter e { f with change := some c }).filterExpiry e = s.acceptEdge e (otherLevel f.accepted) c := by
  have filter : (s.setFilter e { f with change := some c }).pos.filters.get e = { f with change := some c } :=
    EyeFilters.get_set_self _ e _
  rw [filterExpiry_of_pending _ (congrArg EyeFilter.change filter), filter,
    reach_of_le (s.setFilter e { f with change := some c }) c.expiry come, acceptEdge_setFilter]

theorem pass_shiftCounts (t : TotalsUnit) (d : Nat) (a : TimeCount) :
    (t.pass d a).openShift.created = t.openShift.created ∧ (t.pass d a).openShift.untracked = t.openShift.untracked
      ∧ (t.pass d a).openShift.strays = t.openShift.strays := by
  cases a <;> exact ⟨rfl, rfl, rfl⟩

/-- Two states agree in the counts of the loaves that came. -/
def SameArrivals (s t : State) : Prop :=
  t.totals.openShift.created = s.totals.openShift.created ∧ t.totals.openShift.untracked = s.totals.openShift.untracked
    ∧ t.totals.openShift.strays = s.totals.openShift.strays

theorem SameArrivals.trans {s t u : State} (h : SameArrivals s t) (k : SameArrivals t u) : SameArrivals s u := by
  obtain ⟨created, untracked, strays⟩ := h
  obtain ⟨created', untracked', strays'⟩ := k
  exact ⟨created'.trans created, untracked'.trans untracked, strays'.trans strays⟩

theorem passInto_arrivals (d : Nat) (a : TimeCount) : SameArrivals s (s.passInto d a) := by
  unfold State.passInto
  split
  · exact pass_shiftCounts s.totals d a
  · exact ⟨rfl, rfl, rfl⟩

theorem elapse_arrivals (d : Nat) : SameArrivals s (s.elapse d) :=
  (((passInto_arrivals (s.setNow (s.now + d)) d _).trans (passInto_arrivals _ d _)).trans (passInto_arrivals _ d _)).trans
    (passInto_arrivals _ d _)

theorem reach_arrivals (x : Nat) : SameArrivals s (s.reach x) := by
  unfold State.reach
  split
  · exact elapse_arrivals s _
  · exact ⟨rfl, rfl, rfl⟩

/-- An edge captured behind H reaches no record. -/
theorem acceptEdge_behind {e : Eye} {l : Level} {c : PendingChange} (behind : c.atH = false) :
    s.acceptEdge e l c = (s.setFilter e { accepted := l, change := none }).edgeActivity e := by
  simp [State.acceptEdge, behind]

/-- Settles O8: a raw level change by whether a change is pending, and the acceptance that both commands lead to. -/
theorem eyeFiltersFollowTheRules : Obligations.EyeFiltersFollowTheRules := by
  refine ⟨⟨?opens, ?drops, ?atOnce⟩, ?expires, ?same⟩
  case opens =>
    rintro s e l f rfl rest new time
    exact congrArg Host.Outcome.next ((rawLevel_opens s rest new).trans (if_neg time))
  case drops =>
    rintro s e l f rfl pending rfl
    exact congrArg Host.Outcome.next (rawLevel_drops s pending)
  case atOnce =>
    rintro s e l f rfl rest new time
    exact ⟨_, congrArg Host.Outcome.next ((rawLevel_opens s rest new).trans (if_pos time)), acceptEdge_frame s e l _,
      acceptEdge_pos s e l _⟩
  case expires =>
    rintro s e f c rfl pending
    have reached := reach_frame s c.expiry
    have pos : (s.reach c.expiry).pos = s.pos := reached .pos (by decide)
    refine ⟨_, congrArg Host.Outcome.next (filterExpiry_of_pending s pending), ?_, ?_, fun behind => ?_⟩
    · exact (reached.within rfl).andThen (acceptEdge_frame _ e _ c) rfl
    · rw [acceptEdge_pos, pos]
    · rw [acceptEdge_behind _ behind]
      have accepted : OnlyTouches [.pos, .line, .crumb] (s.reach c.expiry)
          (((s.reach c.expiry).setFilter e ⟨otherLevel (s.pos.filters.get e).accepted, none⟩).edgeActivity e) :=
        ((setPos_frame _ _).within rfl).andThen (edgeActivity_frame _ e) rfl
      refine ⟨(reached.within rfl).andThen accepted rfl, ?_⟩
      rw [accepted .totals (by decide)]
      exact reach_arrivals s c.expiry
  case same =>
    rintro s e l f rfl rest new time
    have change : s.openChange = ⟨s.pos.p, decide (s.pos.x = 0), 0, s.now⟩ := by simp [State.openChange, time]
    refine congrArg Host.Outcome.next (((rawLevel_opens s rest new).trans (if_pos time)).trans ?_)
    rw [change, eq_otherLevel new]
    exact (filterExpiry_setFilter s e _ (Nat.le_refl _)).symm

/-! ## Forbidden ports -/

/-- A request command is its block's reply, answered. -/
theorem exec_isAnswer (c : Instr) (h : RequestHeader) (e : requestOf c = some h) :
    ∃ r, exec c s = .next (s.answer h.kind h.port h.seq r) := by
  cases c <;> simp only [requestOf, Option.some.injEq, reduceCtorEq] at e <;> subst e <;> exact ⟨_, rfl⟩

/-- Settles O52: every request is an answer, and an answer on a forbidden port leaves only the refusal. -/
theorem forbiddenPortsAreRefused : Obligations.ForbiddenPortsAreRefused := by
  intro c h s e forbidden
  obtain ⟨r, run⟩ := exec_isAnswer s c h e
  rw [run, answer_notPermitted s _ _ _ r forbidden]

end Sys2Proof.Machine
end

section
/-! SUPPORT. What a taken and a refused request are answered with, and the station chain: CHAIN_WRITE, what it may carry, CHAIN_READ. -/

namespace Sys2Proof.Machine

variable (s : State)

/-! ## Taken and refused requests (R171) -/

theorem permitted_any {k : RequestKind} (p : Port) (senders : k.senders = .any) : k.permitted p = true := by
  rw [RequestKind.permitted, senders]; rfl

theorem permitted_slicerOffice {k : RequestKind} {p : Port} (senders : k.senders = .slicerOffice) (h : p ≠ .bagger) :
    k.permitted p = true := by
  rw [RequestKind.permitted, senders]
  cases p with
  | bagger => exact absurd rfl h
  | slicer | office => rfl

/-- A block's reply on a permitted port is what the request is answered with. -/
theorem next_answer {k : RequestKind} {p : Port} {r : Reply} {t : State} {result : ResultCode} {body : List Byte} (seq : Byte)
    (allowed : k.permitted p = true) (reply : r = { state := t, result := result, body := body }) :
    Host.Outcome.next (φ := Fault) (ρ := Refusal) (s.answer k p seq r) = .next (t.respond p (BitVec.ofNat 8 k.code) seq result body) := by
  subst reply
  exact congrArg Host.Outcome.next (answer_permitted s k p seq _ allowed)

/-- A forbidden port is refused, whatever the block would have made of the request. -/
theorem next_notPermitted {k : RequestKind} {p : Port} (seq : Byte) (r : Reply) (forbidden : k.permitted p = false) :
    Host.Outcome.next (φ := Fault) (ρ := Refusal) (s.answer k p seq r) =
      .next (s.respond p (BitVec.ofNat 8 k.code) seq .notPermitted []) :=
  congrArg Host.Outcome.next (answer_notPermitted s k p seq r forbidden)

/-! ## Places on the link -/

theorem placeBytes_eq_values (d : Option Descriptor) : placeBytes d = placeValues d := by
  obtain - | ⟨station, distance, next⟩ := d
  · rfl
  · cases station with
    | crumbBar z => cases z <;> rfl
    | _ => rfl

theorem placeIndex?_succ (i : Fin 8) : placeIndex? (i.val + 1) = some i := by
  simp [placeIndex?, i.isLt]

theorem placeIndex?_none {index : Nat} (h : index = 0 ∨ 8 < index) : placeIndex? index = none := by
  simp only [placeIndex?, dite_eq_right_iff, reduceCtorEq, imp_false]
  omega

theorem placeReply_succ (i : Fin 8) :
    s.placeReply (i.val + 1) = u8 1 ++ placeValues (s.chain.places.get i) ++ u8 s.chain.state.code := by
  rw [State.placeReply, placeIndex?_succ, ← placeBytes_eq_values]; rfl

theorem placeReply_none {index : Nat} (h : index = 0 ∨ 8 < index) :
    s.placeReply index = u8 0 ++ List.replicate 13 0 ++ u8 s.chain.state.code := by
  rw [State.placeReply, placeIndex?_none h]; rfl

/-! ## CHAIN_WRITE (R19) -/

section
variable {s : State} {kind distance next index : Nat} {area : Vector Byte 7}

theorem chainWriteReply_taken {i : Fin 8} {d : Option Descriptor} (edit : s.editable = true)
    (carried : carriedPlace kind distance next area = some d) :
    chainWriteReply (i.val + 1) kind distance next area s =
      { state := s.chainEdited (s.chain.write i d), result := .ok, body := u8 1 ++ placeValues d ++ u8 0 } := by
  have body : (s.chainEdited (s.chain.write i d)).placeReply (i.val + 1) = u8 1 ++ placeValues d ++ u8 0 := by
    have place : (s.chain.write i d).places.get i = d := Vector.getElem_set_self i.isLt
    rw [placeReply_succ, chainEdited_chain, place]; rfl
  simp [chainWriteReply, edit, placeIndex?_succ, carried, body]

theorem chainWriteReply_lineState (edit : ¬ s.editable = true) :
    chainWriteReply index kind distance next area s = { state := s, result := .lineState, body := s.placeReply index } := by
  simp [chainWriteReply, edit]

theorem chainWriteReply_outOfRange (edit : s.editable = true)
    (out : placeIndex? index = none ∨ carriedPlace kind distance next area = none) :
    chainWriteReply index kind distance next area s = { state := s, result := .outOfRange, body := s.placeReply index } := by
  obtain out | out := out
  · simp [chainWriteReply, edit, out]
  · cases h : placeIndex? index <;> simp [chainWriteReply, edit, out, h]

end

/-- Settles O10: one case per reply of the Station Chain, each body by whether the index names a place. -/
theorem chainWriteFollowsR19 : Obligations.ChainWriteFollowsR19 := by
  intro s seq kind distance next area
  refine ⟨fun i d stopped empty carried => ?taken, fun edit => ?lineState, fun stopped empty => ?outOfRange,
    fun p index other => ?otherPort⟩
  case taken =>
    refine ⟨_, next_answer s seq rfl (chainWriteReply_taken ((editable_iff s).mpr ⟨stopped, empty⟩) carried),
      chainEdited_chain s _, (chainEdited_unfits s _).respond _ _ _ _ _, respond_answers _ .office .chainWrite seq .ok _,
      (chainEdited_frame s _).andThen (respond_frame _ _ _ _ _ _) rfl⟩
  case lineState =>
    exact ⟨fun i => next_answer s seq rfl ((chainWriteReply_lineState (mt (editable_iff s).mp edit)).trans (by rw [placeReply_succ])),
      fun index out => next_answer s seq rfl
        ((chainWriteReply_lineState (mt (editable_iff s).mp edit)).trans (by rw [placeReply_none s out]))⟩
  case outOfRange =>
    have edit := (editable_iff s).mpr ⟨stopped, empty⟩
    exact ⟨fun i content => next_answer s seq rfl ((chainWriteReply_outOfRange edit (.inr content)).trans (by rw [placeReply_succ])),
      fun index out => next_answer s seq rfl
        ((chainWriteReply_outOfRange edit (.inl (placeIndex?_none out))).trans (by rw [placeReply_none s out]))⟩
  case otherPort => exact next_notPermitted s seq _ (permitted_office_only rfl other)

/-! ## What a CHAIN_WRITE may carry (R17) -/

theorem carriedPlace_of_not_range {kind distance next : Nat} (area : Vector Byte 7) (present : 1 ≤ kind)
    (out : ¬(1 ≤ distance ∧ distance ≤ 1000000 ∧ next ≤ 8)) : carriedPlace kind distance next area = none := by
  simp [carriedPlace, Nat.ne_of_gt present, out]

theorem carriedPlace_eq {kind distance next : Nat} {area : Vector Byte 7} {st : Station} (station : station? kind area = some st)
    (present : 1 ≤ kind) (range : 1 ≤ distance ∧ distance ≤ 1000000 ∧ next ≤ 8) :
    carriedPlace kind distance next area = some (some ⟨st, distance, next⟩) := by
  simp [carriedPlace, Nat.ne_of_gt present, range, station]

theorem carriedPlace_none {kind : Nat} {area : Vector Byte 7} (distance next : Nat) (station : station? kind area = none)
    (present : 1 ≤ kind) : carriedPlace kind distance next area = none := by
  simp [carriedPlace, Nat.ne_of_gt present, station]

theorem station?_none_of_lt {kind : Nat} (area : Vector Byte 7) (h : 7 < kind) : station? kind area = none := by
  unfold station?
  split <;> first | rfl | omega

theorem toleranceOk_iff (n : Nat) : toleranceOk n = true ↔ 10 ≤ n ∧ n ≤ 8000 := by simp [toleranceOk]

theorem latencyOk_iff (n : Nat) : latencyOk n = true ↔ n ≤ 250 := by simp [latencyOk]

theorem gatePulseOk_iff (n : Nat) : gatePulseOk n = true ↔ 10 ≤ n ∧ n ≤ 1000 := by simp [gatePulseOk]

theorem zone?_eq_none {n : Nat} (h : 1 < n) : zone? n = none := by
  unfold zone?
  split <;> first | rfl | omega

/-- The three kinds whose only field is a tolerance. -/
theorem station?_tolerance (a : Vector Byte 7) :
    (10 ≤ read16 a[0] a[1] ∧ read16 a[0] a[1] ≤ 8000 →
      station? 1 a = some (.eyeSliced (read16 a[0] a[1])) ∧ station? 4 a = some (.eyeBag (read16 a[0] a[1]))
        ∧ station? 6 a = some (.eyeExit (read16 a[0] a[1])))
      ∧ (¬(10 ≤ read16 a[0] a[1] ∧ read16 a[0] a[1] ≤ 8000) →
        station? 1 a = none ∧ station? 4 a = none ∧ station? 5 a = none ∧ station? 6 a = none) := by
  rw [← toleranceOk_iff]
  exact ⟨fun ok => by simp [station?, ok], fun bad => by simp [station?, bad]⟩

/-- The two gates. -/
theorem station?_gate (a : Vector Byte 7) :
    (a[0].toNat ≤ 250 ∧ 10 ≤ read16 a[1] a[2] ∧ read16 a[1] a[2] ≤ 1000 →
      station? 2 a = some (.gateReject a[0].toNat (read16 a[1] a[2])) ∧ station? 7 a = some (.gateExit a[0].toNat (read16 a[1] a[2])))
      ∧ (¬(a[0].toNat ≤ 250 ∧ 10 ≤ read16 a[1] a[2] ∧ read16 a[1] a[2] ≤ 1000) → station? 2 a = none ∧ station? 7 a = none) := by
  rw [← latencyOk_iff, ← gatePulseOk_iff]
  exact ⟨fun ⟨latency, pulse⟩ => by simp [station?, latency, pulse], fun bad => by simp_all [station?]⟩

theorem station?_bar {a : Vector Byte 7} {z : Zone} (zone : zone? a[0].toNat = some z) (halfSpan : read16 a[1] a[2] ≤ 20000)
    (blast : 10 ≤ read16 a[3] a[4] ∧ read16 a[3] a[4] ≤ 2000) (yield : 1 ≤ read16 a[5] a[6] ∧ read16 a[5] a[6] ≤ 256) :
    station? 3 a = some (.crumbBar z (read16 a[1] a[2]) (read16 a[3] a[4]) (read16 a[5] a[6])) := by
  simp [station?, zone, halfSpan, blast, yield]

theorem station?_bar_none {a : Vector Byte 7}
    (out : 1 < a[0].toNat ∨ 20000 < read16 a[1] a[2] ∨ read16 a[3] a[4] < 10 ∨ 2000 < read16 a[3] a[4] ∨ read16 a[5] a[6] < 1
      ∨ 256 < read16 a[5] a[6]) : station? 3 a = none := by
  cases zone : zone? a[0].toNat with
  | none => simp [station?, zone]
  | some z =>
    have small : ¬ 1 < a[0].toNat := fun big => by simp [zone?_eq_none big] at zone
    simp only [station?, zone, Bool.and_eq_true, decide_eq_true_eq, ite_eq_right_iff, reduceCtorEq, imp_false]
    omega

theorem station?_clip {a : Vector Byte 7} (tolerance : 10 ≤ read16 a[0] a[1] ∧ read16 a[0] a[1] ≤ 8000)
    (offset : read16 a[2] a[3] ≤ 20000) (neck : read16 a[4] a[5] ≤ 4000) (latency : a[6].toNat ≤ 250) :
    station? 5 a = some (.eyeClip (read16 a[0] a[1]) (read16 a[2] a[3]) (read16 a[4] a[5]) a[6].toNat) := by
  simp [station?, toleranceOk, latencyOk, tolerance, offset, neck, latency]

theorem station?_clip_none {a : Vector Byte 7} (out : 20000 < read16 a[2] a[3] ∨ 4000 < read16 a[4] a[5] ∨ 250 < a[6].toNat) :
    station? 5 a = none := by
  simp only [station?, latencyOk, Bool.and_eq_true, decide_eq_true_eq, ite_eq_right_iff, reduceCtorEq, imp_false]
  omega

/-- Settles O11: the station a kind and an area give, carried where distance and next index are in range. -/
theorem carriedDescriptors : Obligations.CarriedDescriptors := by
  refine ⟨fun _ _ _ => rfl, ?kind, ?range, ?fields, ?outOfRange⟩
  case kind =>
    intro kind distance next area large
    exact carriedPlace_none distance next (station?_none_of_lt area large) (by omega)
  case range =>
    intro kind distance next area present out
    exact carriedPlace_of_not_range area present out
  case fields =>
    intro distance next a near far link
    have carries : ∀ {kind st}, station? kind a = some st → 1 ≤ kind →
        carriedPlace kind distance next a = some (some ⟨st, distance, next⟩) :=
      fun station present => carriedPlace_eq station present ⟨near, far, link⟩
    refine ⟨?_, ?_, ?_, ?_⟩
    · rintro n rfl low high
      obtain ⟨sliced, bag, exit⟩ := (station?_tolerance a).1 ⟨low, high⟩
      exact ⟨carries sliced (by decide), carries bag (by decide), carries exit (by decide)⟩
    · rintro l n rfl rfl latency low high
      obtain ⟨reject, exit⟩ := (station?_gate a).1 ⟨latency, low, high⟩
      exact ⟨carries reject (by decide), carries exit (by decide)⟩
    · rintro w b y rfl rfl rfl halfSpan low high least most
      have bar : ∀ z, zone? a[0].toNat = some z → _ := fun z zone =>
        carries (station?_bar zone halfSpan ⟨low, high⟩ ⟨least, most⟩) (by decide)
      exact ⟨fun zero => bar .z0 (by rw [zero]; rfl), fun one => bar .z1 (by rw [one]; rfl)⟩
    · rintro n o k l rfl rfl rfl rfl low high offset neck latency
      exact carries (station?_clip ⟨low, high⟩ offset neck latency) (by decide)
  case outOfRange =>
    intro distance next a
    refine ⟨fun out => ?_, fun out => ?_, fun out => ?_, fun out => ?_⟩
    · obtain ⟨sliced, bag, clip, exit⟩ := (station?_tolerance a).2 (by omega)
      exact ⟨carriedPlace_none _ _ sliced (by decide), carriedPlace_none _ _ bag (by decide), carriedPlace_none _ _ clip (by decide),
        carriedPlace_none _ _ exit (by decide)⟩
    · obtain ⟨reject, exit⟩ := (station?_gate a).2 (by omega)
      exact ⟨carriedPlace_none _ _ reject (by decide), carriedPlace_none _ _ exit (by decide)⟩
    · exact carriedPlace_none _ _ (station?_bar_none out) (by decide)
    · exact carriedPlace_none _ _ (station?_clip_none out) (by decide)

/-! ## CHAIN_READ (R21) -/

/-- Settles O13: the reply's body by whether the index names a place. -/
theorem chainReadFollowsR21 : Obligations.ChainReadFollowsR21 := by
  refine ⟨fun s p seq i => next_answer s seq (permitted_any p rfl) ?_, fun s p seq => next_answer s seq (permitted_any p rfl) rfl,
    fun s p seq index large => ⟨s.chainReadBytes index, next_answer s seq (permitted_any p rfl) ?_⟩⟩
  · rw [chainReadReply, if_neg (by omega), State.chainReadBytes, placeIndex?_succ, ← placeBytes_eq_values]; rfl
  · rw [chainReadReply, if_pos large]

end Sys2Proof.Machine
end

section
/-! SUPPORT. Validation of the chain: what the walk's stage and its seen zones say of the descriptors walked, and what the walk finds. -/

namespace Sys2Proof.Machine

/-! ## An admissible order, one descriptor at a time -/

theorem kindsInOrder_append (ds es : List Descriptor) : kindsInOrder (ds ++ es) = kindsInOrder ds ++ kindsInOrder es := by
  simp [kindsInOrder]

theorem kindsInOrder_snoc_of_ne {d : Descriptor} (ds : List Descriptor) (h : d.station.code ≠ 3) :
    kindsInOrder (ds ++ [d]) = kindsInOrder ds ++ [d.station.code] := by
  rw [kindsInOrder_append]
  simp [kindsInOrder, h]

theorem kindsInOrder_snoc_of_eq {d : Descriptor} (ds : List Descriptor) (h : d.station.code = 3) :
    kindsInOrder (ds ++ [d]) = kindsInOrder ds := by
  rw [kindsInOrder_append]
  simp [kindsInOrder, h]

theorem mem_kindsInOrder {ds : List Descriptor} {k : Nat} (h : k ≠ 3) : k ∈ kindsInOrder ds ↔ ∃ e ∈ ds, e.station.code = k := by
  simp only [kindsInOrder, List.mem_filter, List.mem_map, decide_eq_true_eq]
  exact ⟨fun ⟨found, _⟩ => found, fun found => ⟨found, h⟩⟩

theorem lastDistance_snoc (ds : List Descriptor) (d : Descriptor) : lastDistance (ds ++ [d]) = d.distance := by
  simp [lastDistance]

theorem rising_snoc (ds : List Descriptor) (d : Descriptor) :
    (0 :: (ds ++ [d]).map Descriptor.distance).Pairwise (· < ·) ↔
      (0 :: ds.map Descriptor.distance).Pairwise (· < ·) ∧ lastDistance ds < d.distance := by
  have last : (0 :: ds.map Descriptor.distance).getLast? = some (lastDistance ds) := by
    cases h : ds.getLast? <;> simp [List.getLast?_cons, lastDistance, h]
  rw [List.map_append, ← List.cons_append, ← List.isChain_iff_pairwise, ← List.isChain_iff_pairwise, List.isChain_append, last]
  simp

/-- A bar is its zone's. -/
theorem isBarOf_iff (z : Zone) (d : Descriptor) : d.isBarOf z = true ↔ ∃ w b y, d.station = .crumbBar z w b y := by
  unfold Descriptor.isBarOf Descriptor.asBar
  cases d.station with
  | crumbBar z' => by_cases h : z' = z <;> simp [h]
  | _ => simp

theorem code_of_isBarOf {z : Zone} {d : Descriptor} (h : d.isBarOf z = true) : d.station.code = 3 := by
  obtain ⟨w, b, y, station⟩ := (isBarOf_iff z d).mp h
  rw [station]; rfl

theorem exists_isBarOf {d : Descriptor} (h : d.station.code = 3) : ∃ z, d.isBarOf z = true := by
  cases station : d.station with
  | crumbBar z w b y => exact ⟨z, (isBarOf_iff z d).mpr ⟨w, b, y, station⟩⟩
  | _ => rw [station] at h; exact absurd h (by simp [Station.code])

theorem eq_of_isBarOf {z w : Zone} {d : Descriptor} (hz : d.isBarOf z = true) (hw : d.isBarOf w = true) : w = z := by
  obtain ⟨_, _, _, station⟩ := (isBarOf_iff z d).mp hz
  obtain ⟨_, _, _, station'⟩ := (isBarOf_iff w d).mp hw
  rw [station] at station'
  cases station'; rfl

/-- The kinds of a chain, in their order (R23). -/
def chainKinds : List Nat := [1, 2, 4, 5, 6, 7]

/-- The order with one descriptor more. -/
theorem admissible_snoc (ds : List Descriptor) (d : Descriptor) :
    Admissible (ds ++ [d]) ↔
      Admissible ds ∧ lastDistance ds < d.distance ∧ kindsInOrder (ds ++ [d]) <+: chainKinds
        ∧ (∀ z, d.isBarOf z = true → ¬∃ e ∈ ds, e.isBarOf z = true)
        ∧ (d.station.code = 3 → 6 ∉ kindsInOrder ds) := by
  have zones : (∀ z, (ds ++ [d]).countP (Descriptor.isBarOf z) ≤ 1) ↔
      (∀ z, ds.countP (Descriptor.isBarOf z) ≤ 1) ∧ ∀ z, d.isBarOf z = true → ¬∃ e ∈ ds, e.isBarOf z = true := by
    rw [← forall_and]
    refine forall_congr' fun z => ?_
    by_cases bar : d.isBarOf z = true
    · simp [List.countP_append, bar, List.countP_eq_zero]
      intro none
      rw [List.countP_eq_zero.mpr (by simpa using none)]
      decide
    · simp [List.countP_append, bar]
  have bars : (ds ++ [d]).Pairwise (fun d e => d.station.code = 6 → e.station.code ≠ 3) ↔
      ds.Pairwise (fun d e => d.station.code = 6 → e.station.code ≠ 3) ∧ (d.station.code = 3 → 6 ∉ kindsInOrder ds) := by
    rw [List.pairwise_append, mem_kindsInOrder (by decide)]
    simp
    intro _
    exact ⟨fun h is3 e he is6 => h e he is6 is3, fun h e he is6 is3 => h is3 e he is6⟩
  have kinds : kindsInOrder (ds ++ [d]) <+: chainKinds → kindsInOrder ds <+: chainKinds := by
    rw [kindsInOrder_append]
    exact (List.prefix_append _ _).trans
  unfold Admissible
  rw [rising_snoc, zones, bars]
  constructor
  · rintro ⟨⟨rise, far⟩, order, ⟨once, fresh⟩, before, notAfter⟩
    exact ⟨⟨rise, kinds order, once, before⟩, far, order, fresh, notAfter⟩
  · rintro ⟨⟨rise, -, once, before⟩, far, order, fresh, notAfter⟩
    exact ⟨⟨rise, far⟩, order, ⟨once, fresh⟩, before, notAfter⟩

theorem admissible_nil : Admissible [] := by
  refine ⟨by decide, by decide, fun z => ?_, .nil⟩
  exact Nat.zero_le 1

theorem admissible_of_append {ds es : List Descriptor} (h : Admissible (ds ++ es)) : Admissible ds := by
  induction es using List.reverseRecOn with
  | nil => simpa using h
  | append_singleton es e ih =>
    rw [← List.append_assoc] at h
    exact ih ((admissible_snoc _ e).mp h).1

/-- At most the six kinds in their order, and a bar in each zone. -/
theorem Admissible.length_le {ds : List Descriptor} (h : Admissible ds) : ds.length ≤ 8 := by
  obtain ⟨-, order, once, -⟩ := h
  have kinds : (kindsInOrder ds).length ≤ 6 := order.length_le
  have split : ∀ es : List Descriptor,
      es.length = (kindsInOrder es).length + es.countP (Descriptor.isBarOf .z0) + es.countP (Descriptor.isBarOf .z1) := by
    intro es
    induction es using List.reverseRecOn with
    | nil => rfl
    | append_singleton es d ih =>
      by_cases bar : d.station.code = 3
      · obtain ⟨z, hz⟩ := exists_isBarOf bar
        have other : ∀ w, w ≠ z → d.isBarOf w = false := fun w ne => Bool.eq_false_iff.mpr fun hw => ne (eq_of_isBarOf hz hw)
        rw [kindsInOrder_snoc_of_eq es bar]
        cases z with
        | z0 => simp [List.countP_append, hz, other .z1 (by decide)]; omega
        | z1 => simp [List.countP_append, hz, other .z0 (by decide)]; omega
      · have none : ∀ w, d.isBarOf w = false := fun w => Bool.eq_false_iff.mpr fun hw => bar (code_of_isBarOf hw)
        rw [kindsInOrder_snoc_of_ne es bar]
        simp [List.countP_append, none]; omega
  have bars0 := once .z0
  have bars1 := once .z1
  have total := split ds
  omega

/-! ## The walk's stage and zones -/

/-- The kinds met when the walk is in a stage (R23). -/
def WalkStage.kinds : WalkStage → List Nat
  | .beforeE1 => []
  | .afterE1 => [1]
  | .afterReject => [1, 2]
  | .afterE2 => [1, 2, 4]
  | .afterE3 => [1, 2, 4, 5]
  | .afterE4 => [1, 2, 4, 5, 6]
  | .afterExitGate => [1, 2, 4, 5, 6, 7]

/-- The walk's state after an admissible list of descriptors. -/
structure WalkState.After (w : WalkState) (ds : List Descriptor) : Prop where
  admissible : Admissible ds
  kinds : kindsInOrder ds = w.stage.kinds
  seen : ∀ z, w.seen z = true ↔ ∃ e ∈ ds, e.isBarOf z = true

theorem after_nil : WalkState.After { stage := .beforeE1, seen0 := false, seen1 := false } [] :=
  ⟨admissible_nil, rfl, fun z => by cases z <;> simp [WalkState.seen]⟩

theorem accept_eye (w : WalkState) {st : Station} (h : st.code ≠ 3) :
    (w.stage.kinds ++ [st.code] <+: chainKinds →
      ∃ next, w.accept st = .inl { w with stage := next } ∧ next.kinds = w.stage.kinds ++ [st.code])
      ∧ (¬ w.stage.kinds ++ [st.code] <+: chainKinds → w.accept st = .inr .kindOrder) := by
  obtain ⟨stage, seen0, seen1⟩ := w
  cases st with
  | crumbBar => exact absurd rfl h
  | _ => cases stage <;> simp [WalkState.accept, WalkState.admitIn, WalkStage.kinds, Station.code, chainKinds]

theorem accept_bar (w : WalkState) (z : Zone) (halfSpan blast yield : Nat) :
    w.accept (.crumbBar z halfSpan blast yield) =
      if 6 ∈ w.stage.kinds then .inr .kindOrder else if w.seen z then .inr .zoneRepeated else .inl (w.note z) := by
  obtain ⟨stage, seen0, seen1⟩ := w
  cases stage <;> simp [WalkState.accept, WalkStage.kinds, WalkStage.admitsBar]

theorem seen_note (w : WalkState) (z y : Zone) : (w.note z).seen y = true ↔ w.seen y = true ∨ y = z := by
  cases z <;> cases y <;> simp [WalkState.note, WalkState.seen]

theorem stage_note (w : WalkState) (z : Zone) : (w.note z).stage = w.stage := by cases z <;> rfl

theorem exists_isBarOf_snoc (z : Zone) (ds : List Descriptor) (d : Descriptor) :
    (∃ e ∈ ds ++ [d], e.isBarOf z = true) ↔ (∃ e ∈ ds, e.isBarOf z = true) ∨ d.isBarOf z = true := by
  simp [or_and_right, exists_or]

section
variable {w : WalkState} {ds : List Descriptor} {d : Descriptor}

/-- A descriptor that the order admits is accepted. -/
theorem WalkState.After.accepts (h : w.After ds) (admits : Admissible (ds ++ [d])) :
    ∃ w', w.accept d.station = .inl w' ∧ w'.After (ds ++ [d]) := by
  obtain ⟨-, -, order, fresh, notAfter⟩ := (admissible_snoc ds d).mp admits
  by_cases bar : d.station.code = 3
  · obtain ⟨z, hz⟩ := exists_isBarOf bar
    obtain ⟨halfSpan, blast, yield, station⟩ := (isBarOf_iff z d).mp hz
    have early : 6 ∉ w.stage.kinds := h.kinds ▸ notAfter bar
    have unseen : ¬ w.seen z = true := mt (h.seen z).mp (fresh z hz)
    refine ⟨w.note z, by rw [station, accept_bar, if_neg early, if_neg unseen], admits, ?_, fun y => ?_⟩
    · rw [kindsInOrder_snoc_of_eq ds bar, stage_note, h.kinds]
    · rw [seen_note, exists_isBarOf_snoc, h.seen]
      exact or_congr_right ⟨fun e => e ▸ hz, eq_of_isBarOf hz⟩
  · rw [kindsInOrder_snoc_of_ne ds bar, h.kinds] at order
    obtain ⟨next, accepted, kinds⟩ := (accept_eye w bar).1 order
    refine ⟨_, accepted, admits, ?_, fun y => ?_⟩
    · rw [kindsInOrder_snoc_of_ne ds bar, h.kinds, kinds]
    · rw [exists_isBarOf_snoc, ← h.seen]
      have none : ¬ d.isBarOf y = true := fun hy => bar (code_of_isBarOf hy)
      rw [or_iff_left none]
      cases y <;> exact Iff.rfl

/-- A station out of the order is refused. -/
theorem WalkState.After.refuses_order (h : w.After ds) (bar : d.station.code ≠ 3) (out : ¬ kindsInOrder (ds ++ [d]) <+: chainKinds) :
    w.accept d.station = .inr .kindOrder := by
  rw [kindsInOrder_snoc_of_ne ds bar, h.kinds] at out
  exact (accept_eye w bar).2 out

/-- A bar beyond E4 is refused. -/
theorem WalkState.After.refuses_late (h : w.After ds) {z : Zone} (bar : d.isBarOf z = true) (late : 6 ∈ kindsInOrder ds) :
    w.accept d.station = .inr .kindOrder := by
  obtain ⟨halfSpan, blast, yield, station⟩ := (isBarOf_iff z d).mp bar
  rw [station, accept_bar, if_pos (h.kinds ▸ late)]

/-- A zone's second bar is refused. -/
theorem WalkState.After.refuses_repeated (h : w.After ds) {z : Zone} (bar : d.isBarOf z = true) (early : 6 ∉ kindsInOrder ds)
    (again : ∃ e ∈ ds, e.isBarOf z = true) : w.accept d.station = .inr .zoneRepeated := by
  obtain ⟨halfSpan, blast, yield, station⟩ := (isBarOf_iff z d).mp bar
  rw [station, accept_bar, if_neg (h.kinds ▸ early), if_pos ((h.seen z).mpr again)]

/-- What is accepted, the order admits. -/
theorem WalkState.After.admits (h : w.After ds) (far : lastDistance ds < d.distance) {w' : WalkState}
    (accepted : w.accept d.station = .inl w') : w'.After (ds ++ [d]) := by
  have admits : Admissible (ds ++ [d]) := by
    refine (admissible_snoc ds d).mpr ⟨h.admissible, far, ?_, fun z bar again => ?_, fun bar late => ?_⟩
    · by_contra out
      by_cases bar : d.station.code = 3
      · rw [kindsInOrder_snoc_of_eq ds bar] at out
        exact out h.admissible.2.1
      · rw [h.refuses_order bar out] at accepted; cases accepted
    · by_cases early : 6 ∈ kindsInOrder ds
      · rw [h.refuses_late bar early] at accepted; cases accepted
      · rw [h.refuses_repeated bar early again] at accepted; cases accepted
    · obtain ⟨z, hz⟩ := exists_isBarOf bar
      rw [h.refuses_late hz late] at accepted; cases accepted
  obtain ⟨w'', accepted', after⟩ := h.accepts admits
  rw [accepted] at accepted'
  cases accepted'
  exact after

end

/-- The stage is complete once E4 has been met. -/
theorem complete_iff (stage : WalkStage) : stage.complete = true ↔ stage.kinds = [1, 2, 4, 5, 6] ∨ stage.kinds = [1, 2, 4, 5, 6, 7] := by
  cases stage <;> decide

theorem complete_iff_mem (stage : WalkStage) : stage.complete = true ↔ 6 ∈ stage.kinds := by cases stage <;> decide

/-! ## The walk -/

variable {c : StationChain}

theorem place_zero : c.place 0 = none := rfl

/-- A walk with the descriptors of a list at its front. -/
def Walk.afterAll (ds : List Descriptor) (x : Walk) : Walk := ds.foldr Walk.after x

theorem afterAll_fails (ds : List Descriptor) (i : Nat) (cause : Cause) : Walk.afterAll ds (.fails i cause) = .fails i cause := by
  induction ds with
  | nil => rfl
  | cons d ds ih => rw [Walk.afterAll, List.foldr_cons, ← Walk.afterAll, ih]; rfl

theorem afterAll_complete (ds es : List Descriptor) : Walk.afterAll ds (.complete es) = .complete (ds ++ es) := by
  induction ds with
  | nil => rfl
  | cons d ds ih => rw [Walk.afterAll, List.foldr_cons, ← Walk.afterAll, ih]; rfl

theorem walk_place_none {i : Nat} (n before : Nat) (w : WalkState) (h : c.place i = none) :
    c.walk (n + 1) i before w = .fails i .brokenLink := by
  rw [StationChain.walk, h]

theorem walk_near {i before : Nat} {d : Descriptor} (n : Nat) (w : WalkState) (h : c.place i = some d) (near : d.distance ≤ before) :
    c.walk (n + 1) i before w = .fails i .distanceOrder := by
  rw [StationChain.walk, h]; exact if_pos near

theorem walk_refused {i before : Nat} {d : Descriptor} {w : WalkState} {cause : Cause} (n : Nat) (h : c.place i = some d)
    (far : before < d.distance) (refused : w.accept d.station = .inr cause) : c.walk (n + 1) i before w = .fails i cause := by
  rw [StationChain.walk, h]
  exact (if_neg (Nat.not_le.mpr far)).trans (by rw [refused])

theorem walk_accepted {i before : Nat} {d : Descriptor} {w w' : WalkState} (n : Nat) (h : c.place i = some d)
    (far : before < d.distance) (accepted : w.accept d.station = .inl w') :
    c.walk (n + 1) i before w =
      if d.next = 0 then (if w'.stage.complete then .complete [d] else .fails i .incomplete)
      else (c.walk n d.next d.distance w').after d := by
  rw [StationChain.walk, h]
  exact (if_neg (Nat.not_le.mpr far)).trans (by rw [accepted])

/-- A walk along an admissible way that does not end there goes on from its end. -/
theorem walk_along {pre ds : List Descriptor} {w : WalkState} {i j : Nat} (h : w.After pre) (leads : c.Leads i ds j) (goesOn : j ≠ 0)
    (admissible : Admissible (pre ++ ds)) :
    ∃ w', w'.After (pre ++ ds) ∧ ∀ n,
      c.walk (n + ds.length) i (lastDistance pre) w = Walk.afterAll ds (c.walk n j (lastDistance (pre ++ ds)) w') := by
  induction ds generalizing pre w i with
  | nil =>
    obtain rfl : i = j := leads
    exact ⟨w, by simpa using h, fun n => by simp [Walk.afterAll]⟩
  | cons d ds ih =>
    obtain ⟨place, leads⟩ := leads
    rw [List.append_cons] at admissible ⊢
    have admits : Admissible (pre ++ [d]) := admissible_of_append admissible
    have far : lastDistance pre < d.distance := ((admissible_snoc pre d).mp admits).2.1
    have next : d.next ≠ 0 := by
      intro ends
      rw [ends] at leads
      cases ds with
      | nil => exact goesOn leads.symm
      | cons e es => exact absurd leads.1 (by rw [place_zero]; exact nofun)
    obtain ⟨w', accepted, after⟩ := h.accepts admits
    obtain ⟨w'', after'', walks⟩ := ih after leads admissible
    refine ⟨w'', after'', fun n => ?_⟩
    have walk := walks n
    rw [lastDistance_snoc] at walk
    rw [List.length_cons, ← Nat.add_assoc, walk_accepted _ place far accepted, if_neg next, walk]
    rfl

/-- A complete walk has gone along an admissible way to the end, E4 among it. -/
theorem walk_complete {n i : Nat} {pre ds : List Descriptor} {w : WalkState} (h : w.After pre)
    (complete : c.walk n i (lastDistance pre) w = .complete ds) :
    c.Leads i ds 0 ∧ ∃ w' : WalkState, w'.After (pre ++ ds) ∧ w'.stage.complete = true := by
  induction n generalizing i pre ds w with
  | zero => cases complete
  | succ n ih =>
    cases place : c.place i with
    | none => rw [walk_place_none n _ w place] at complete; cases complete
    | some d =>
      by_cases near : d.distance ≤ lastDistance pre
      · rw [walk_near n w place near] at complete; cases complete
      have far : lastDistance pre < d.distance := Nat.lt_of_not_le near
      cases accepted : w.accept d.station with
      | inr cause => rw [walk_refused n place far accepted] at complete; cases complete
      | inl w' =>
        have after := h.admits far accepted
        rw [walk_accepted n place far accepted] at complete
        by_cases ends : d.next = 0
        · rw [if_pos ends] at complete
          by_cases all : w'.stage.complete = true
          · rw [if_pos all] at complete
            cases complete
            exact ⟨⟨place, ends⟩, w', after, all⟩
          · rw [if_neg all] at complete; cases complete
        · rw [if_neg ends] at complete
          cases rest : c.walk n d.next d.distance w' with
          | fails j cause => rw [rest] at complete; cases complete
          | complete es =>
            rw [rest] at complete
            cases complete
            rw [← lastDistance_snoc pre d] at rest
            obtain ⟨leads, w'', after'', all⟩ := ih after rest
            rw [List.append_assoc] at after''
            exact ⟨⟨place, leads⟩, w'', after'', all⟩

/-- The nine visits are enough: with as many as an admissible list may still take, more find the same. -/
theorem walk_more {n i : Nat} {pre : List Descriptor} {w : WalkState} (more : Nat) (h : w.After pre) (enough : 8 < pre.length + n) :
    c.walk (n + more) i (lastDistance pre) w = c.walk n i (lastDistance pre) w := by
  induction n generalizing i pre w with
  | zero => exact absurd h.admissible.length_le (Nat.not_le.mpr enough)
  | succ n ih =>
    rw [Nat.add_right_comm]
    cases place : c.place i with
    | none => rw [walk_place_none _ _ w place, walk_place_none _ _ w place]
    | some d =>
      by_cases near : d.distance ≤ lastDistance pre
      · rw [walk_near _ w place near, walk_near _ w place near]
      have far : lastDistance pre < d.distance := Nat.lt_of_not_le near
      cases accepted : w.accept d.station with
      | inr cause => rw [walk_refused _ place far accepted, walk_refused _ place far accepted]
      | inl w' =>
        have rest := ih (i := d.next) (h.admits far accepted) (by simp only [List.length_append, List.length_singleton]; omega)
        rw [lastDistance_snoc] at rest
        rw [walk_accepted _ place far accepted, walk_accepted _ place far accepted, rest]

/-! ## What validation finds -/

theorem validate_of_head (h : c.head ≠ 0) :
    c.validate = c.walk 9 c.head 0 { stage := .beforeE1, seen0 := false, seen1 := false } := if_neg h

/-- After an admissible way, validation finds what the walk finds from its end on, with a visit left. -/
theorem validate_along {ds : List Descriptor} {i : Nat} (head : c.head ≠ 0) (leads : c.Leads c.head ds i) (goesOn : i ≠ 0)
    (admissible : Admissible ds) :
    ∃ w n, w.After ds ∧ c.validate = Walk.afterAll ds (c.walk (n + 1) i (lastDistance ds) w) := by
  obtain ⟨w, after, walks⟩ := walk_along after_nil leads goesOn admissible
  have short := admissible.length_le
  refine ⟨w, 8 - ds.length, after, ?_⟩
  have walk := walks (8 - ds.length + 1)
  rw [show 8 - ds.length + 1 + ds.length = 9 by omega] at walk
  exact (validate_of_head head).trans walk

/-- After an admissible way, a failure of the walk there is the validation's. -/
theorem validate_fails {ds : List Descriptor} {i : Nat} {cause : Cause} (head : c.head ≠ 0) (leads : c.Leads c.head ds i) (goesOn : i ≠ 0)
    (admissible : Admissible ds)
    (fails : ∀ w n, w.After ds → c.walk (n + 1) i (lastDistance ds) w = .fails i cause) : c.validate = .fails i cause := by
  obtain ⟨w, n, after, found⟩ := validate_along head leads goesOn admissible
  rw [found, fails w n after, afterAll_fails]

theorem head_ne_zero {ds : List Descriptor} {d : Descriptor} {i : Nat} (leads : c.Leads c.head ds i) (place : c.place i = some d) :
    c.head ≠ 0 := by
  intro head
  rw [head] at leads
  cases ds with
  | nil =>
    obtain rfl : 0 = i := leads
    cases place
  | cons e es => cases leads.1

theorem ne_zero_of_place {i : Nat} {d : Descriptor} (place : c.place i = some d) : i ≠ 0 := by rintro rfl; cases place

/-- The links through a list and one descriptor more. -/
theorem leads_snoc {ds : List Descriptor} {d : Descriptor} {i j : Nat} :
    c.Leads i (ds ++ [d]) j ↔ ∃ k, c.Leads i ds k ∧ c.place k = some d ∧ d.next = j := by
  induction ds generalizing i with
  | nil => simp [StationChain.Leads]
  | cons e es ih => simp only [List.cons_append, StationChain.Leads, ih, and_assoc, exists_and_left]

/-- Validation at the last descriptor of an admissible list. -/
theorem validate_last {ds : List Descriptor} {d : Descriptor} {i : Nat} (leads : c.Leads c.head ds i) (place : c.place i = some d)
    (ends : d.next = 0) (admissible : Admissible (ds ++ [d])) :
    c.validate = if 6 ∈ kindsInOrder (ds ++ [d]) then .complete (ds ++ [d]) else .fails i .incomplete := by
  obtain ⟨w, n, after, found⟩ :=
    validate_along (head_ne_zero leads place) leads (ne_zero_of_place place) (admissible_of_append admissible)
  obtain ⟨w', accepted, after'⟩ := after.accepts admissible
  rw [found, walk_accepted n place ((admissible_snoc ds d).mp admissible).2.1 accepted, if_pos ends, after'.kinds]
  by_cases all : 6 ∈ w'.stage.kinds
  · rw [if_pos all, if_pos ((complete_iff_mem _).mpr all), afterAll_complete]
  · rw [if_neg all, if_neg (mt (complete_iff_mem _).mp all), afterAll_fails]

/-- Validation is complete exactly with an admissible list to the end, E4 among it. -/
theorem validate_complete_iff {ds : List Descriptor} :
    c.validate = .complete ds ↔
      c.Leads c.head ds 0 ∧ Admissible ds ∧ (kindsInOrder ds = [1, 2, 4, 5, 6] ∨ kindsInOrder ds = [1, 2, 4, 5, 6, 7]) := by
  constructor
  · intro complete
    by_cases head : c.head = 0
    · rw [StationChain.validate, if_pos head] at complete; cases complete
    · rw [validate_of_head head] at complete
      obtain ⟨leads, w, after, all⟩ := walk_complete (pre := []) after_nil complete
      exact ⟨leads, after.admissible, after.kinds ▸ (complete_iff _).mp all⟩
  · rintro ⟨leads, admissible, kinds⟩
    induction ds using List.reverseRecOn with
    | nil => exact absurd kinds (by decide)
    | append_singleton ds d =>
      obtain ⟨i, leads, place, ends⟩ := leads_snoc.mp leads
      have all : 6 ∈ kindsInOrder (ds ++ [d]) := by
        obtain kinds | kinds := kinds <;> rw [kinds] <;> decide
      rw [validate_last leads place ends admissible, if_pos all]

/-- A bar stands before E4. -/
theorem exit_after_bar {ds before after : List Descriptor} {d : Descriptor} (admissible : Admissible ds) (exit : 6 ∈ kindsInOrder ds)
    (split : ds = before ++ d :: after) (bar : d.station.code = 3) : ∃ e ∈ after, e.station.code = 6 := by
  obtain ⟨-, -, -, bars⟩ := admissible
  obtain ⟨e, mem, code⟩ := (mem_kindsInOrder (by decide)).mp exit
  subst split
  rcases List.mem_append.mp mem with early | late
  · exact absurd bar ((List.pairwise_append.mp bars).2.2 e early d (List.mem_cons_self ..) code)
  · obtain rfl | mem := List.mem_cons.mp late
    · rw [bar] at code; cases code
    · exact ⟨e, mem, code⟩

/-- Settles O14: completeness by the equivalence, each failure by the walk at the place it happens. -/
theorem validationOfTheChain : Obligations.ValidationOfTheChain := by
  refine ⟨?complete, fun c ds => validate_complete_iff, fun c head => if_pos head, ?fails, ?incomplete, ?place, ?more⟩
  case complete =>
    intro c ds complete
    obtain ⟨-, admissible, kinds⟩ := validate_complete_iff.mp complete
    have exit : 6 ∈ kindsInOrder ds := by obtain kinds | kinds := kinds <;> rw [kinds] <;> decide
    have ⟨rise, _, once, _⟩ := admissible
    exact ⟨(List.pairwise_cons.mp rise).2, kinds, once, fun before d after => exit_after_bar admissible exit⟩
  case fails =>
    intro c ds i head leads admissible goesOn
    have fails := fun cause => validate_fails (cause := cause) head leads goesOn admissible
    refine ⟨fun absent => fails _ fun w n _ => walk_place_none n _ w absent, fun d place => ⟨?_, ?_, ?_⟩⟩
    · exact fun near => fails _ fun w n _ => walk_near n w place near
    · exact fun far bar out => fails _ fun w n after => walk_refused n place far (after.refuses_order bar out)
    · intro z far bar
      exact ⟨fun late => fails _ fun w n after => walk_refused n place far (after.refuses_late bar late),
        fun early again => fails _ fun w n after => walk_refused n place far (after.refuses_repeated bar early again)⟩
  case incomplete =>
    intro c ds d i leads place ends admissible none
    rw [validate_last leads place ends admissible, if_neg none]
  case place =>
    intro c i
    unfold StationChain.place placeIndex?
    split_ifs <;> rfl
  case more =>
    intro c more
    exact walk_more (pre := []) more after_nil (by decide)

end Sys2Proof.Machine
end

section
/-! SUPPORT. What a frame leaves of holds, zones and slots, the fitting of zones, LINE_START and LINE_STOP, and the requests that only
read. -/

namespace Sys2Proof.Machine

variable (s : State)

/-! ## What a frame leaves -/

section
variable {s t : State} {ps : List Part}

theorem OnlyTouches.held (h : OnlyTouches ps s t) (apart : Part.line ∉ ps) (r : HoldReason) : t.held r = s.held r :=
  congrArg (fun l : LineUnit => l.holds.getLsbD r.code) (h .line apart)

theorem OnlyTouches.zone (h : OnlyTouches ps s t) (apart : Part.crumb ∉ ps) (z : Zone) : t.zone z = s.zone z :=
  congrArg (fun c : CrumbUnit => c.get z) (h .crumb apart)

theorem OnlyTouches.slot (h : OnlyTouches ps s t) (apart : Part.recipes ∉ ps) (i : Fin 16) : t.slot i = s.slot i :=
  congrArg (fun r : RecipeTable => r.slots.get i) (h .recipes apart)

theorem OnlyTouches.bar (h : OnlyTouches ps s t) (apart : Part.chain ∉ ps) (z : Zone) : t.bar z = s.bar z :=
  congrArg (fun c : StationChain => c.inForce.findSome? (Descriptor.asBar z)) (h .chain apart)

end

/-! ## The fitting of a zone (R129) -/

/-- What a validation that succeeded makes of a zone. -/
structure ZoneState.Fits (x y : ZoneState) (bar : Option Bar) : Prop where
  fitted : y.fitted = (x.fitted || bar.isSome)
  load : y.load = x.load
  kept : x.fitted = true ∨ bar = none → y = x
  rests : ∀ b, x.fitted = false → bar = some b → x.load = 0 → x.blastEnd = none → x.manualClear = false → x.purgeOwed = false →
    1 ≤ x.soft → y = { x with fitted := true }

theorem ZoneState.Fits.of_kept {x : ZoneState} {bar : Option Bar} (h : x.fitted = true ∨ bar = none) : x.Fits x bar where
  fitted := by obtain h | h := h <;> simp [h]
  load := rfl
  kept _ := rfl
  rests b unfitted some := by obtain h | h := h <;> simp_all

theorem fitZone_self (z : Zone) : (s.zone z).Fits ((s.fitZone z).zone z) (s.bar z) := by
  unfold State.fitZone
  by_cases fitted : (s.zone z).fitted = true
  · rw [if_pos fitted]; exact .of_kept (.inl fitted)
  rw [if_neg fitted]
  cases bar : s.bar z with
  | none => exact .of_kept (.inr rfl)
  | some b =>
    rw [if_pos (by rfl), zone_judgeBlast_self]
    have zone : (s.setZone z { s.zone z with fitted := true }).zone z = { s.zone z with fitted := true } := zone_setZone_self s z _
    refine ⟨?_, ?_, fun h => ?_, fun b' _ _ load rest clear owed soft => ?_⟩
    · rw [judgedZone_fitted, zone]; simp
    · rw [judgedZone_load, zone]
    · obtain h | h := h
      · exact absurd h fitted
      · cases h
    · have unwanted : State.blastStarts (s.setZone z { s.zone z with fitted := true }) z = false := by
        rw [Bool.eq_false_iff, ne_eq, blastStarts_iff, wanted_iff, zone]
        simp only [load, clear, owed, Bool.false_eq_true, or_false]
        omega
      rw [judgedZone_of_not_starts _ (.inr unwanted), zone]

theorem zone_fitZone_of_ne {z w : Zone} (ne : w ≠ z) : (s.fitZone z).zone w = s.zone w := by
  unfold State.fitZone
  split
  · rfl
  · split
    · rw [zone_judgeBlast_of_ne _ ne, zone_setZone_of_ne _ _ _ _ ne]
    · rfl

/-- The chain passed: VALID, no failure, each zone fitted by its bar. -/
theorem chainPassed_chain : s.chainPassed.chain = { s.chain with state := .valid, lastFailure := none } := by
  unfold State.chainPassed
  rw [fitZone_frame _ .z1 .chain (by decide), fitZone_frame _ .z0 .chain (by decide), setChain_chain]

theorem chainPassed_fits (z : Zone) : (s.zone z).Fits (s.chainPassed.zone z) (s.chainPassed.bar z) := by
  let t := s.setChain { s.chain with state := .valid, lastFailure := none }
  have bar : ∀ u : State, OnlyTouches [.crumb] t u → u.bar z = t.bar z := fun u frame => frame.bar (by decide) z
  have first := fitZone_frame t .z0
  have second := fitZone_frame (t.fitZone .z0) .z1
  have last : s.chainPassed.bar z = t.bar z := bar _ (first.trans second)
  rw [last]
  cases z with
  | z0 =>
    have same : s.chainPassed.zone .z0 = (t.fitZone .z0).zone .z0 := zone_fitZone_of_ne _ (by decide)
    rw [same]
    exact fitZone_self t .z0
  | z1 =>
    have fits := fitZone_self (t.fitZone .z0) .z1
    rw [bar _ first, zone_fitZone_of_ne t (by decide)] at fits
    exact fits

/-! ## LINE_START (R144, R24) -/

theorem lineStartReply_complete {ds : List Descriptor} (stopped : s.line.state = .stopped) (complete : s.chain.validate = .complete ds) :
    lineStartReply s =
      { state := s.chainPassed.startLine, result := .ok, body := s.chainPassed.startLine.startBytes } := by
  rw [lineStartReply, stopped]
  simp [lineStartStopped, complete]

theorem lineStartReply_fails {index : Nat} {cause : Cause} (stopped : s.line.state = .stopped)
    (fails : s.chain.validate = .fails index cause) :
    lineStartReply s =
      { state := s.chainFailed index cause, result := .chainInvalid
        body := u8 index ++ u8 cause.code ++ (s.chainFailed index cause).startBytes } := by
  rw [lineStartReply, stopped]
  simp [lineStartStopped, fails]

theorem lineStartReply_started (started : s.line.state ≠ .stopped) :
    lineStartReply s = { state := s, result := .ok, body := s.startBytes } := by
  unfold lineStartReply
  split
  · next stopped => exact absurd stopped started
  all_goals rfl

/-- The line of a started line: RUNNING with its timer, the hold set as it was, the permit by it. -/
theorem startLine_line : s.startLine.line =
    { state := .running, idleTimer := some (s.now + s.pos.config.idleTime * 1000), holds := s.line.holds
      permit := if s.line.holds = 0 then .driven else .released } := by
  simp [State.startLine, State.setLineState, State.idleExpiry, permitOf]

theorem startLine_frame : OnlyTouches [.line] s s.startLine := setLineState_frame s _ _

/-- On a started line an edit of the chain is refused. -/
theorem not_editable_of_running (h : s.line.state = .running) : ¬ s.editable = true := by
  simp [editable_iff, h]

theorem pinCode_ite (c : Prop) [Decidable c] : Pin.code (if c then .driven else .released) = if c then 1 else 0 := by
  split <;> rfl

/-- Settles O15: one case per outcome of validation, the zones by their fitting. -/
theorem lineStartFollowsR24 : Obligations.LineStartFollowsR24 := by
  refine ⟨fun s p seq stopped port => ⟨fun ds complete => ?taken, fun index cause fails => ?invalid⟩, fun s p seq started port => ?started⟩
  case taken =>
    have permitted : RequestKind.lineStart.permitted p = true := permitted_slicerOffice rfl port
    have passed := chainPassed_frame s
    have line : s.chainPassed.line = s.line := passed .line (by decide)
    have started : s.chainPassed.startLine.line =
        { state := .running, idleTimer := some (s.now + s.pos.config.idleTime * 1000), holds := s.line.holds
          permit := if s.line.holds = 0 then .driven else .released } := by
      rw [startLine_line, line, passed .now (by decide), passed .pos (by decide)]
    have body : s.chainPassed.startLine.startBytes = u8 1 ++ u8 1 ++ set16 s.line.holds ++ u8 (if s.line.holds = 0 then 1 else 0) := by
      have chain : s.chainPassed.startLine.chain.state = .valid := by
        rw [startLine_frame _ .chain (by decide), chainPassed_chain]
      unfold State.startBytes State.holdReplyBytes State.holdBytes
      rw [chain, started]
      rw [show (Pin.code (if s.line.holds = 0 then .driven else .released)) = if s.line.holds = 0 then 1 else 0 from pinCode_ite _]
      rfl
    refine ⟨_, next_answer s seq permitted (lineStartReply_complete s stopped complete), ?_, started, fun z => ?_, ?_, ?_, ?_, ?_⟩
    · exact chainPassed_chain s
    · obtain ⟨fitted, load, kept, rests⟩ := chainPassed_fits s z
      exact ⟨fitted, load, kept, rests⟩
    · rw [body]; exact respond_answers _ p .lineStart seq .ok _
    · exact ((passed.within rfl).andThen (startLine_frame _) rfl).andThen (respond_frame _ _ _ _ _ _) rfl
    · exact fun seq' index => ⟨_, next_answer _ seq' rfl (chainHeadReply_lineState _ index (not_editable_of_running _ rfl))⟩
    · exact fun seq' index kind distance next area =>
        ⟨_, next_answer _ seq' rfl (chainWriteReply_lineState (not_editable_of_running _ rfl))⟩
  case invalid =>
    exact ⟨_, next_answer s seq (permitted_slicerOffice rfl port) (lineStartReply_fails s stopped fails)⟩
  case started =>
    exact (next_answer s seq (permitted_slicerOffice rfl port) (lineStartReply_started s started)).trans
      (by simp [State.startBytes, State.holdReplyBytes, State.holdBytes]; rfl)

/-! ## LINE_STOP (R145) -/

theorem stopLine_eq : s.stopLine =
    (s.setLine { state := .stopped, idleTimer := none, holds := s.line.holds, permit := .released }).setCrumb
      { z0 := { s.crumb.z0 with purgeOwed := false }, z1 := { s.crumb.z1 with purgeOwed := false } } := by
  simp [State.stopLine, State.setLineState, State.dropPurges, permitOf]

/-- Settles O16: the stop of a started line, and the answer of a STOPPED one. -/
theorem lineStopStops : Obligations.LineStopStops := by
  intro s p seq port
  constructor
  · intro started
    have stopped : s.lineStopped = s.stopLine := by
      unfold State.lineStopped
      split
      · next stopped => exact absurd stopped started
      all_goals rfl
    refine next_answer s seq (permitted_slicerOffice rfl port) ?_
    simp only [lineStopReply, stopped, stopLine_eq]
    rfl
  · intro stopped
    have stays : s.lineStopped = s := by rw [State.lineStopped, stopped]
    refine next_answer s seq (permitted_slicerOffice rfl port) ?_
    simp [lineStopReply, stays, stopped, State.holdReplyBytes, State.holdBytes, LineState.code]

/-! ## The views -/

/-- A zone's view is its values. -/
theorem zoneView_eq_values (z : Zone) : s.zoneView z = s.zoneValues z := by
  have bar : optional 10 ((s.fittedBar z).map Bar.bytes) =
      (match s.fittedBar z with
        | some b => u8 1 ++ u32 b.distance ++ u16 b.halfSpan ++ u16 b.blastTime ++ u16 b.yield
        | none => List.replicate 11 0) := by
    cases s.fittedBar z <;> rfl
  have blast : blastBytes s.now (s.zone z).blastEnd =
      (match (s.zone z).blastEnd with | some d => u8 1 ++ u8 1 ++ u16 (d - s.now) | none => [0, 0, 0, 0]) := by
    cases (s.zone z).blastEnd <;> rfl
  have counts : s.zoneBlastCounts z =
      (match s.fittedBar z with | some b => roundNat (s.pos.v * b.blastTime) 256 | none => 0) := by
    unfold State.zoneBlastCounts; cases s.fittedBar z <;> rfl
  have occupied : yesNo (s.occupant z).isSome ++ optional 1 ((s.occupant z).map fun r => u8 r.tag) =
      (match s.occupant z with | some r => u8 1 ++ u8 1 ++ u8 r.tag | none => [0, 0, 0]) := by
    cases s.occupant z <;> rfl
  unfold State.zoneView State.zoneValues
  rw [bar, blast, counts, List.append_assoc _ (yesNo _) (optional 1 _), occupied]
  rfl

theorem optional_slot (x : Option Product) :
    optional 15 (x.map Product.bytes) =
      (match x with
        | some q =>
          u8 1 ++ u16 q.code ++ u8 q.thickness ++ u16 q.heel ++ u16 q.minLen ++ u16 q.maxLen ++ u16 q.shortMax ++ u16 q.regularMax
            ++ u8 q.crumb ++ u8 q.shelf
        | none => List.replicate 16 0) := by
  cases x <;> rfl

/-- A slot's bytes are its values. -/
theorem slotBytes_eq_values (i : Fin 16) : s.slotBytes i = s.slotValues i := by
  have selection : optional 1 ((s.selectionSource i).map fun x => u8 x.code) =
      (match s.recipes.selection with
        | some x => if x.slot = i then u8 1 ++ u8 x.source.code else [0, 0]
        | none => [0, 0]) := by
    unfold State.selectionSource
    cases s.recipes.selection with
    | none => rfl
    | some x => by_cases h : x.slot = i <;> simp [h, optional, u8]
  unfold State.slotBytes State.slotValues State.bladeBytes
  rw [optional_slot, selection]
  simp only [List.append_assoc] <;> rfl

theorem slotIndex?_val (i : Fin 16) : slotIndex? i.val = some i := by simp [slotIndex?, i.isLt]

theorem slotIndex?_none {n : Nat} (h : 15 < n) : slotIndex? n = none := by
  simp only [slotIndex?, dite_eq_right_iff, reduceCtorEq, imp_false]
  omega

/-- Settles O20: each read's reply is its view. -/
theorem readsChangeNothing : Obligations.ReadsChangeNothing := by
  intro s p seq
  refine ⟨next_answer s seq (permitted_any p rfl) ?_, next_answer s seq (permitted_any p rfl) ?_,
    fun i => next_answer s seq (permitted_any p rfl) ?_, fun n large => ⟨[], next_answer s seq (permitted_any p rfl) ?_⟩,
    next_answer s seq (permitted_any p rfl) rfl⟩
  · simp only [statusReadReply, State.statusBytes, State.productBytes, State.holdBytes, List.append_assoc]
    rfl
  · rw [crumbReadReply, zoneView_eq_values, zoneView_eq_values]
  · rw [recipeReadReply, slotIndex?_val, ← slotBytes_eq_values]
  · rw [recipeReadReply, slotIndex?_none large]

end Sys2Proof.Machine
end

section
/-! SUPPORT. Which notices an operation may tell, the changeover and the pending selection, and the Recipe Table's requests. -/

namespace Sys2Proof.Machine

variable (s : State)

/-! ## Notices told (R173) -/

/-- From s to t no flag is cleared, and one that is newly set is of a kind listed. -/
def Tells (ks : List NoticeKind) (s t : State) : Prop :=
  ∀ p k, (Noticed s p k → Noticed t p k) ∧ (Noticed t p k → Noticed s p k ∨ k ∈ ks)

section
variable {s t u : State} {ks ls : List NoticeKind}

theorem Tells.stands (h : Tells ks s t) {p : Port} {k : NoticeKind} (told : Noticed s p k) : Noticed t p k := (h p k).1 told

/-- A kind that is not told is set exactly where it was. -/
theorem Tells.untold (h : Tells ks s t) (p : Port) {k : NoticeKind} (other : k ∉ ks) : Noticed t p k ↔ Noticed s p k :=
  ⟨fun told => ((h p k).2 told).resolve_right other, (h p k).1⟩

theorem Tells.refl (ks : List NoticeKind) (s : State) : Tells ks s s := fun _ _ => ⟨id, .inl⟩

theorem Tells.trans (h : Tells ks s t) (k : Tells ks t u) : Tells ks s u := fun p x =>
  ⟨fun told => k.stands (h.stands told), fun told => ((k p x).2 told).elim (h p x).2 .inr⟩

theorem Tells.within (h : Tells ks s t) (sub : ks ⊆ ls) : Tells ls s t := fun p x =>
  ⟨(h p x).1, fun told => ((h p x).2 told).imp_right fun mem => sub mem⟩

theorem Tells.ite {c : Prop} [Decidable c] (h : Tells ks s t) (k : Tells ks s u) : Tells ks s (if c then t else u) := by
  split
  · exact h
  · exact k

theorem Tells.of_flags (same : ∀ p, (t.port p).flags = (s.port p).flags) : Tells ks s t := by
  intro p k
  have iff : Noticed t p k ↔ Noticed s p k := by unfold Noticed; rw [same]
  exact ⟨iff.mpr, fun told => .inl (iff.mp told)⟩

/-- What does not reach the ports tells nothing. -/
theorem OnlyTouches.tells {ps : List Part} (h : OnlyTouches ps s t) (apart : Part.ports ∉ ps) : Tells ks s t :=
  .of_flags fun p => congrArg (fun x : PortStates => (x.get p).flags) (h .ports apart)

theorem Tells.foldl {α : Type} (f : State → α → State) (h : ∀ s a, Tells ks s (f s a)) (l : List α) (s : State) :
    Tells ks s (l.foldl f s) := by
  induction l generalizing s with
  | nil => exact .refl ks s
  | cons a l ih => exact (h s a).trans (ih (f s a))

end

/-- The kind at a port's position. -/
def kindAt : Port → Nat → NoticeKind
  | .slicer, 0 => .changeoverTaken
  | .slicer, 1 => .selectSuperseded
  | .slicer, 2 => .lineIdle
  | .bagger, 0 => .bagReady
  | .bagger, 1 => .bagWithdrawn
  | .bagger, 2 => .bagBlind
  | .bagger, 3 => .tyerFault
  | .bagger, 4 => .clipLow
  | .office, 0 => .changeoverTaken
  | .office, 1 => .selectSuperseded
  | .office, 2 => .recipeFreed
  | .office, 3 => .entryClosed
  | .office, 4 => .scheduleSuspended
  | .office, 5 => .lostLoaf
  | .office, 6 => .strayEdge
  | .office, 7 => .untrackedLoaf
  | .office, 8 => .shiftClosed
  | .office, 9 => .storeDone
  | .office, 10 => .storeFault
  | _, _ => .holdChanged

theorem kindAt_noticePosition {p : Port} {k : NoticeKind} {i : Nat} (h : noticePosition p k = some i) : kindAt p i = k := by
  unfold noticePosition at h
  split at h <;> cases h <;> rfl

/-- A notice raised is set, and no other flag changes. -/
theorem noticed_notify_iff {p q : Port} {j k : NoticeKind} {i : Nat} (h : noticePosition p k = some i) :
    Noticed (s.notify p k) q j ↔ Noticed s q j ∨ q = p ∧ j = k := by
  constructor
  · rintro ⟨n, position, flag⟩
    by_cases e : q = p
    · subst e
      rw [notify_port_self, raiseFlags_flags, noticeBit, h, BitVec.getLsbD_or, BitVec.getLsbD_twoPow, Bool.or_eq_true] at flag
      obtain flag | flag := flag
      · exact .inl ⟨n, position, flag⟩
      · have same : i = n := of_decide_eq_true ((Bool.and_eq_true _ _).mp flag).2
        subst same
        exact .inr ⟨rfl, (kindAt_noticePosition position).symm.trans (kindAt_noticePosition h)⟩
    · rw [notify_port_of_ne s p q k e] at flag
      exact .inl ⟨n, position, flag⟩
  · rintro (told | ⟨rfl, rfl⟩)
    · exact told.notify p k
    · exact noticed_notify_self s h

theorem notify_tells {p : Port} {k : NoticeKind} {i : Nat} (h : noticePosition p k = some i) : Tells [k] s (s.notify p k) := by
  intro q j
  rw [noticed_notify_iff s h]
  exact ⟨.inl, Or.imp_right fun ⟨_, e⟩ => List.mem_singleton.mpr e⟩

theorem respond_tells (ks : List NoticeKind) (p : Port) (kind seq : Byte) (result : ResultCode) (body : List Byte) :
    Tells ks s (s.respond p kind seq result body) :=
  .of_flags fun q => (respond_sameNotices s p q kind seq result body).1

theorem changeHolds_tells (w : Set16) : Tells [.holdChanged] s (s.changeHolds w) :=
  have set : Tells [.holdChanged] s (s.setLine { s.line with holds := w, permit := permitOf s.line.state w }) :=
    (setLine_frame s _).tells (by decide)
  ((set.trans (notify_tells _ (p := .slicer) rfl)).trans (notify_tells _ (p := .bagger) rfl)).trans (notify_tells _ (p := .office) rfl)

theorem placeHold_tells (r : HoldReason) : Tells [.holdChanged] s (s.placeHold r) := .ite (.refl _ s) (changeHolds_tells s _)

theorem releaseHold_tells (r : HoldReason) : Tells [.holdChanged] s (s.releaseHold r) := .ite (changeHolds_tells s _) (.refl _ s)

theorem judgeHold_tells (r : HoldReason) (c : Bool) : Tells [.holdChanged] s (s.judgeHold r c) :=
  .ite (placeHold_tells s r) (releaseHold_tells s r)

/-! ## RECIPE_LOAD (R29) -/

theorem slotReply_eq (i : Fin 16) : s.slotReply i = u8 1 ++ s.slotValues i := by
  rw [← slotBytes_eq_values]; rfl

theorem Product.inRange_iff (q : Product) :
    q.inRange = true ↔
      1 ≤ q.code ∧ q.code ≤ 65534 ∧ 60 ≤ q.thickness ∧ q.thickness ≤ 250 ∧ q.heel ≤ 400 ∧ 300 ≤ q.minLen ∧ q.minLen < q.maxLen
        ∧ q.maxLen ≤ 9999 ∧ q.shortMax ≤ q.regularMax ∧ q.regularMax ≤ 9999 ∧ q.crumb ≤ 255 ∧ 1 ≤ q.shelf ∧ q.shelf ≤ 30 := by
  simp only [Product.inRange, Bool.and_eq_true, decide_eq_true_eq]
  omega

theorem inUse_iff (x : SlotState) : x.inUse = true ↔ x = .loaded ∨ x = .active := by cases x <;> decide

theorem codeHeld_iff (code : Nat) :
    s.codeHeld code = true ↔
      ∃ j, ((s.slot j).state = .loaded ∨ (s.slot j).state = .active) ∧ (s.slot j).product.map Product.code = some code := by
  simp only [State.codeHeld, List.any_eq_true, List.mem_finRange, true_and, Bool.and_eq_true, inUse_iff, decide_eq_true_eq]

theorem recipeLoadReply_of_slot (i : Fin 16) (q : Product) : recipeLoadReply i.val q s = recipeLoadSlot i q s := by
  rw [recipeLoadReply, slotIndex?_val]

section
variable {s : State} {i : Fin 16} {q : Product}

theorem recipeLoadSlot_slotState (h : (s.slot i).state ≠ .empty) :
    recipeLoadSlot i q s = { state := s, result := .slotState, body := u8 1 ++ s.slotValues i } := by
  rw [recipeLoadSlot, if_pos h, slotReply_eq]

theorem recipeLoadSlot_outOfRange (h : (s.slot i).state = .empty) (out : ¬ q.inRange = true) :
    recipeLoadSlot i q s = { state := s, result := .outOfRange, body := u8 1 ++ s.slotValues i } := by
  rw [recipeLoadSlot, if_neg (not_not.mpr h), if_pos (by simpa using out), slotReply_eq]

theorem recipeLoadSlot_duplicate (h : (s.slot i).state = .empty) (range : q.inRange = true) (held : s.codeHeld q.code = true) :
    recipeLoadSlot i q s = { state := s, result := .duplicateCode, body := u8 1 ++ s.slotValues i } := by
  rw [recipeLoadSlot, if_neg (not_not.mpr h), if_neg (by simp [range]), if_pos held, slotReply_eq]

theorem recipeLoadSlot_taken (h : (s.slot i).state = .empty) (range : q.inRange = true) (free : ¬ s.codeHeld q.code = true) :
    recipeLoadSlot i q s =
      { state := s.setSlot i ((s.slot i).load q), result := .ok
        body := u8 1 ++ (s.setSlot i ((s.slot i).load q)).slotValues i } := by
  rw [recipeLoadSlot, if_neg (not_not.mpr h), if_neg (by simp [range]), if_neg free, slotReply_eq]

end

/-- Settles O21: one case per reply of a slot that exists. -/
theorem recipeLoadFollowsR29 : Obligations.RecipeLoadFollowsR29 := by
  intro s seq q load inRange held
  have answers : ∀ {i : Fin 16} {t result body}, recipeLoadSlot i q s = ⟨t, result, body⟩ →
      exec (load i.val) s = .next (t.respond .office 11 seq result body) := fun {i _ _ _} reply =>
    next_answer s seq (k := .recipeLoad) rfl ((recipeLoadReply_of_slot s i q).trans reply)
  refine ⟨fun n large => ⟨noSlot, next_answer s seq rfl ?_⟩, fun i => ⟨fun full => ?_, fun empty out => ?_, fun empty range dup => ?_,
    fun empty range free => ?_⟩⟩
  · rw [recipeLoadReply, slotIndex?_none large]
  · exact answers (recipeLoadSlot_slotState full)
  · exact answers (recipeLoadSlot_outOfRange empty (mt (Product.inRange_iff q).mp out))
  · exact answers (recipeLoadSlot_duplicate empty ((Product.inRange_iff q).mpr range) ((codeHeld_iff s q.code).mpr dup))
  · refine ⟨_, answers (recipeLoadSlot_taken empty ((Product.inRange_iff q).mpr range) (mt (codeHeld_iff s q.code).mp free)),
      slot_setSlot_self s i _, fun j ne => slot_setSlot_of_ne s i j _ ne, rfl, rfl, respond_answers _ .office .recipeLoad seq .ok _, ?_⟩
    exact ((setSlot_frame s i _).within rfl).andThen (respond_frame _ _ _ _ _ _) rfl

/-! ## RECIPE_RETIRE (R30) -/

theorem selectionSource_isSome (i : Fin 16) : (s.selectionSource i).isSome = true ↔ ∃ x, s.recipes.selection = some x ∧ x.slot = i := by
  unfold State.selectionSource
  cases s.recipes.selection with
  | none => simp
  | some x => by_cases h : x.slot = i <;> simp [h]

theorem slotScheduled_iff (i : Fin 16) :
    s.slotScheduled i = true ↔ ∃ e ∈ s.schedule.entries, e.slot = i ∧ (e.state = .pending ∨ e.state = .active) := by
  simp [State.slotScheduled]

theorem recipeRetireReply_of_slot (i : Fin 16) : recipeRetireReply i.val s = recipeRetireSlot i s := by
  rw [recipeRetireReply, slotIndex?_val]

theorem recipeRetireSlot_refused {i : Fin 16} {result : ResultCode} (h : s.retireRefusal i = some result) :
    recipeRetireSlot i s = { state := s, result := result, body := u8 1 ++ s.slotValues i } := by
  rw [recipeRetireSlot, h, ← slotReply_eq]

theorem recipeRetireSlot_taken {i : Fin 16} (h : s.retireRefusal i = none) :
    recipeRetireSlot i s =
      { state := s.setSlot i (s.slot i).retire, result := .ok, body := u8 1 ++ (s.setSlot i (s.slot i).retire).slotValues i } := by
  rw [recipeRetireSlot, h, ← slotReply_eq]

theorem retireRefusal_loaded {i : Fin 16} (h : (s.slot i).state = .loaded) :
    s.retireRefusal i =
      if (s.selectionSource i).isSome then some .slotState else if s.slotScheduled i then some .slotScheduled else none := by
  rw [State.retireRefusal, h]

theorem retire_eq (x : Slot) :
    x.retire = if x.inFlight = 0 then { state := .empty, product := none, inFlight := 0 } else { x with state := .retiring } := by
  unfold Slot.retire
  split
  · next none => rw [Slot.emptied, none]
  · rfl

/-- Settles O22: the refusals by the state of the slot, and a LOADED slot by what still refers to it. -/
theorem recipeRetireFollowsR30 : Obligations.RecipeRetireFollowsR30 := by
  refine ⟨fun s seq n large => ⟨noSlot, next_answer s seq rfl ?_⟩, fun s seq i => ?_⟩
  · rw [recipeRetireReply, slotIndex?_none large]
  have refuses : ∀ {result}, s.retireRefusal i = some result →
      exec (.recipeRetire .office seq i.val) s = .next (s.respond .office 12 seq result (u8 1 ++ s.slotValues i)) :=
    fun refused => next_answer s seq rfl ((recipeRetireReply_of_slot s i).trans (recipeRetireSlot_refused s refused))
  have unselected : (∀ x, s.recipes.selection = some x → x.slot ≠ i) → ¬ (s.selectionSource i).isSome = true := fun none some =>
    have ⟨x, selected, slot⟩ := (selectionSource_isSome s i).mp some
    none x selected slot
  refine ⟨fun active => refuses ?_, fun idle => refuses ?_, fun loaded selected => refuses ?_, fun loaded other scheduled => refuses ?_,
    fun loaded other free => ?_⟩
  · rw [State.retireRefusal, active]
  · obtain idle | idle := idle <;> rw [State.retireRefusal, idle]
  · obtain ⟨source, selected⟩ := selected
    rw [retireRefusal_loaded s loaded, if_pos ((selectionSource_isSome s i).mpr ⟨_, selected, rfl⟩)]
  · rw [retireRefusal_loaded s loaded, if_neg (unselected other), if_pos ((slotScheduled_iff s i).mpr scheduled)]
  · have taken : s.retireRefusal i = none := by
      rw [retireRefusal_loaded s loaded, if_neg (unselected other), if_neg]
      rintro scheduled
      obtain ⟨e, mem, slot, state⟩ := (slotScheduled_iff s i).mp scheduled
      obtain ⟨notPending, notActive⟩ := free e mem slot
      exact state.elim notPending notActive
    refine ⟨_, next_answer s seq rfl ((recipeRetireReply_of_slot s i).trans (recipeRetireSlot_taken s taken)), ?_,
      fun j ne => slot_setSlot_of_ne s i j _ ne, respond_answers _ .office .recipeRetire seq .ok _, ?_⟩
    · exact (slot_setSlot_self s i _).trans (retire_eq _)
    · exact ((setSlot_frame s i _).within rfl).andThen (respond_frame _ _ _ _ _ _) rfl

/-! ## The blade (R38, R39) -/

theorem pitchDiffers_iff (thickness pitch : Nat) :
    pitchDiffers thickness pitch = true ↔ thickness > pitch + 2 ∨ pitch > thickness + 2 := by
  simp [pitchDiffers]

theorem bladeDiffers_of_none (h : s.activeSlot = none) : s.bladeDiffers = false := by rw [State.bladeDiffers, h]

theorem bladeDiffers_of_active {i : Fin 16} {q : Product} (active : s.activeSlot = some i) (product : (s.slot i).product = some q) :
    s.bladeDiffers = true ↔ q.thickness > s.recipes.pitch + 2 ∨ s.recipes.pitch > q.thickness + 2 := by
  rw [← pitchDiffers_iff, State.bladeDiffers, active]
  simp only [product]

/-- The judgement places or releases BLADE_MISMATCH by its condition. -/
theorem held_judgeBlade (r : HoldReason) : s.judgeBlade.held r = if .bladeMismatch = r then s.bladeDiffers else s.held r :=
  held_judgeHold s _ r _

theorem bladeReportReply_taken {pitch : Nat} (h : pitch ≤ 300) :
    bladeReportReply pitch s =
      { state := s.reportBlade pitch, result := .ok, body := (s.reportBlade pitch).bladeBytes } := if_neg (by omega)

theorem reportBlade_recipes (pitch : Nat) : (s.reportBlade pitch).recipes = { s.recipes with pitch := pitch } :=
  judgeBlade_frame _ .recipes (by decide)

/-- Settles O24: the report stores the pitch, and the judgement reads it. -/
theorem bladeReportJudgesTheBlade : Obligations.BladeReportJudgesTheBlade := by
  refine ⟨fun s seq pitch range => ?_, fun s seq pitch large => next_answer s seq rfl (if_pos large)⟩
  let u := s.setRecipes { s.recipes with pitch := pitch }
  have held : ∀ r, (s.reportBlade pitch).held r = if .bladeMismatch = r then u.bladeDiffers else s.held r := held_judgeBlade u
  have judged : (s.reportBlade pitch).held .bladeMismatch = u.bladeDiffers := held .bladeMismatch
  refine ⟨_, next_answer s seq rfl (bladeReportReply_taken s range), reportBlade_recipes s pitch, fun none => ?_,
    fun i q active product => ?_,
    fun r ne => ?_, ?_, ?_⟩
  · exact judged.trans (bladeDiffers_of_none u none)
  · exact (Bool.eq_iff_iff.mp judged).trans (bladeDiffers_of_active u (i := i) (q := q) active product)
  · exact (held r).trans (if_neg ne.symm)
  · have body : (s.reportBlade pitch).bladeBytes = u16 pitch ++ yesNo ((s.reportBlade pitch).held .bladeMismatch) := by
      rw [State.bladeBytes, reportBlade_recipes]
    rw [body]
    exact respond_answers _ .slicer .bladeReport seq .ok _
  · exact (((setRecipes_frame s _).within rfl).andThen (judgeBlade_frame _) rfl).andThen (respond_frame _ _ _ _ _ _) rfl

/-! ## The changeover (R35, R36) -/

/-- A slot that alone is ACTIVE. -/
theorem activeSlot_of_only {i : Fin 16} (active : (s.slot i).state = .active) (only : ∀ j, (s.slot j).state = .active → j = i) :
    s.activeSlot = some i := by
  cases found : s.activeSlot with
  | none => exact absurd active ((activeSlot_eq_none_iff s).mp found i)
  | some j => rw [only j (activeSlot_state s found)]

theorem unloadActive_of_none (h : s.activeSlot = none) : s.unloadActive = s := by rw [State.unloadActive, h]

theorem changeover_recipes (i : Fin 16) : (s.changeover i).recipes = (s.changedSlots i).recipes := by
  unfold State.changeover
  rw [judgeBlade_frame _ .recipes (by decide), releaseHold_frame _ _ .recipes (by decide), notify_frame _ _ _ .recipes (by decide),
    notify_frame _ _ _ .recipes (by decide)]
  rfl

theorem slot_changeover (i j : Fin 16) : (s.changeover i).slot j = (s.changedSlots i).slot j := by
  rw [State.slot, changeover_recipes]; rfl

theorem changeover_selection (i : Fin 16) : (s.changeover i).recipes.selection = none := by rw [changeover_recipes]; rfl

theorem changeover_pitch (i : Fin 16) : (s.changeover i).recipes.pitch = s.recipes.pitch := by
  rw [changeover_recipes]
  unfold State.changedSlots State.unloadActive
  cases s.activeSlot <;> rfl

/-- What a changeover makes of the hold set. -/
theorem held_changeover (i : Fin 16) (r : HoldReason) :
    (s.changeover i).held r =
      if .bladeMismatch = r then (s.changedSlots i).bladeDiffers else (!decide (.noProduct = r) && s.held r) := by
  let u := (((s.changedSlots i).notify .slicer .changeoverTaken).notify .office .changeoverTaken).releaseHold .noProduct
  have recipes : u.recipes = (s.changedSlots i).recipes := by
    rw [releaseHold_frame _ _ .recipes (by decide)]; rfl
  have blade : u.bladeDiffers = (s.changedSlots i).bladeDiffers := by
    unfold State.bladeDiffers State.activeSlot State.slot
    rw [recipes]
  have slots : OnlyTouches [.recipes] s (s.changedSlots i) := by rw [changedSlots_eq]; exact setRecipes_frame s _
  show u.judgeBlade.held r = _
  rw [held_judgeBlade, blade, held_releaseHold]
  have same : (((s.changedSlots i).notify .slicer .changeoverTaken).notify .office .changeoverTaken).held r = s.held r :=
    slots.held (by decide) r
  rw [same]

theorem changeover_tells (i : Fin 16) : Tells [.changeoverTaken, .holdChanged] s (s.changeover i) := by
  have slots : Tells [.changeoverTaken, .holdChanged] s (s.changedSlots i) := by
    rw [changedSlots_eq]
    exact (setRecipes_frame s _).tells (by decide)
  have slicer := (notify_tells (s.changedSlots i) (p := .slicer) (k := .changeoverTaken) rfl).within
    (ls := [.changeoverTaken, .holdChanged]) (by decide)
  have office := (notify_tells ((s.changedSlots i).notify .slicer .changeoverTaken) (p := .office) (k := .changeoverTaken) rfl).within
    (ls := [.changeoverTaken, .holdChanged]) (by decide)
  exact (((slots.trans slicer).trans office).trans ((releaseHold_tells _ _).within (by decide))).trans
    ((judgeHold_tells _ _ _).within (by decide))

theorem changeover_noticed (i : Fin 16) :
    Noticed (s.changeover i) .slicer .changeoverTaken ∧ Noticed (s.changeover i) .office .changeoverTaken := by
  let u := ((s.changedSlots i).notify .slicer .changeoverTaken).notify .office .changeoverTaken
  have rest : Tells [.holdChanged] u (s.changeover i) := (releaseHold_tells _ _).trans (judgeHold_tells _ _ _)
  exact ⟨rest.stands ((noticed_notify_self _ rfl).notify _ _), rest.stands (noticed_notify_self _ rfl)⟩

/-- A changeover to a slot that then alone is ACTIVE is one. -/
theorem changedOver_changeover (i : Fin 16) (only : ∀ j, ((s.changedSlots i).slot j).state = .active → j = i) :
    ChangedOver s (s.changeover i) i := by
  have self := slot_changedSlots_self s i
  have active : (s.changedSlots i).activeSlot = some i := activeSlot_of_only _ (by rw [self]) only
  obtain ⟨slicer, office⟩ := changeover_noticed s i
  refine ⟨by rw [slot_changeover, self], by rw [slot_changeover, self], changeover_selection s i, slicer, office, ?_, fun q product => ?_⟩
  · rw [held_changeover]; simp
  · rw [held_changeover, if_pos rfl, bladeDiffers_of_active _ active (by rw [self]; exact product)]
    rw [show (s.changedSlots i).recipes.pitch = s.recipes.pitch from by rw [← changeover_recipes, changeover_pitch]]

/-- With no slot ACTIVE before, the slot taken alone is ACTIVE. -/
theorem changedSlots_only_of_none {i : Fin 16} (h : s.activeSlot = none) (j : Fin 16)
    (active : ((s.changedSlots i).slot j).state = .active) : j = i := by
  by_contra ne
  rw [slot_changedSlots_of_ne s ne, unloadActive_of_none s h] at active
  exact (activeSlot_eq_none_iff s).mp h j active

theorem slot_changeover_of_none {i j : Fin 16} (h : s.activeSlot = none) (ne : j ≠ i) : (s.changeover i).slot j = s.slot j := by
  rw [slot_changeover, slot_changedSlots_of_ne s ne, unloadActive_of_none s h]

section
variable {s t u : State} {i : Fin 16}

/-- What leaves the slot, the selection, the flags and the two reasons leaves a changeover taken. -/
theorem ChangedOver.after (h : ChangedOver s t i) (state : (u.slot i).state = (t.slot i).state)
    (product : (u.slot i).product = (t.slot i).product) (selection : u.recipes.selection = t.recipes.selection) {ks : List NoticeKind}
    (flags : Tells ks t u) (noProduct : u.held .noProduct = t.held .noProduct) (blade : u.held .bladeMismatch = t.held .bladeMismatch) :
    ChangedOver s u i := by
  obtain ⟨active, same, cleared, slicer, office, released, judged⟩ := h
  exact ⟨state.trans active, product.trans same, selection.trans cleared, flags.stands slicer, flags.stands office,
    noProduct.trans released, fun q hq => by rw [blade]; exact judged q hq⟩

/-- A changeover is judged against the recipe table it was taken on. -/
theorem ChangedOver.of_recipes (same : u.recipes = s.recipes) (h : ChangedOver u t i) : ChangedOver s t i := by
  obtain ⟨active, product, cleared, slicer, office, released, judged⟩ := h
  have slot : u.slot i = s.slot i := by rw [State.slot, same]; rfl
  rw [slot] at product
  rw [slot, same] at judged
  exact ⟨active, product, cleared, slicer, office, released, judged⟩

end

/-! ## The pending selection (R33, R34, R37) -/

theorem notifyDisplaced_recipes (w : Source) : (s.notifyDisplaced w).recipes = s.recipes := notifyDisplaced_frame s w .recipes (by decide)

theorem activeSlot_notifyDisplaced (w : Source) : (s.notifyDisplaced w).activeSlot = s.activeSlot := by
  unfold State.activeSlot State.slot
  rw [notifyDisplaced_recipes]

theorem notifyDisplaced_tells (w : Source) : Tells [.selectSuperseded] s (s.notifyDisplaced w) := by
  unfold State.notifyDisplaced
  split
  · refine .ite (.refl _ s) ?_
    split
    · exact notify_tells s rfl
    · exact notify_tells s rfl
    · exact .refl _ s
  · exact .refl _ s

/-- The port a master's selection comes from. -/
def Source.port : Source → Option Port
  | .slicer => some .slicer
  | .office => some .office
  | .schedule => none

/-- A port is told of a selection of its own that another source displaces. -/
theorem notifyDisplaced_superseded (w : Source) (p : Port) :
    Noticed (s.notifyDisplaced w) p .selectSuperseded ↔
      Noticed s p .selectSuperseded ∨ ∃ x, s.recipes.selection = some x ∧ x.source ≠ w ∧ x.source.port = some p := by
  unfold State.notifyDisplaced
  cases s.recipes.selection with
  | none => simp
  | some x =>
    by_cases own : x.source = w
    · simp [own]
    · obtain ⟨slot, source⟩ := x
      cases source with
      | schedule => simp [own, Source.port]
      | slicer | office =>
        simp only [own, if_false, Option.some.injEq, exists_eq_left', ne_eq, not_false_eq_true, true_and, Source.port]
        rw [noticed_notify_iff s rfl]
        simp [eq_comm]

theorem writeSelection_active {i : Fin 16} (w : Source) (h : (s.slot i).state = .active) :
    s.writeSelection i w = (s.notifyDisplaced w).setSelection none := by rw [State.writeSelection, h]

theorem writeSelection_pending {i : Fin 16} (w : Source) (h : (s.slot i).state = .loaded) (present : s.activeSlot ≠ none) :
    s.writeSelection i w = (s.notifyDisplaced w).setSelection (some ⟨i, w⟩) := by
  obtain ⟨a, active⟩ := Option.ne_none_iff_exists'.mp present
  rw [State.writeSelection, h]
  simp only [activeSlot_notifyDisplaced, active]

theorem writeSelection_taken {i : Fin 16} (w : Source) (h : (s.slot i).state = .loaded) (none : s.activeSlot = none) :
    s.writeSelection i w = (s.notifyDisplaced w).changeover i := by
  rw [State.writeSelection, h]
  simp only [activeSlot_notifyDisplaced, none]

/-- A write tells, besides what it displaces, at most a changeover. -/
theorem writeSelection_superseded {i : Fin 16} (w : Source) (p : Port) (h : (s.slot i).state = .loaded ∨ (s.slot i).state = .active) :
    Noticed (s.writeSelection i w) p .selectSuperseded ↔
      Noticed s p .selectSuperseded ∨ ∃ x, s.recipes.selection = some x ∧ x.source ≠ w ∧ x.source.port = some p := by
  rw [← notifyDisplaced_superseded]
  obtain loaded | active := h
  · by_cases none : s.activeSlot = none
    · rw [writeSelection_taken s w loaded none]
      exact (changeover_tells _ i).untold p (by decide)
    · rw [writeSelection_pending s w loaded none]
      exact (OnlyTouches.tells (ks := []) (setSelection_frame _ _) (by decide)).untold p (by decide)
  · rw [writeSelection_active s w active]
    exact (OnlyTouches.tells (ks := []) (setSelection_frame _ _) (by decide)).untold p (by decide)

/-- A write of a LOADED slot with none ACTIVE is a changeover, and no other slot changes. -/
theorem writeSelection_changedOver {i : Fin 16} (w : Source) (h : (s.slot i).state = .loaded) (none : s.activeSlot = none) :
    ChangedOver s (s.writeSelection i w) i ∧ (∀ j, j ≠ i → (s.writeSelection i w).slot j = s.slot j)
      ∧ (s.writeSelection i w).recipes.pitch = s.recipes.pitch
      ∧ ∀ r : HoldReason, r ≠ .noProduct → r ≠ .bladeMismatch → (s.writeSelection i w).held r = s.held r := by
  have recipes := notifyDisplaced_recipes s w
  have none' : (s.notifyDisplaced w).activeSlot = Option.none := (activeSlot_notifyDisplaced s w).trans none
  rw [writeSelection_taken s w h none]
  refine ⟨(changedOver_changeover _ i fun j => changedSlots_only_of_none _ none' j).of_recipes recipes, fun j ne => ?_, ?_,
    fun r ne ne' => ?_⟩
  · rw [slot_changeover_of_none _ none' ne, slot_notifyDisplaced]
  · rw [changeover_pitch, recipes]
  · rw [held_changeover, if_neg ne'.symm, (notifyDisplaced_frame s w).held (by decide)]
    simp [ne.symm]

/-! ## SELECT (R34) -/

theorem suspendSchedule_schedule :
    s.suspendSchedule.schedule =
      { s.schedule with state := if s.schedule.state = .active then .suspended else s.schedule.state } := by
  unfold State.suspendSchedule
  split
  · rfl
  · rfl

theorem suspendSchedule_tells : Tells [.scheduleSuspended] s s.suspendSchedule :=
  .ite (((setScheduleState_frame s _).tells (by decide)).trans (notify_tells _ (p := .office) rfl)) (.refl _ s)

theorem suspendSchedule_noticed (h : s.schedule.state = .active) : Noticed s.suspendSchedule .office .scheduleSuspended := by
  rw [State.suspendSchedule, if_pos h]
  exact noticed_notify_self _ rfl

theorem selectReply_taken {i : Fin 16} (source : Source) (h : (s.slot i).state = .loaded ∨ (s.slot i).state = .active) :
    selectReply source i.val s =
      { state := s.selectSlot i source, result := .ok, body := (s.selectSlot i source).productBytes } := by
  rw [selectReply, slotIndex?_val]
  exact if_pos ((inUse_iff _).mpr h)

theorem selectReply_slotState {i : Fin 16} (source : Source) (h : (s.slot i).state = .empty ∨ (s.slot i).state = .retiring) :
    selectReply source i.val s = { state := s, result := .slotState, body := s.productBytes } := by
  rw [selectReply, slotIndex?_val]
  obtain h | h := h <;> simp [h, SlotState.inUse]

theorem selectSlot_recipes (i : Fin 16) (w : Source) : (s.selectSlot i w).recipes = (s.writeSelection i w).recipes :=
  suspendSchedule_frame _ .recipes (by decide)

theorem selectSlot_schedule (i : Fin 16) (w : Source) :
    (s.selectSlot i w).schedule =
      { s.schedule with state := if s.schedule.state = .active then .suspended else s.schedule.state } := by
  rw [State.selectSlot, suspendSchedule_schedule, writeSelection_frame s i w .schedule (by decide)]

theorem productBytes_eq {t : State} {a : Fin 16} (active : t.activeSlot = some a) :
    t.productBytes = u8 1 ++ u8 a.val ++ optional 2 (t.recipes.selection.map Selection.bytes) := by
  rw [State.productBytes, active]; rfl

theorem activeSlot_of_recipes {s t : State} (h : t.recipes.slots = s.recipes.slots) : t.activeSlot = s.activeSlot := by
  unfold State.activeSlot State.slot
  rw [h]

/-- A write that only replaces the selection. -/
theorem selectSlot_of_write {i : Fin 16} {w : Source} {x : Option Selection}
    (write : s.writeSelection i w = (s.notifyDisplaced w).setSelection x) :
    (s.selectSlot i w).recipes = { s.recipes with selection := x } ∧ (s.selectSlot i w).activeSlot = s.activeSlot
      ∧ OnlyTouches [.recipes, .schedule, .ports] s (s.selectSlot i w) := by
  have recipes : (s.selectSlot i w).recipes = { s.recipes with selection := x } := by
    rw [selectSlot_recipes, write]
    show { (s.notifyDisplaced w).recipes with selection := x } = _
    rw [notifyDisplaced_recipes]
  refine ⟨recipes, activeSlot_of_recipes (by rw [recipes]), ?_⟩
  unfold State.selectSlot
  rw [write]
  exact (((notifyDisplaced_frame s w).within rfl).andThen (setSelection_frame _ _) rfl).andThen (suspendSchedule_frame _) rfl

/-- The port a master's SELECT comes from is told nothing of its own selection. -/
theorem port_sourceOf {p : Port} (h : p ≠ .bagger) : (sourceOf p).port = some p := by
  cases p with
  | bagger => exact absurd rfl h
  | slicer | office => rfl

theorem superseded_slicer {p : Port} (h : p ≠ .bagger) (x : Selection) :
    (x.source ≠ sourceOf p ∧ x.source.port = some .slicer) ↔ p = .office ∧ x.source = .slicer := by
  cases p with
  | bagger => exact absurd rfl h
  | slicer | office => cases x.source <;> simp [sourceOf, Source.port]

theorem superseded_office {p : Port} (h : p ≠ .bagger) (x : Selection) :
    (x.source ≠ sourceOf p ∧ x.source.port = some .office) ↔ p = .slicer ∧ x.source = .office := by
  cases p with
  | bagger => exact absurd rfl h
  | slicer | office => cases x.source <;> simp [sourceOf, Source.port]

theorem sourceOf_eq {p : Port} (h : p ≠ .bagger) : sourceOf p = if p = .slicer then .slicer else .office := by
  cases p with
  | bagger => exact absurd rfl h
  | slicer | office => rfl

/-- Settles O23: the three writes of a slot in use, what they tell, and the refusals. -/
theorem selectFollowsR34 : Obligations.SelectFollowsR34 := by
  intro s p seq i port
  have permitted : RequestKind.select.permitted p = true := permitted_slicerOffice rfl port
  have answers : (s.slot i).state = .loaded ∨ (s.slot i).state = .active →
      exec (.select p seq i.val) s = .next ((s.selectSlot i (sourceOf p)).respond p 14 seq .ok (s.selectSlot i (sourceOf p)).productBytes) :=
    fun inUse => next_answer s seq permitted (selectReply_taken s (sourceOf p) inUse)
  have suspended := suspendSchedule_tells (s.writeSelection i (sourceOf p))
  refine ⟨fun loaded a active => ?pending, fun loaded none => ?changeover, fun active => ?clears, fun inUse => ?told, fun idle => ?refused,
    fun n large => ?outOfRange⟩
  case pending =>
    obtain ⟨recipes, same, frame⟩ := selectSlot_of_write s (writeSelection_pending s (sourceOf p) loaded (by simp [active]))
    refine ⟨_, answers (.inl loaded), ?_, selectSlot_schedule s i _, ?_, frame.andThen (respond_frame _ _ _ _ _ _) rfl⟩
    · exact recipes.trans (by rw [sourceOf_eq port])
    · rw [productBytes_eq (same.trans active), recipes, sourceOf_eq port]
      have code : Source.code (if p = .slicer then .slicer else .office) = if p = .slicer then 0 else 1 := by split <;> rfl
      have bytes : optional 2 ((some (Selection.mk i (if p = .slicer then .slicer else .office))).map Selection.bytes) =
          u8 1 ++ (u8 i.val ++ u8 (if p = .slicer then 0 else 1)) := by rw [← code]; rfl
      rw [bytes, ← List.append_assoc, ← List.append_assoc]
      exact respond_answers _ p .select seq .ok _
  case changeover =>
    obtain ⟨changed, others, pitch, holds⟩ := writeSelection_changedOver s (sourceOf p) loaded none
    have recipes := selectSlot_recipes s i (sourceOf p)
    have frame := suspendSchedule_frame (s.writeSelection i (sourceOf p))
    have slot : ∀ j, (s.selectSlot i (sourceOf p)).slot j = (s.writeSelection i (sourceOf p)).slot j := frame.slot (by decide)
    have held : ∀ r, (s.selectSlot i (sourceOf p)).held r = (s.writeSelection i (sourceOf p)).held r := frame.held (by decide)
    have after : ChangedOver s (s.selectSlot i (sourceOf p)) i :=
      changed.after (by rw [slot]) (by rw [slot]) (by rw [recipes]) suspended (held _) (held _)
    have active : (s.selectSlot i (sourceOf p)).activeSlot = some i := by
      refine activeSlot_of_only _ after.1 fun j hj => by_contra fun ne => ?_
      rw [slot, others j ne] at hj
      exact (activeSlot_eq_none_iff s).mp none j hj
    refine ⟨_, answers (.inl loaded), after.after rfl rfl rfl (respond_tells _ [] _ _ _ _ _) rfl rfl, fun j ne => ?_, ?_,
      selectSlot_schedule s i _, fun r ne ne' => ?_, ?_, ?_⟩
    · exact (slot j).trans (others j ne)
    · exact (congrArg RecipeTable.pitch recipes).trans pitch
    · exact (held r).trans (holds r ne ne')
    · have bytes : (s.selectSlot i (sourceOf p)).productBytes = u8 1 ++ u8 i.val ++ u8 0 ++ u8 0 ++ u8 0 := by
        rw [productBytes_eq active, after.2.2.1]; rfl
      rw [bytes]
      exact respond_answers _ p .select seq .ok _
    · exact (((writeSelection_frame s i _).within rfl).andThen frame rfl).andThen (respond_frame _ _ _ _ _ _) rfl
  case clears =>
    have state := activeSlot_state s active
    obtain ⟨recipes, same, frame⟩ := selectSlot_of_write s (writeSelection_active s (sourceOf p) state)
    refine ⟨_, answers (.inr state), recipes, selectSlot_schedule s i _, ?_, frame.andThen (respond_frame _ _ _ _ _ _) rfl⟩
    have bytes : (s.selectSlot i (sourceOf p)).productBytes = u8 1 ++ u8 i.val ++ u8 0 ++ u8 0 ++ u8 0 := by
      rw [productBytes_eq (same.trans active), recipes]; rfl
    rw [bytes]
    exact respond_answers _ p .select seq .ok _
  case told =>
    have tells : Tells [.scheduleSuspended] (s.writeSelection i (sourceOf p))
        ((s.selectSlot i (sourceOf p)).respond p 14 seq .ok (s.selectSlot i (sourceOf p)).productBytes) :=
      suspended.trans (respond_tells _ _ _ _ _ _ _)
    refine ⟨_, answers inUse, ?_, ?_, fun active => ?_⟩
    · rw [tells.untold .slicer (by decide), writeSelection_superseded s _ .slicer inUse]
      simp only [superseded_slicer port, and_left_comm (b := p = .office), exists_and_left]
    · rw [tells.untold .office (by decide), writeSelection_superseded s _ .office inUse]
      simp only [superseded_office port, and_left_comm (b := p = .slicer), exists_and_left]
    · refine (suspendSchedule_noticed _ ?_).respond _ _ _ _ _
      rw [writeSelection_frame s i _ .schedule (by decide)]; exact active
  case refused => exact ⟨s.productBytes, next_answer s seq permitted (selectReply_slotState s _ idle)⟩
  case outOfRange => exact ⟨s.productBytes, next_answer s seq permitted (by rw [selectReply, slotIndex?_none large])⟩

end Sys2Proof.Machine
end

section
/-! SUPPORT. The entries of the schedule, the fill of an entry and its close, and the Run Schedule's requests. -/

namespace Sys2Proof.Machine

variable (s : State)

/-! ## Entries by their ids (R89) -/

section
variable {s : State} {es : List Entry} {e x y : Entry}

theorem entry_eq_of_id (ids : (es.map Entry.id).Nodup) (hx : x ∈ es) (hy : y ∈ es) (same : x.id = y.id) : x = y :=
  List.inj_on_of_nodup_map ids hx hy same

theorem entry?_mem {id : Nat} (h : s.entry? id = some e) : e ∈ s.schedule.entries ∧ e.id = id :=
  ⟨List.mem_of_find?_eq_some h, by simpa using List.find?_some h⟩

theorem entry?_eq_none_iff {id : Nat} : s.entry? id = none ↔ ∀ e ∈ s.schedule.entries, e.id ≠ id := by
  simp [State.entry?]

theorem entry?_of_mem (ids : (s.schedule.entries.map Entry.id).Nodup) (mem : e ∈ s.schedule.entries) : s.entry? e.id = some e := by
  cases found : s.entry? e.id with
  | none => exact absurd rfl (entry?_eq_none_iff.mp found e mem)
  | some x =>
    obtain ⟨here, same⟩ := entry?_mem found
    rw [entry_eq_of_id ids here mem same]

/-- Where ids are distinct, a change of the entry that holds an id is a change of that entry. -/
theorem map_entry_eq (ids : (es.map Entry.id).Nodup) (mem : e ∈ es) (f g : Entry → Entry) :
    (es.map fun y => if y.id = e.id then f y else g y) = es.map fun y => if y.id = e.id then f e else g y := by
  refine List.map_congr_left fun y hy => ?_
  split
  · next same => rw [entry_eq_of_id ids hy mem same]
  · rfl

end

theorem entry?_updateEntry (id k : Nat) (f : Entry → Entry) (same : ∀ x, (f x).id = x.id) :
    (s.updateEntry id f).entry? k = (s.entry? k).map fun e => if e.id = id then f e else e := by
  show (s.schedule.entries.map fun e => if e.id = id then f e else e).find? _ = _
  rw [List.find?_map]
  refine congrArg (Option.map _) (List.find?_congr fun x _ => ?_)
  by_cases h : x.id = id <;> simp [h, same]

theorem entry?_updateEntry_self {id : Nat} {f : Entry → Entry} {e : Entry} (same : ∀ x, (f x).id = x.id) (found : s.entry? id = some e) :
    (s.updateEntry id f).entry? id = some (f e) := by
  rw [entry?_updateEntry s id id f same, found]
  simp [(entry?_mem found).2]

theorem firstPending_mem {s : State} {n : Entry} (h : s.firstPending = some n) : n ∈ s.schedule.entries ∧ n.state = .pending :=
  ⟨List.mem_of_find?_eq_some h, by simpa using List.find?_some h⟩

theorem activeEntry_mem {s : State} {e : Entry} (h : s.activeEntry = some e) : e ∈ s.schedule.entries ∧ e.state = .active :=
  ⟨List.mem_of_find?_eq_some h, by simpa using List.find?_some h⟩

/-- A change of an entry that is not PENDING and does not become so leaves the first PENDING one. -/
theorem firstPending_updateEntry {id : Nat} {f : Entry → Entry}
    (apart : ∀ x ∈ s.schedule.entries, x.id = id → x.state ≠ .pending ∧ (f x).state ≠ .pending) :
    (s.updateEntry id f).firstPending = s.firstPending := by
  show (s.schedule.entries.map fun e => if e.id = id then f e else e).find? _ = _
  have found : (s.schedule.entries.find? ((fun e => decide (e.state = .pending)) ∘ fun e => if e.id = id then f e else e)) =
      s.firstPending := by
    refine List.find?_congr fun x hx => ?_
    by_cases h : x.id = id
    · obtain ⟨before, after⟩ := apart x hx h
      simp [h, before, after]
    · simp [h]
  rw [List.find?_map, found]
  cases first : s.firstPending with
  | none => rfl
  | some n =>
    obtain ⟨mem, pending⟩ := firstPending_mem first
    have other : n.id ≠ id := fun h => (apart n mem h).1 pending
    simp [other]

/-! ## A write of the schedule's (R37) -/

theorem writeSelection_idle {i : Fin 16} (w : Source) (h : (s.slot i).state = .empty ∨ (s.slot i).state = .retiring) :
    s.writeSelection i w = s := by
  obtain h | h := h <;> rw [State.writeSelection, h]

/-- A write reaches no reason but NO_PRODUCT and BLADE_MISMATCH. -/
theorem writeSelection_held (i : Fin 16) (w : Source) {r : HoldReason} (ne : r ≠ .noProduct) (ne' : r ≠ .bladeMismatch) :
    (s.writeSelection i w).held r = s.held r := by
  have told : (s.notifyDisplaced w).held r = s.held r := (notifyDisplaced_frame s w).held (by decide) r
  cases state : (s.slot i).state with
  | empty => rw [writeSelection_idle s w (.inl state)]
  | retiring => rw [writeSelection_idle s w (.inr state)]
  | active => rw [writeSelection_active s w state, (setSelection_frame _ _).held (by decide), told]
  | loaded =>
    by_cases none : s.activeSlot = none
    · obtain ⟨-, -, -, held⟩ := writeSelection_changedOver s w state none
      exact held r ne ne'
    · rw [writeSelection_pending s w state none, (setSelection_frame _ _).held (by decide), told]

theorem writeSelection_tells (i : Fin 16) (w : Source) :
    Tells [.changeoverTaken, .selectSuperseded, .holdChanged] s (s.writeSelection i w) := by
  have told := (notifyDisplaced_tells s w).within (ls := [.changeoverTaken, .selectSuperseded, .holdChanged]) (by decide)
  cases state : (s.slot i).state with
  | empty => rw [writeSelection_idle s w (.inl state)]; exact .refl _ s
  | retiring => rw [writeSelection_idle s w (.inr state)]; exact .refl _ s
  | active => rw [writeSelection_active s w state]; exact told.trans ((setSelection_frame _ _).tells (by decide))
  | loaded =>
    by_cases none : s.activeSlot = none
    · rw [writeSelection_taken s w state none]; exact told.trans ((changeover_tells _ i).within (by decide))
    · rw [writeSelection_pending s w state none]; exact told.trans ((setSelection_frame _ _).tells (by decide))

theorem Source.displaced_by_schedule (x : Selection) (source : Source) (p : Port) (own : source.port = some p) :
    (x.source ≠ .schedule ∧ x.source.port = some p) ↔ x.source = source := by
  cases source <;> cases own <;> cases x.source <;> simp [Source.port]

theorem writeSelection_wrote (i : Fin 16) : ScheduleWrote s (s.writeSelection i .schedule) i := by
  have told : ∀ source p, Source.port source = some p → (s.slot i).state = .loaded ∨ (s.slot i).state = .active →
      (Noticed (s.writeSelection i .schedule) p .selectSuperseded ↔
        Noticed s p .selectSuperseded ∨ ∃ x, s.recipes.selection = some x ∧ x.source = source) := by
    intro source p own inUse
    rw [writeSelection_superseded s _ p inUse]
    simp only [Source.displaced_by_schedule _ source p own]
  refine ⟨fun active => ?_, fun loaded present => ?_, fun loaded none => ?_, fun inUse =>
    ⟨told .slicer _ rfl inUse, told .office _ rfl inUse⟩⟩
  · rw [writeSelection_active s _ active]
    show { (s.notifyDisplaced .schedule).recipes with selection := none } = _
    rw [notifyDisplaced_recipes]
  · rw [writeSelection_pending s _ loaded present]
    show { (s.notifyDisplaced .schedule).recipes with selection := some ⟨i, .schedule⟩ } = _
    rw [notifyDisplaced_recipes]
  · obtain ⟨changed, others, pitch, -⟩ := writeSelection_changedOver s .schedule loaded none
    exact ⟨changed, others, pitch⟩

section
variable {s t u : State} {i : Fin 16} {ks : List NoticeKind}

/-- What comes before a write and reaches neither the recipe table nor the flags of a displaced selection. -/
theorem ScheduleWrote.of_before (recipes : u.recipes = s.recipes) (flags : Tells ks s u) (untold : .selectSuperseded ∉ ks)
    (h : ScheduleWrote u t i) : ScheduleWrote s t i := by
  have slot : ∀ j, u.slot j = s.slot j := fun j => by rw [State.slot, recipes]; rfl
  have active : u.activeSlot = s.activeSlot := activeSlot_of_recipes (by rw [recipes])
  obtain ⟨clears, pends, changes, told⟩ := h
  rw [slot, recipes] at clears pends
  rw [slot] at changes told
  rw [active] at pends changes
  rw [flags.untold _ untold, flags.untold _ untold, recipes] at told
  refine ⟨clears, pends, fun loaded none => ?_, told⟩
  obtain ⟨changed, others, pitch⟩ := changes loaded none
  exact ⟨changed.of_recipes recipes, fun j ne => (others j ne).trans (slot j), pitch.trans (by rw [recipes])⟩

/-- What comes after a write and reaches neither the recipe table, nor those flags, nor the two reasons. -/
theorem ScheduleWrote.after (h : ScheduleWrote s t i) (recipes : u.recipes = t.recipes) (flags : Tells ks t u)
    (untold : .selectSuperseded ∉ ks) (noProduct : u.held .noProduct = t.held .noProduct)
    (blade : u.held .bladeMismatch = t.held .bladeMismatch) : ScheduleWrote s u i := by
  have slot : ∀ j, u.slot j = t.slot j := fun j => by rw [State.slot, recipes]; rfl
  obtain ⟨clears, pends, changes, told⟩ := h
  refine ⟨fun active => recipes.trans (clears active), fun loaded present => recipes.trans (pends loaded present), fun loaded none => ?_,
    fun inUse => ?_⟩
  · obtain ⟨changed, others, pitch⟩ := changes loaded none
    exact ⟨changed.after (by rw [slot]) (by rw [slot]) (by rw [recipes]) flags noProduct blade, fun j ne => (slot j).trans (others j ne),
      by rw [recipes]; exact pitch⟩
  · rw [flags.untold _ untold, flags.untold _ untold]
    exact told inUse

end

/-! ## The entry that becomes ACTIVE next (R100) -/

/-- The entries once the first PENDING one has become ACTIVE. -/
def State.activated (s : State) : List Entry :=
  s.schedule.entries.map fun y => if some y.id = s.firstPending.map Entry.id then { y with state := .active } else y

theorem activated_of_none (h : s.firstPending = none) : s.activated = s.schedule.entries := by
  simp [State.activated, h]

theorem activateNext_none {stop : Bool} (h : s.firstPending = none) :
    s.activateNext stop = if stop then (s.setScheduleState .idle).placeHold .scheduleStop else s.setScheduleState .idle := by
  rw [State.activateNext, h]

theorem activateNext_stop {n : Entry} (h : s.firstPending = some n) :
    s.activateNext true = ((s.setSchedule { s.schedule with entries := s.activated }).placeHold .scheduleStop).suspendSchedule := by
  have entries : s.updateEntry n.id (fun e => { e with state := .active }) = s.setSchedule { s.schedule with entries := s.activated } := by
    simp [State.updateEntry, State.activated, h]
  rw [State.activateNext, h]
  simp only [entries, if_true]

theorem activateNext_some {n : Entry} (h : s.firstPending = some n) :
    s.activateNext false =
      if s.schedule.state = .active then (s.setSchedule { s.schedule with entries := s.activated }).writeSelection n.slot .schedule
      else s.setSchedule { s.schedule with entries := s.activated } := by
  have entries : s.updateEntry n.id (fun e => { e with state := .active }) = s.setSchedule { s.schedule with entries := s.activated } := by
    simp [State.updateEntry, State.activated, h]
  rw [State.activateNext, h]
  simp only [entries, Bool.false_eq_true, if_false]
  rfl

theorem activateNext_schedule (stop : Bool) :
    (s.activateNext stop).schedule =
      { s.schedule with
        entries := s.activated
        state := if s.firstPending = none then .idle
          else if stop = true ∧ s.schedule.state = .active then .suspended else s.schedule.state } := by
  cases first : s.firstPending with
  | none =>
    rw [activateNext_none s first, activated_of_none s first]
    cases stop with
    | false => rfl
    | true => exact placeHold_frame _ _ .schedule (by decide)
  | some n =>
    cases stop with
    | true =>
      rw [activateNext_stop s first, suspendSchedule_schedule, placeHold_frame _ _ .schedule (by decide)]
      by_cases active : s.schedule.state = .active <;> simp [active]
    | false =>
      rw [activateNext_some s first]
      split
      · rw [writeSelection_frame _ _ _ .schedule (by decide)]
        simp
      · simp

theorem activateNext_held_stop (r : HoldReason) : (s.activateNext true).held r = (decide (.scheduleStop = r) || s.held r) := by
  cases first : s.firstPending with
  | none => rw [activateNext_none s first]; exact held_placeHold _ _ r
  | some n =>
    rw [activateNext_stop s first, (suspendSchedule_frame _).held (by decide)]
    exact held_placeHold _ _ r

theorem activateNext_held {r : HoldReason} (ne : r ≠ .noProduct) (ne' : r ≠ .bladeMismatch) : (s.activateNext false).held r = s.held r := by
  cases first : s.firstPending with
  | none => rw [activateNext_none s first]; rfl
  | some n =>
    rw [activateNext_some s first]
    split
    · exact writeSelection_held _ _ _ ne ne'
    · rfl

theorem activateNext_recipes {stop : Bool} (h : stop = true ∨ s.firstPending = none ∨ s.schedule.state ≠ .active) :
    (s.activateNext stop).recipes = s.recipes := by
  cases first : s.firstPending with
  | none =>
    rw [activateNext_none s first]
    split
    · exact placeHold_frame _ _ .recipes (by decide)
    · rfl
  | some n =>
    cases stop with
    | true =>
      rw [activateNext_stop s first, suspendSchedule_frame _ .recipes (by decide)]
      exact placeHold_frame _ _ .recipes (by decide)
    | false =>
      have rests : s.schedule.state ≠ .active := by simpa [first] using h
      rw [activateNext_some s first, if_neg rests]
      rfl

theorem activateNext_wrote {n : Entry} (h : s.firstPending = some n) (active : s.schedule.state = .active) :
    ScheduleWrote s (s.activateNext false) n.slot := by
  rw [activateNext_some s h, if_pos active]
  let u := s.setSchedule { s.schedule with entries := s.activated }
  have flags : Tells [] s u := (setSchedule_frame s _).tells (by decide)
  exact (writeSelection_wrote u n.slot).of_before rfl flags (by decide)

theorem activateNext_tells (stop : Bool) :
    Tells [.changeoverTaken, .selectSuperseded, .holdChanged, .scheduleSuspended] s (s.activateNext stop) := by
  have entries : ∀ x, Tells [.changeoverTaken, .selectSuperseded, .holdChanged, .scheduleSuspended] s (s.setSchedule x) :=
    fun x => (setSchedule_frame s x).tells (by decide)
  have idle := entries { s.schedule with state := .idle }
  cases first : s.firstPending with
  | none =>
    rw [activateNext_none s first]
    exact .ite (idle.trans ((placeHold_tells _ _).within (by decide))) idle
  | some n =>
    cases stop with
    | true =>
      rw [activateNext_stop s first]
      exact ((entries _).trans ((placeHold_tells _ _).within (by decide))).trans ((suspendSchedule_tells _).within (by decide))
    | false =>
      rw [activateNext_some s first]
      exact .ite ((entries _).trans ((writeSelection_tells _ _ _).within (by decide))) (entries _)

theorem activateNext_suspends {n : Entry} (h : s.firstPending = some n) (active : s.schedule.state = .active) :
    Noticed (s.activateNext true) .office .scheduleSuspended := by
  rw [activateNext_stop s h]
  refine suspendSchedule_noticed _ ?_
  rw [placeHold_frame _ _ .schedule (by decide)]
  exact active

/-! ## The close of an entry (R105) -/

/-- An entry closed if it is FILLED and no record carries its id. -/
def Entry.closed (e : Entry) : Entry := if e.state = .filled ∧ e.carried = 0 then { e with state := .closed } else e

theorem closeEntry_of_done {id : Nat} {e : Entry} (found : s.entry? id = some e) (done : e.state = .filled ∧ e.carried = 0) :
    s.closeEntry id = (s.updateEntry id fun e => { e with state := .closed }).notify .office .entryClosed := by
  rw [State.closeEntry, found]
  exact if_pos done

theorem closeEntry_of_not_done {id : Nat} {e : Entry} (found : s.entry? id = some e) (open' : ¬(e.state = .filled ∧ e.carried = 0)) :
    s.closeEntry id = s := by
  rw [State.closeEntry, found]
  exact if_neg open'

theorem closeEntry_schedule {e : Entry} (ids : (s.schedule.entries.map Entry.id).Nodup) (mem : e ∈ s.schedule.entries) :
    (s.closeEntry e.id).schedule =
      { s.schedule with entries := s.schedule.entries.map fun y => if y.id = e.id then e.closed else y } := by
  have found := entry?_of_mem ids mem
  by_cases done : e.state = .filled ∧ e.carried = 0
  · rw [closeEntry_of_done s found done, Entry.closed, if_pos done]
    rw [← map_entry_eq ids mem (fun y => { y with state := .closed }) fun y => y]
    rfl
  · rw [closeEntry_of_not_done s found done, Entry.closed, if_neg done]
    have same := map_entry_eq ids mem (fun y => y) fun y => y
    simp only [ite_self, List.map_id'] at same
    rw [← same]

theorem closeEntry_tells (id : Nat) : Tells [.entryClosed] s (s.closeEntry id) := by
  unfold State.closeEntry
  split
  · exact .ite (((updateEntry_frame s _ _).tells (by decide)).trans (notify_tells _ (p := .office) rfl)) (.refl _ s)
  · exact .refl _ s

theorem closeEntry_noticed {id : Nat} {e : Entry} (found : s.entry? id = some e) (done : e.state = .filled ∧ e.carried = 0) :
    Noticed (s.closeEntry id) .office .entryClosed := by
  rw [closeEntry_of_done s found done]
  exact noticed_notify_self _ rfl

/-! ## SCHEDULE_APPEND (R92) -/

/-- A start that is free is taken. -/
theorem firstFree_of_free (used : List Nat) (fuel t : Nat) (free : t ∉ used) : firstFree used (fuel + 1) t = t := by
  rw [firstFree, if_neg (by simpa using free)]

theorem yesNo?_ite (b : Bool) : yesNo? (if b then 1 else 0) = some b := by cases b <;> rfl

theorem scheduleAppendReply_of_slot (i : Fin 16) (target gap : Nat) (stop : Bool) :
    scheduleAppendReply i.val target gap (if stop then 1 else 0) s =
      if target < 1 ∨ 65535 < target ∨ 60000 < gap then appendRefused .outOfRange s
      else if scheduleCapacity ≤ s.schedule.entries.length then appendRefused .listFull s
      else if !(s.slot i).state.inUse then appendRefused .slotState s
      else
        { state := s.takeAppend i target gap stop, result := .ok
          body := u8 s.nextEntryId ++ u8 (s.takeAppend i target gap stop).schedule.entries.length } := by
  rw [scheduleAppendReply, slotIndex?_val, yesNo?_ite]

theorem scheduleAppendReply_outOfRange {slot target gap : Nat} (stop : Nat)
    (out : 15 < slot ∨ target = 0 ∨ 65535 < target ∨ 60000 < gap) :
    scheduleAppendReply slot target gap stop s = appendRefused .outOfRange s := by
  unfold scheduleAppendReply
  split
  · next i x found _ =>
    have small : ¬ 15 < slot := fun large => by rw [slotIndex?_none large] at found; cases found
    exact if_pos (by omega)
  · rfl

/-- Settles O34: the refusals in the table's order, and the entry that joins the tail. -/
theorem appendAddsAPendingEntry : Obligations.AppendAddsAPendingEntry := by
  refine ⟨fun s seq slot target gap stop out => next_answer s seq rfl (scheduleAppendReply_outOfRange s stop out),
    fun s seq i target gap stop low high short => ⟨fun full => ?_, fun room idle => ?_⟩,
    fun s seq i target gap stop low high short room inUse first last => ?_⟩
  · exact next_answer s seq rfl ((scheduleAppendReply_of_slot s i target gap stop).trans
      ((if_neg (by omega)).trans (if_pos (by unfold scheduleCapacity; omega))))
  · refine next_answer s seq rfl ((scheduleAppendReply_of_slot s i target gap stop).trans
      ((if_neg (by omega)).trans ((if_neg (by unfold scheduleCapacity; omega)).trans (if_pos ?_))))
    obtain idle | idle := idle <;> simp [idle, SlotState.inUse]
  · have reply := (scheduleAppendReply_of_slot s i target gap stop).trans
      ((if_neg (by omega)).trans ((if_neg (by unfold scheduleCapacity; omega)).trans (if_neg (by simp [(inUse_iff _).mpr inUse]))))
    have fresh : s.nextEntryId ∉ s.schedule.entries.map Entry.id :=
      firstFree_free _ _ ⟨first, last⟩ (by simp only [List.length_map]; omega)
    obtain ⟨least, most⟩ : 1 ≤ s.nextEntryId ∧ s.nextEntryId ≤ 255 := firstFree_range _ _ _ ⟨first, last⟩
    refine ⟨_, s.nextEntryId, next_answer s seq rfl reply, fun e mem same => fresh (same ▸ List.mem_map_of_mem mem), least, most,
      fun free => ?_, rfl, ?_, ?_⟩
    · exact firstFree_of_free _ 254 _ free
    · have length : (s.takeAppend i target gap stop).schedule.entries.length = s.schedule.entries.length + 1 := by
        simp [State.takeAppend, State.appendEntry]
      rw [length]
      exact respond_answers _ .office .scheduleAppend seq .ok _
    · exact ((setSchedule_frame s _).within rfl).andThen (respond_frame _ _ _ _ _ _) rfl

/-! ## SCHEDULE_START and SCHEDULE_RESUME (R93, R94) -/

theorem takeStart_pending {e : Entry} (idle : s.schedule.state = .idle) (first : s.firstPending = some e) :
    s.takeStart = (s.startSchedule e, .ok) := by
  rw [State.takeStart, idle, first]

theorem startSchedule_schedule (e : Entry) :
    (s.startSchedule e).schedule =
      { s.schedule with
        state := .active
        entries := s.schedule.entries.map fun x => if x.id = e.id then { x with state := .active } else x } := by
  unfold State.startSchedule
  rw [writeSelection_frame _ _ _ .schedule (by decide), releaseHold_frame _ _ .schedule (by decide)]
  rfl

/-- SCHEDULE_STOP is released, and the slot written. -/
theorem released_then_written {t : State} (i : Fin 16) (recipes : t.recipes = s.recipes) (flags : Tells [] s t) :
    ((t.releaseHold .scheduleStop).writeSelection i .schedule).held .scheduleStop = false
      ∧ ScheduleWrote s ((t.releaseHold .scheduleStop).writeSelection i .schedule) i := by
  have released : (t.releaseHold .scheduleStop).recipes = t.recipes := releaseHold_frame _ _ .recipes (by decide)
  refine ⟨?_, (writeSelection_wrote _ i).of_before (released.trans recipes) ((flags.within (by decide)).trans (releaseHold_tells t _))
    (by decide)⟩
  rw [writeSelection_held _ _ _ (by decide) (by decide), held_releaseHold]
  rfl

theorem scheduleStartReply_of_takeStart {t : State} {result : ResultCode} (h : s.takeStart = (t, result)) :
    scheduleStartReply s = { state := t, result := result, body := u8 t.schedule.state.code ++ t.activeIdBytes } := by
  rw [scheduleStartReply, h]

theorem takeResume_suspended {e : Entry} (suspended : s.schedule.state = .suspended) (active : s.activeEntry = some e) :
    s.takeResume = ((s.setScheduleState .active).releaseHold .scheduleStop).writeSelection e.slot .schedule := by
  have entries : ((s.setScheduleState .active).releaseHold .scheduleStop).activeEntry = s.activeEntry := by
    unfold State.activeEntry
    rw [releaseHold_frame _ _ .schedule (by decide)]
    rfl
  rw [State.takeResume, suspended]
  simp only [State.resumeSuspended, entries, active]

/-- Settles O35: the two requests by the schedule state. -/
theorem startAndResumeFollowTheState : Obligations.StartAndResumeFollowTheState := by
  refine ⟨fun s seq => ⟨fun e idle first => ?_, fun idle none => ?_, fun active => ?_, fun suspended => ?_⟩,
    fun s seq => ⟨fun e suspended active => ?_, fun idle => ?_, fun active => ?_⟩⟩
  · have reply := scheduleStartReply_of_takeStart s (takeStart_pending s idle first)
    obtain ⟨released, wrote⟩ := released_then_written s
      (t := (s.updateEntry e.id fun x => { x with state := .active }).setScheduleState .active)
      e.slot rfl (OnlyTouches.tells (ps := [.schedule]) ((updateEntry_frame s _ _).trans (setScheduleState_frame _ _)) (by decide))
    refine ⟨_, next_answer s seq rfl reply, startSchedule_schedule s e, released,
      wrote.after rfl (respond_tells _ [] _ _ _ _ _) (by decide) rfl rfl, ?_, ?_⟩
    · rw [show (s.startSchedule e).schedule.state = .active by rw [startSchedule_schedule]]
      exact respond_answers _ .office .scheduleStart seq .ok _
    · exact (((((updateEntry_frame s _ _).within rfl).andThen (setScheduleState_frame _ _) rfl).andThen (releaseHold_frame _ _) rfl).andThen
        (writeSelection_frame _ _ _) rfl).andThen (respond_frame _ _ _ _ _ _) rfl
  · have reply := scheduleStartReply_of_takeStart s (t := s) (result := .scheduleState) (by rw [State.takeStart, idle, none])
    rw [idle] at reply
    exact next_answer s seq rfl reply
  · have reply := scheduleStartReply_of_takeStart s (t := s) (result := .ok) (by rw [State.takeStart, active])
    rw [active] at reply
    exact next_answer s seq rfl reply
  · have reply := scheduleStartReply_of_takeStart s (t := s) (result := .scheduleState) (by rw [State.takeStart, suspended])
    rw [suspended] at reply
    exact next_answer s seq rfl reply
  · have resumed := takeResume_suspended s suspended active
    have schedule : s.takeResume.schedule = { s.schedule with state := .active } := by
      rw [resumed, writeSelection_frame _ _ _ .schedule (by decide), releaseHold_frame _ _ .schedule (by decide)]; rfl
    obtain ⟨released, wrote⟩ := released_then_written s (t := s.setScheduleState .active) e.slot rfl
      ((setScheduleState_frame s _).tells (by decide))
    rw [← resumed] at released wrote
    refine ⟨_, next_answer s seq (k := .scheduleResume) rfl rfl, schedule, released, wrote.after rfl (respond_tells _ [] _ _ _ _ _)
      (by decide) rfl rfl, ?_, ?_⟩
    · have id : s.takeResume.activeIdBytes = u8 1 ++ u8 e.id := by
        unfold State.activeIdBytes State.activeEntry
        rw [schedule]
        exact congrArg (fun x : Option Entry => optional 1 (x.map fun e => u8 e.id)) active
      rw [id, released, show s.takeResume.schedule.state = .active by rw [schedule]]
      exact respond_answers _ .office .scheduleResume seq .ok _
    · rw [resumed]
      exact ((((setScheduleState_frame s _).within rfl).andThen (releaseHold_frame _ _) rfl).andThen
        (writeSelection_frame _ _ _) rfl).andThen (respond_frame _ _ _ _ _ _) rfl
  · have resumed : s.takeResume = s.releaseHold .scheduleStop := by rw [State.takeResume, idle]
    have released : s.takeResume.held .scheduleStop = false := by rw [resumed, held_releaseHold]; rfl
    have schedule : s.takeResume.schedule = s.schedule := by rw [resumed]; exact releaseHold_frame _ _ .schedule (by decide)
    refine ⟨_, next_answer s seq (k := .scheduleResume) rfl rfl, released, fun r ne => ?_, ?_, ?_⟩
    · show s.takeResume.held r = _
      rw [resumed, held_releaseHold]; simp [ne.symm]
    · have id : s.takeResume.activeIdBytes = optional 1 (s.activeEntry.map fun e => u8 e.id) := by
        unfold State.activeIdBytes State.activeEntry
        rw [schedule]
      rw [id, released, schedule, idle]
      exact respond_answers _ .office .scheduleResume seq .ok _
    · rw [resumed]
      exact (releaseHold_frame s _).andThen (respond_frame _ _ _ _ _ _) rfl
  · have same : s.takeResume = s := by rw [State.takeResume, active]
    refine next_answer s seq rfl (r := scheduleResumeReply s) ?_
    rw [scheduleResumeReply, same, active]
    rfl

end Sys2Proof.Machine
end

section
/-! SUPPORT. The fill of an entry as it ends in the list, and SCHEDULE_CANCEL, SCHEDULE_REAP and SCHEDULE_READ. -/

namespace Sys2Proof.Machine

variable (s : State)

/-! ## The fill of an entry (R100, R105) -/

theorem ids_map {es : List Entry} {g : Entry → Entry} (same : ∀ x, (g x).id = x.id) : (es.map g).map Entry.id = es.map Entry.id := by
  rw [List.map_map]
  exact List.map_congr_left fun x _ => same x

/-- An entry list in which one entry has filled and the next PENDING one has become ACTIVE. -/
def State.filledList (s : State) (e x : Entry) : List Entry :=
  s.schedule.entries.map fun y =>
    if y.id = e.id then x else if some y.id = s.firstPending.map Entry.id then { y with state := .active } else y

section
variable {s u : State} {e x : Entry}

theorem filledList_ids (same : x.id = e.id) : (s.filledList e x).map Entry.id = s.schedule.entries.map Entry.id := by
  refine ids_map fun y => ?_
  split
  · next h => rw [same, h]
  · split <;> rfl

theorem mem_filledList (x : Entry) (mem : e ∈ s.schedule.entries) : x ∈ s.filledList e x :=
  List.mem_map.mpr ⟨e, mem, if_pos rfl⟩

/-- The next PENDING entry is another than one that is ACTIVE. -/
theorem firstPending_ne (ids : (s.schedule.entries.map Entry.id).Nodup) (mem : e ∈ s.schedule.entries) (active : e.state = .active)
    {n : Entry} (first : s.firstPending = some n) : n.id ≠ e.id := by
  obtain ⟨here, pending⟩ := firstPending_mem first
  intro same
  rw [entry_eq_of_id ids here mem same, active] at pending
  cases pending

theorem firstPending_of_filled (ids : (s.schedule.entries.map Entry.id).Nodup) (mem : e ∈ s.schedule.entries)
    (active : e.state = .active) (filled : x.state = .filled)
    (entries : u.schedule.entries = s.schedule.entries.map fun y => if y.id = e.id then x else y) : u.firstPending = s.firstPending := by
  rw [← firstPending_updateEntry s (id := e.id) (f := fun _ => x)]
  · rw [State.firstPending, entries]; rfl
  · intro y hy same
    rw [entry_eq_of_id ids hy mem same, active, filled]
    exact ⟨nofun, nofun⟩

/-- The entries when the next one has become ACTIVE after the fill. -/
theorem activated_of_filled (ids : (s.schedule.entries.map Entry.id).Nodup) (mem : e ∈ s.schedule.entries)
    (active : e.state = .active) (same : x.id = e.id) (filled : x.state = .filled)
    (entries : u.schedule.entries = s.schedule.entries.map fun y => if y.id = e.id then x else y) : u.activated = s.filledList e x := by
  rw [State.activated, firstPending_of_filled ids mem active filled entries, entries, List.map_map]
  refine List.map_congr_left fun y hy => ?_
  by_cases h : y.id = e.id
  · have other : ¬ some e.id = s.firstPending.map Entry.id := by
      intro first
      obtain ⟨n, first, id⟩ := Option.map_eq_some_iff.mp first.symm
      exact firstPending_ne ids mem active first id
    simp only [Function.comp, h, same, if_true, if_neg other]
  · simp only [Function.comp, h, if_false]

theorem filledList_closed (same : x.id = e.id) :
    ((s.filledList e x).map fun y => if y.id = e.id then x.closed else y) = s.filledList e x.closed := by
  rw [State.filledList, List.map_map]
  refine List.map_congr_left fun y _ => ?_
  by_cases h : y.id = e.id
  · simp [h, same]
  · simp only [Function.comp, h, if_false]
    split <;> simp

/-- The schedule after the fill of an ACTIVE entry that became x. -/
theorem filled_schedule (stop : Bool) (ids : (s.schedule.entries.map Entry.id).Nodup) (mem : e ∈ s.schedule.entries)
    (active : e.state = .active) (same : x.id = e.id) (filled : x.state = .filled)
    (entries : u.schedule.entries = s.schedule.entries.map fun y => if y.id = e.id then x else y) :
    ((u.activateNext stop).closeEntry e.id).schedule =
        { u.schedule with
          entries := s.filledList e x.closed
          state := if s.firstPending = none then .idle
            else if stop = true ∧ u.schedule.state = .active then .suspended else u.schedule.state }
      ∧ (u.activateNext stop).entry? e.id = some x := by
  have schedule := activateNext_schedule u stop
  rw [activated_of_filled ids mem active same filled entries, firstPending_of_filled ids mem active filled entries] at schedule
  have list : (u.activateNext stop).schedule.entries = s.filledList e x := by rw [schedule]
  have ids' : ((u.activateNext stop).schedule.entries.map Entry.id).Nodup := by rw [list, filledList_ids same]; exact ids
  have mem' : x ∈ (u.activateNext stop).schedule.entries := by rw [list]; exact mem_filledList x mem
  have close := closeEntry_schedule _ ids' mem'
  have found := entry?_of_mem ids' mem'
  rw [same] at close found
  refine ⟨?_, found⟩
  rw [close, list, filledList_closed same, schedule]

/-- With no other entry ACTIVE, the one that has become so is the ACTIVE entry. -/
theorem activeEntry_filledList {t : State} (ids : (s.schedule.entries.map Entry.id).Nodup) (mem : e ∈ s.schedule.entries)
    (active : e.state = .active) (rests : x.state ≠ .active) (entries : t.schedule.entries = s.filledList e x)
    (only : ∀ y ∈ s.schedule.entries, y.state = .active → y.id = e.id) :
    t.activeEntry = s.firstPending.map fun n => { n with state := .active } := by
  have test : ∀ y ∈ s.schedule.entries,
      decide ((if y.id = e.id then x else if some y.id = s.firstPending.map Entry.id then { y with state := .active } else y).state
        = .active) = decide (some y.id = s.firstPending.map Entry.id) := by
    intro y hy
    by_cases h : y.id = e.id
    · have other : ¬ some e.id = s.firstPending.map Entry.id := by
        intro first
        obtain ⟨n, first, id⟩ := Option.map_eq_some_iff.mp first.symm
        exact firstPending_ne ids mem active first id
      simp [h, other, rests]
    · by_cases next : some y.id = s.firstPending.map Entry.id
      · simp [h, next]
      · have idle : y.state ≠ .active := fun hs => h (only y hy hs)
        simp [h, next, idle]
  rw [State.activeEntry, entries, State.filledList, List.find?_map]
  refine (congrArg (Option.map _) (List.find?_congr test)).trans ?_
  cases first : s.firstPending with
  | none => simp
  | some n =>
    have found : (s.schedule.entries.find? fun y => decide (some y.id = (some n).map Entry.id)) = some n := by
      simpa [State.entry?] using entry?_of_mem ids (firstPending_mem first).1
    rw [found]
    simp [firstPending_ne ids mem active first]

theorem activeEntry_ne_none {t : State} (h : ∃ y ∈ t.schedule.entries, y.state = .active) : t.activeEntry ≠ none := by
  obtain ⟨y, mem, active⟩ := h
  intro none
  simpa [active] using List.find?_eq_none.mp none y mem

end

/-! ## SCHEDULE_CANCEL (R95) -/

theorem isTag_of_range {n : Nat} (low : 1 ≤ n) (high : n ≤ 255) : isTag n = true := by simp [isTag, low, high]

theorem isTag_of_out {n : Nat} (out : n = 0 ∨ 255 < n) : isTag n = false := by
  simp only [isTag, decide_eq_false_iff_not]
  omega

theorem scheduleCancelReply_outOfRange {id : Nat} (out : id = 0 ∨ 255 < id) :
    scheduleCancelReply id s = { state := s, result := .outOfRange, body := s.scheduleStanding } := by
  simp [scheduleCancelReply, isTag_of_out out]

theorem scheduleCancelReply_notFound {id : Nat} (low : 1 ≤ id) (high : id ≤ 255) (absent : s.entry? id = none) :
    scheduleCancelReply id s = { state := s, result := .notFound, body := s.scheduleStanding } := by
  rw [scheduleCancelReply, isTag_of_range low high, absent]
  rfl

theorem scheduleCancelReply_entry {e : Entry} (low : 1 ≤ e.id) (high : e.id ≤ 255) (found : s.entry? e.id = some e) :
    scheduleCancelReply e.id s = scheduleCancelEntry e s := by
  rw [scheduleCancelReply, isTag_of_range low high, found]
  rfl

/-- An ACTIVE entry as a cancel leaves it. -/
def Entry.cancelled (e : Entry) : Entry := { e with target := e.admitted, state := .filled }

theorem cancelled_closed (e : Entry) :
    e.cancelled.closed = { e with target := e.admitted, state := if e.carried = 0 then .closed else .filled } := by
  by_cases h : e.carried = 0 <;> simp [Entry.closed, Entry.cancelled, h]

theorem cancelled_entries {e : Entry} (ids : (s.schedule.entries.map Entry.id).Nodup) (mem : e ∈ s.schedule.entries) :
    (s.updateEntry e.id fun x => { x with target := x.admitted, state := .filled }).schedule.entries =
      s.schedule.entries.map fun y => if y.id = e.id then e.cancelled else y :=
  map_entry_eq ids mem (fun x => { x with target := x.admitted, state := .filled }) fun y => y

/-- The entry under its position, as the list stands after a fill. -/
theorem cancelledView_eq {t : State} {e x : Entry} (ids : (s.schedule.entries.map Entry.id).Nodup) (mem : e ∈ s.schedule.entries)
    (same : x.id = e.id) (entries : t.schedule.entries = s.filledList e x) :
    t.cancelledView e.id = x.values (s.schedule.entries.findIdx fun y => decide (y.id = e.id)) := by
  have ids' : (t.schedule.entries.map Entry.id).Nodup := by rw [entries, filledList_ids same]; exact ids
  have found := entry?_of_mem ids' (by rw [entries]; exact mem_filledList x mem)
  have position : t.entryPosition e.id = s.schedule.entries.findIdx fun y => decide (y.id = e.id) := by
    rw [State.entryPosition, entries, State.filledList, List.findIdx_map]
    refine congrArg (fun p => s.schedule.entries.findIdx p) (funext fun y => ?_)
    by_cases h : y.id = e.id
    · simp [h, same]
    · simp only [Function.comp, h, if_false]
      split <;> simp [h]
  rw [State.cancelledView, ← same, found, same, position]
  rfl

/-- Settles O36: the refusals, the removal of a PENDING entry, and the fill of an ACTIVE one. -/
theorem cancelFollowsTheEntry : Obligations.CancelFollowsTheEntry := by
  refine ⟨fun s seq id => ⟨fun out => next_answer s seq rfl (scheduleCancelReply_outOfRange s out), fun low high absent => ?_⟩,
    fun s seq e low high found => ⟨fun pending => ?_, fun active ids => ?_, fun done => ?_⟩⟩
  · exact next_answer s seq rfl (scheduleCancelReply_notFound s low high (entry?_eq_none_iff.mpr absent))
  · exact next_answer s seq rfl ((scheduleCancelReply_entry s low high found).trans (by rw [scheduleCancelEntry, pending]; rfl))
  · obtain ⟨mem, -⟩ := entry?_mem found
    let u := s.updateEntry e.id fun x => { x with target := x.admitted, state := .filled }
    have entries : u.schedule.entries = s.schedule.entries.map fun y => if y.id = e.id then e.cancelled else y :=
      cancelled_entries s ids mem
    obtain ⟨schedule, found'⟩ := filled_schedule (x := e.cancelled) false ids mem active rfl rfl entries
    have first : u.firstPending = s.firstPending := firstPending_of_filled ids mem active rfl entries
    have before : Tells [] s u := (updateEntry_frame s _ _).tells (by decide)
    have list : (s.fillByCancel e).schedule.entries = s.filledList e e.cancelled.closed := congrArg RunSchedule.entries schedule
    have state : (s.fillByCancel e).schedule.state = if s.firstPending = none then .idle else s.schedule.state := by
      refine (congrArg RunSchedule.state schedule).trans ?_
      simp only [Bool.false_eq_true, false_and, if_false]
      rfl
    have close : OnlyTouches [.schedule, .ports] (u.activateNext false) (s.fillByCancel e) := closeEntry_frame _ _
    have held : ∀ r : HoldReason, r ≠ .noProduct → r ≠ .bladeMismatch → (s.fillByCancel e).held r = s.held r := fun r ne ne' =>
      (close.held (by decide) r).trans (activateNext_held u ne ne')
    have recipes : (s.fillByCancel e).recipes = (u.activateNext false).recipes := close .recipes (by decide)
    rw [cancelled_closed] at list
    refine ⟨_, next_answer s seq rfl ((scheduleCancelReply_entry s low high found).trans (by rw [scheduleCancelEntry, active])), list,
      fun none => ?_, fun some => ?_, 
      (congrArg RunSchedule.idCounter schedule :), (congrArg RunSchedule.gapRelease schedule :),
      held _ (by decide) (by decide), held _ (by decide) (by decide), fun none => ?_, fun only => ?_, fun n next => ⟨?_, ?_,
        fun runs => ?_⟩,
      ?_, fun rests => ?_, ?_⟩
    · exact (closeEntry_noticed _ found' ⟨rfl, none⟩).respond _ _ _ _ _
    · have stays : s.fillByCancel e = u.activateNext false := closeEntry_of_not_done _ found' fun done => some done.2
      have tells := (before.within (by decide)).trans (activateNext_tells u false)
      rw [stays]
      exact (tells.trans (respond_tells _ _ _ _ _ _ _)).untold .office (by decide)
    · exact state.trans (if_pos none)
    · refine activeEntry_filledList ids mem active ?_ list only
      dsimp only
      split <;> nofun
    · exact state.trans (if_neg (by simp [next]))
    · refine activeEntry_ne_none ⟨{ n with state := .active }, ?_, rfl⟩
      show _ ∈ (s.fillByCancel e).schedule.entries
      rw [list]
      refine List.mem_map.mpr ⟨n, (firstPending_mem next).1, ?_⟩
      rw [if_neg (firstPending_ne ids mem active next), if_pos (by rw [next]; rfl)]
    · have wrote := (activateNext_wrote u (first.trans next) runs).of_before rfl before (by decide)
      have after : ScheduleWrote s (s.fillByCancel e) n.slot :=
        wrote.after recipes (closeEntry_tells _ _) (by decide) (close.held (by decide) _) (close.held (by decide) _)
      exact after.after rfl (respond_tells _ [] _ _ _ _ _) (by decide) rfl rfl
    · rw [cancelledView_eq s (x := { e with target := e.admitted, state := if e.carried = 0 then .closed else .filled }) ids mem rfl list]
      exact respond_answers _ .office .scheduleCancel seq .ok _
    · exact recipes.trans (activateNext_recipes u (.inr (rests.imp_left first.trans)))
    · have frame : OnlyTouches [.schedule, .recipes, .line, .ports] s (s.fillByCancel e) := fillByCancel_frame s e
      exact frame.andThen (respond_frame _ _ _ _ _ _) rfl
  · have refused : scheduleCancelEntry e s = { state := s, result := .scheduleState, body := s.scheduleStanding } := by
      obtain done | done := done <;> rw [scheduleCancelEntry, done]
    exact next_answer s seq rfl ((scheduleCancelReply_entry s low high found).trans refused)

/-! ## SCHEDULE_REAP and SCHEDULE_READ (R96, R97) -/

theorem reaped_eq {entries closed rest : List Entry} (split : entries = closed ++ rest) (all : ∀ e ∈ closed, e.state = .closed)
    (head : ∀ e, rest.head? = some e → e.state ≠ .closed) : reaped entries = rest := by
  subst split
  rw [reaped, List.dropWhile_append_of_pos (by simpa using all)]
  cases rest with
  | nil => rfl
  | cons e es => exact List.dropWhile_cons_of_neg (by simpa using head e rfl)

theorem scheduleView_eq (position : Nat) (e : Entry) : s.scheduleView position e = s.scheduleValues position e := by
  have gap : optional 4 (s.schedule.gapRelease.map posBytes) =
      (match s.schedule.gapRelease with | some w => u8 1 ++ u32 w.toNat | none => [0, 0, 0, 0, 0]) := by
    cases s.schedule.gapRelease <;> rfl
  unfold State.scheduleView State.scheduleValues
  rw [gap]
  rfl

theorem scheduleReadReply_id_found {id : Nat} {e : Entry} (low : 1 ≤ id) (high : id ≤ 255) (found : s.entry? id = some e) :
    scheduleReadReply 0 id s = { state := s, result := .ok, body := s.scheduleValues (s.entryPosition id) e } := by
  rw [scheduleReadReply, scheduleReadId, isTag_of_range low high, found, ← scheduleView_eq]
  rfl

theorem scheduleReadReply_id_absent {id : Nat} (low : 1 ≤ id) (high : id ≤ 255) (absent : s.entry? id = none) :
    scheduleReadReply 0 id s = { state := s, result := .notFound, body := s.scheduleStanding } := by
  rw [scheduleReadReply, scheduleReadId, isTag_of_range low high, absent]
  rfl

theorem scheduleReadReply_position_found {n : Nat} {e : Entry} (range : n ≤ 11) (found : s.schedule.entries[n]? = some e) :
    scheduleReadReply 1 n s = { state := s, result := .ok, body := s.scheduleValues n e } := by
  rw [scheduleReadReply, scheduleReadPosition, if_neg (by omega), found, ← scheduleView_eq]

theorem scheduleReadReply_position_absent {n : Nat} (range : n ≤ 11) (short : s.schedule.entries.length ≤ n) :
    scheduleReadReply 1 n s = { state := s, result := .notFound, body := s.scheduleStanding } := by
  rw [scheduleReadReply, scheduleReadPosition, if_neg (by omega), List.getElem?_eq_none short]

/-- Settles O37: the CLOSED entries at the head, and the reads by position and by id. -/
theorem reapAndScheduleRead : Obligations.ReapAndScheduleRead := by
  intro s seq
  refine ⟨fun closed rest split all head => ?_, fun n e range found => ?_, ⟨fun n large => ?_, fun n range short => ?_, fun id out => ?_,
    fun id low high absent => ?_⟩, fun e low high found => ?_⟩
  · have left : reaped s.schedule.entries = rest := reaped_eq split all head
    refine next_answer s seq (k := .scheduleReap) rfl ?_
    have length : s.schedule.entries.length - rest.length = closed.length := by rw [split, List.length_append]; omega
    simp only [scheduleReapReply, State.reap, setSchedule_schedule, left, length]
  · exact next_answer s seq rfl (scheduleReadReply_position_found s range found)
  · exact next_answer s seq rfl (if_pos large)
  · exact next_answer s seq rfl (scheduleReadReply_position_absent s range short)
  · exact next_answer s seq rfl (if_pos (by simp [isTag_of_out out]))
  · exact next_answer s seq rfl (scheduleReadReply_id_absent s low high (entry?_eq_none_iff.mpr absent))
  · exact next_answer s seq rfl (scheduleReadReply_id_found s low high found)

end Sys2Proof.Machine
end

section
/-! SUPPORT. The Bag and Clip Unit: BAG_NEXT and BAG_RESULT, the print code, the date, colour and clip requests, and the ends of a tie. -/

namespace Sys2Proof.Machine

variable (s : State)

/-! ## BAG_NEXT and BAG_RESULT (R109, R112) -/

/-- The first of a list that passes a test. -/
theorem find?_of_split {α : Type} {p : α → Bool} {l before after : List α} {a : α} (split : l = before ++ a :: after)
    (here : p a = true) (none : ∀ x ∈ before, ¬ p x = true) : l.find? p = some a :=
  List.find?_eq_some_iff_append.mpr ⟨here, before, after, split, fun x hx => by simpa using none x hx⟩

theorem offered_iff (r : LoafRecord) :
    r.offered = true ↔ r.plan ≠ none ∧ (r.stage = .toSlicer ∨ r.stage = .toBag) ∧ r.fetched = false := by
  simp [LoafRecord.offered, Option.isSome_iff_ne_none, and_assoc]

theorem not_offered_iff (r : LoafRecord) :
    ¬ r.offered = true ↔ r.plan = none ∨ (r.stage ≠ .toSlicer ∧ r.stage ≠ .toBag) ∨ r.fetched = true := by
  rw [offered_iff]
  simp only [not_and_or, not_or, ne_eq, not_not, Bool.not_eq_false]

theorem bagNextReply_none (h : s.nextOffered = none) :
    bagNextReply s = { state := s, result := .notFound, body := u8 s.queue.records.length } := by
  rw [bagNextReply, h]; rfl

theorem bagNextReply_offered {r : LoafRecord} {pl : Plan} {q : Product} (h : s.nextOffered = some r) (plan : r.plan = some pl)
    (product : (s.slot r.slot).product = some q) :
    bagNextReply s = { state := s.markFetched r.tag, result := .ok, body := bagInstruction s.bag r pl q } := by
  have instruction : s.instruction r = some (bagInstruction s.bag r pl q) := by rw [State.instruction, plan, product]
  simp only [bagNextReply, h, instruction]

theorem takesResult_iff (x : Stage) : x.takesResult = true ↔ x = .bagging ∨ x = .tying ∨ x = .exiting := by cases x <;> decide

theorem bagResult?_ite (x : BagResult) : bagResult? (if x = .ok then 0 else 1) = some x := by cases x <;> rfl

theorem bagResult?_of_le {n : Nat} (h : n ≤ 1) : ∃ x, bagResult? n = some x := by
  interval_cases n
  · exact ⟨.ok, rfl⟩
  · exact ⟨.fail, rfl⟩

theorem bagResult?_none {n : Nat} (h : 1 < n) : bagResult? n = none := by
  unfold bagResult?
  split <;> first | rfl | omega

theorem bagResultReply_taken {tag n : Nat} {x : BagResult} (tagOk : isTag tag = true) (result : bagResult? n = some x) :
    bagResultReply tag n s = bagResultTag tag x s := by
  rw [bagResultReply, tagOk, result]

theorem bagResultReply_outOfRange {tag n : Nat} (out : isTag tag = false ∨ bagResult? n = none) :
    bagResultReply tag n s = { state := s, result := .outOfRange, body := u8 tag ++ optional 3 none } := by
  unfold bagResultReply
  split
  · next tagOk result => simp [tagOk, result] at out
  · rfl

theorem record?_tag {s : State} {tag : Nat} {r : LoafRecord} (h : s.record? tag = some r) : r.tag = tag := by
  simpa using List.find?_some h

/-- The record of a tag after a change that keeps the tags. -/
theorem record?_updateRecord (tag : Nat) (f : LoafRecord → LoafRecord) (same : ∀ x, (f x).tag = x.tag) :
    (s.updateRecord tag f).record? tag = (s.record? tag).map f := by
  show (s.queue.records.map fun r => if r.tag = tag then f r else r).find? _ = _
  rw [List.find?_map]
  have test : s.queue.records.find? ((fun r => decide (r.tag = tag)) ∘ fun r => if r.tag = tag then f r else r) = s.record? tag := by
    refine List.find?_congr fun x _ => ?_
    by_cases h : x.tag = tag <;> simp [h, same]
  rw [test]
  cases found : s.record? tag with
  | none => rfl
  | some r => simp [record?_tag found]

/-- Settles O39: the record offered, and a result by the tag, its record and the record's stage. -/
theorem bagNextAndBagResult : Obligations.BagNextAndBagResult := by
  refine ⟨fun s seq => ⟨fun before r after pl q split plan stage fresh product none => ?_, fun none => ?_⟩,
    fun s seq tag low high => ⟨fun r x found stage => ?_, fun r n range found notBagging notTying notExiting => ?_,
      fun n range absent => ?_,
      fun n large => ?_⟩, fun s seq tag n out => ?_⟩
  · have offered : s.nextOffered = some r :=
      find?_of_split split ((offered_iff r).mpr ⟨by simp [plan], stage, fresh⟩) fun x hx => (not_offered_iff x).mpr (none x hx)
    exact next_answer s seq rfl (bagNextReply_offered s offered plan product)
  · have absent : s.nextOffered = Option.none := List.find?_eq_none.mpr fun x hx => (not_offered_iff x).mpr (none x hx)
    exact next_answer s seq rfl (bagNextReply_none s absent)
  · have reply : bagResultTag tag x s = { state := s.setResult tag x, result := .ok, body := (s.setResult tag x).resultBytes tag } := by
      rw [bagResultTag, found]
      exact if_pos ((takesResult_iff _).mpr stage)
    have body : (s.setResult tag x).resultBytes tag = u8 tag ++ u8 1 ++ u8 r.stage.code ++ u8 1 ++ u8 x.code := by
      have written : (s.setResult tag x).record? tag = some { r with result := some x } := by
        exact (record?_updateRecord s tag (fun r => { r with result := some x }) fun _ => rfl).trans (by rw [found]; rfl)
      rw [State.resultBytes, written]; rfl
    rw [body] at reply
    exact ⟨_, next_answer s seq rfl ((bagResultReply_taken s (isTag_of_range low high) (bagResult?_ite x)).trans reply), rfl,
      respond_answers _ .bagger .bagResult seq .ok _, ((updateRecord_frame s _ _).within rfl).andThen (respond_frame _ _ _ _ _ _) rfl⟩
  · obtain ⟨x, result⟩ := bagResult?_of_le range
    refine ⟨s.resultBytes tag, next_answer s seq rfl ((bagResultReply_taken s (isTag_of_range low high) result).trans ?_)⟩
    rw [bagResultTag, found]
    exact if_neg fun takes => by simpa [notBagging, notTying, notExiting] using (takesResult_iff _).mp takes
  · obtain ⟨x, result⟩ := bagResult?_of_le range
    refine ⟨s.resultBytes tag, next_answer s seq rfl ((bagResultReply_taken s (isTag_of_range low high) result).trans ?_)⟩
    rw [bagResultTag, absent]
  · exact ⟨_, next_answer s seq rfl (bagResultReply_outOfRange s (.inr (bagResult?_none large)))⟩
  · exact ⟨_, next_answer s seq rfl (bagResultReply_outOfRange s (.inl (isTag_of_out out)))⟩

/-! ## The print code (R117) -/

theorem colour_eq (b : BagClipUnit) (w : Fin 7) : b.colour w.val = b.colours.get w := by
  have inList : w.val < b.colours.toList.length := by simp
  rw [BagClipUnit.colour, List.getD_eq_getElem _ _ inList, Vector.getElem_toList]
  rfl

/-- The word's three fields, where digit and colour are in range. -/
theorem printWord_fields {day digit colour : Nat} (hd : digit ≤ 9) (hc : colour ≤ 7) :
    printWord day digit colour / 128 = day ∧ printWord day digit colour / 8 % 16 = digit ∧ printWord day digit colour % 8 = colour := by
  unfold printWord
  omega

theorem bestBefore_range {day shelf : Nat} {leap : Bool} (low : 1 ≤ day) (high : day ≤ 366) (least : 1 ≤ shelf) (most : shelf ≤ 30) :
    1 ≤ (bestBefore day shelf leap).1 ∧ (bestBefore day shelf leap).1 ≤ 366 := by
  unfold bestBefore
  by_cases later : yearLength leap < day + shelf
  · rw [if_pos later]
    cases leap <;> simp only [yearLength, if_true, Bool.false_eq_true, if_false] at later ⊢ <;> omega
  · rw [if_neg later]
    cases leap <;> simp only [yearLength, if_true, Bool.false_eq_true, if_false] at later ⊢ <;> omega

theorem bestBeforeDigit_le {digit : Nat} (following : Bool) (h : digit ≤ 9) : bestBeforeDigit digit following ≤ 9 := by
  unfold bestBeforeDigit
  split <;> omega

/-- Settles O40: the word of a best-before day, digit and colour in range. -/
theorem printCodeFollowsR117 : Obligations.PrintCodeFollowsR117 := by
  intro b r shelf low high least most digits w weekday colours year day digit
  have best : bestBefore r.day shelf b.date.leap =
      if year < r.day + shelf then (r.day + shelf - year, true) else (r.day + shelf, false) := rfl
  have dayEq : (bestBefore r.day shelf b.date.leap).1 = day := by
    rw [best, apply_ite Prod.fst]
  have digitEq : bestBeforeDigit b.date.yearDigit (bestBefore r.day shelf b.date.leap).2 = digit := by
    rw [best, apply_ite Prod.snd, apply_ite (bestBeforeDigit b.date.yearDigit)]
    rfl
  have range := bestBefore_range (leap := b.date.leap) low high least most
  have digitRange := bestBeforeDigit_le (bestBefore r.day shelf b.date.leap).2 digits
  rw [dayEq] at range
  rw [digitEq] at digitRange
  have word : printCode b r shelf = printWord day digit (b.colours.get w) := by
    rw [printCode, dayEq, digitEq, weekday, colour_eq]
  obtain ⟨first, second, third⟩ := printWord_fields (day := day) digitRange colours
  rw [word]
  refine ⟨first, second, third, range.1, range.2, ?_⟩
  unfold printWord
  omega

/-! ## DATE_SET and COLOUR_TABLE (R114, R115, R116) -/

theorem date_inRange_iff (d : Date) :
    d.inRange = true ↔ (1 ≤ d.day ∧ d.day ≤ 366) ∧ d.yearDigit ≤ 9 ∧ d.weekday ≤ 6 ∧ (d.day ≤ 365 ∨ d.leap = true) := by
  simp [Date.inRange, and_assoc]

theorem dateSetReply_taken {day yearDigit weekday : Nat} {leap : Bool}
    (range : Date.inRange ⟨day, yearDigit, weekday, leap⟩ = true) :
    dateSetReply day yearDigit weekday (if leap then 1 else 0) s =
      { state := s.takeDate ⟨day, yearDigit, weekday, leap⟩, result := .ok
        body := (s.takeDate ⟨day, yearDigit, weekday, leap⟩).dateBytes } := by
  rw [dateSetReply, yesNo?_ite]
  exact if_pos range

theorem dateSetReply_outOfRange {day yearDigit weekday leap : Nat}
    (out : day = 0 ∨ 366 < day ∨ 9 < yearDigit ∨ 6 < weekday ∨ 1 < leap ∨ day = 366 ∧ leap = 0) :
    dateSetReply day yearDigit weekday leap s = { state := s, result := .outOfRange, body := s.dateBytes } := by
  unfold dateSetReply
  split
  · rfl
  · next l choice =>
    have named : leap = 0 ∧ l = false ∨ leap = 1 ∧ l = true := by
      unfold yesNo? at choice
      split at choice <;> cases choice
      · exact .inl ⟨rfl, rfl⟩
      · exact .inr ⟨rfl, rfl⟩
    refine if_neg fun range => ?_
    obtain ⟨⟨low, high⟩, digit, week, leapDay⟩ := (date_inRange_iff _).mp range
    dsimp only at low high digit week leapDay
    obtain ⟨rfl, rfl⟩ | ⟨rfl, rfl⟩ := named
    · simp only [Bool.false_eq_true, or_false] at leapDay
      omega
    · omega

theorem takeDate_bag (d : Date) : (s.takeDate d).bag = { s.bag with date := d, dateSet := true } := releaseHold_frame _ _ .bag (by decide)

theorem held_takeDate (d : Date) (r : HoldReason) : (s.takeDate d).held r = (!decide (.noDate = r) && s.held r) := held_releaseHold _ _ r

theorem dateBytes_takeDate (day digit weekday : Nat) (leap : Bool) :
    (s.takeDate ⟨day, digit, weekday, leap⟩).dateBytes =
      u16 day ++ u8 digit ++ u8 weekday ++ u8 (if leap then 1 else 0) ++ u8 1 ++ u8 0 := by
  rw [State.dateBytes, takeDate_bag, held_takeDate]
  rfl

theorem colourTableReply_taken {c : Vector Nat 7} (range : coloursInRange c = true) :
    colourTableReply c s = { state := s.setColours c, result := .ok, body := colourBytes c } := if_pos range

theorem colourTableReply_outOfRange {c : Vector Nat 7} (out : ¬ coloursInRange c = true) :
    colourTableReply c s = { state := s, result := .outOfRange, body := colourBytes s.bag.colours } := if_neg out

theorem coloursInRange_iff (c0 c1 c2 c3 c4 c5 c6 : Nat) :
    coloursInRange #v[c0, c1, c2, c3, c4, c5, c6] = true ↔
      c0 ≤ 7 ∧ c1 ≤ 7 ∧ c2 ≤ 7 ∧ c3 ≤ 7 ∧ c4 ≤ 7 ∧ c5 ≤ 7 ∧ c6 ≤ 7 := by
  simp [coloursInRange, Vector.toList]

/-! ## CLIP_RELOAD and CLIP_CONFIG (R118 to R120) -/

theorem tyerView_eq_values : s.tyerView = s.tyerValues := by
  have flight : optional 1 (s.bag.tieInFlight.map fun f => u8 f.tag) =
      (match s.bag.tieInFlight with | some f => u8 1 ++ u8 f.tag | none => [0, 0]) := by
    cases s.bag.tieInFlight <;> rfl
  have miss : optional 2 (s.bag.lastMiss.map missBytes) =
      (match s.bag.lastMiss with | some (tag, cause) => u8 1 ++ u8 tag ++ u8 cause.code | none => [0, 0, 0]) := by
    cases s.bag.lastMiss <;> rfl
  have head : optional 5 (s.bag.pendingTies.head?.map PendingTie.bytes) =
      (match s.bag.pendingTies with | x :: _ => u8 1 ++ u8 x.tag ++ u32 x.position.toNat | [] => [0, 0, 0, 0, 0, 0]) := by
    cases s.bag.pendingTies <;> rfl
  unfold State.tyerView State.tyerValues
  rw [flight, miss, head] <;> rfl

theorem magazineLow_iff (count threshold : Nat) : magazineLow count threshold = true ↔ count ≤ threshold := by simp [magazineLow]

theorem setMagazine_bag (count threshold : Nat) :
    (s.setMagazine count threshold).bag = { s.bag with magazine := count, lowThreshold := threshold } :=
  judgeClips_frame _ _ .bag (by decide)

theorem held_setMagazine (count threshold : Nat) (r : HoldReason) :
    (s.setMagazine count threshold).held r = if .clipEmpty = r then decide (count = 0) else s.held r := by
  unfold State.setMagazine State.judgeClips
  dsimp only
  split
  · exact held_judgeHold _ _ r _
  · exact held_judgeHold _ _ r _

theorem setMagazine_low {count threshold : Nat} (was : s.bag.lowThreshold < s.bag.magazine) (now : count ≤ threshold) :
    Noticed (s.setMagazine count threshold) .bagger .clipLow := by
  have low : (magazineLow count threshold && !magazineLow s.bag.magazine s.bag.lowThreshold) = true := by
    simp [magazineLow, now, was]
  have notice : s.setMagazine count threshold =
      ((s.setBag { s.bag with magazine := count, lowThreshold := threshold }).judgeHold .clipEmpty (decide (count = 0))).notify
        .bagger .clipLow := if_pos low
  rw [notice]
  exact noticed_notify_self _ rfl

theorem clipReloadReply_taken {count : Nat} (range : count ≤ 65535) :
    clipReloadReply count s =
      { state := s.setMagazine count s.bag.lowThreshold, result := .ok
        body := (s.setMagazine count s.bag.lowThreshold).tyerView } := if_neg (by omega)

theorem clipConfigReply_taken {threshold timeout : Nat} (range : threshold ≤ 65535) (low : 20 ≤ timeout) (high : timeout ≤ 500) :
    clipConfigReply threshold timeout s =
      { state := s.configureClips threshold timeout, result := .ok
        body := (s.configureClips threshold timeout).tyerView } := if_neg (by omega)

/-- The tyer view reaches no port. -/
theorem tyerValues_respond (p : Port) (kind seq : Byte) (result : ResultCode) (body : List Byte) :
    (s.respond p kind seq result body).tyerValues = s.tyerValues := rfl

/-- An answer that carries the tyer view as it stands after the answer. -/
theorem answers_tyerValues (p : Port) (k : RequestKind) (seq : Byte) :
    Answers (s.respond p (BitVec.ofNat 8 k.code) seq .ok s.tyerView) p k seq .ok
      (s.respond p (BitVec.ofNat 8 k.code) seq .ok s.tyerView).tyerValues := by
  rw [tyerValues_respond, ← tyerView_eq_values]
  exact respond_answers s p k seq .ok _

/-- Settles O41: the four requests, taken and refused. -/
theorem dateColoursAndClipsAreReplaced : Obligations.DateColoursAndClipsAreReplaced := by
  refine ⟨fun s seq => ⟨fun day digit weekday leap low high digits week leapDay => ?date, fun day digit weekday leap out => ?noDate,
      fun c0 c1 c2 c3 c4 c5 c6 out => ?noColours, fun c0 c1 c2 c3 c4 c5 c6 h0 h1 h2 h3 h4 h5 h6 => ?colours⟩,
    fun s seq => ⟨fun count range => ?reload, fun count large => ?noReload, fun threshold timeout out => ?noConfig,
      fun threshold timeout range low high => ?config⟩⟩
  case date =>
    have range := (date_inRange_iff ⟨day, digit, weekday, leap⟩).mpr ⟨⟨low, high⟩, digits, week, leapDay⟩
    have reply := dateSetReply_taken s range
    rw [dateBytes_takeDate] at reply
    refine ⟨_, next_answer s seq rfl reply, takeDate_bag s _, held_takeDate s _ .noDate, fun r ne => (held_takeDate s _ r).trans ?_,
      respond_answers _ .office .dateSet seq .ok _, ?_⟩
    · simp [ne.symm]
    · exact (((setBag_frame s _).within rfl).andThen (releaseHold_frame _ _) rfl).andThen (respond_frame _ _ _ _ _ _) rfl
  case noDate => exact ⟨s.dateBytes, next_answer s seq rfl (dateSetReply_outOfRange s out)⟩
  case noColours =>
    refine ⟨_, next_answer s seq rfl (colourTableReply_outOfRange s fun range => ?_)⟩
    rw [coloursInRange_iff] at range
    omega
  case colours =>
    exact next_answer s seq rfl (colourTableReply_taken s ((coloursInRange_iff c0 c1 c2 c3 c4 c5 c6).mpr ⟨h0, h1, h2, h3, h4, h5, h6⟩))
  case reload =>
    have held := held_setMagazine s count s.bag.lowThreshold
    refine ⟨_, next_answer s seq rfl (clipReloadReply_taken s range), setMagazine_bag s _ _, ?_, fun r ne => ?_,
      fun was low => (setMagazine_low s was low).respond _ _ _ _ _, answers_tyerValues _ .bagger .clipReload seq, ?_⟩
    · exact (Bool.eq_iff_iff.mp (held .clipEmpty)).trans (by simp)
    · exact (held r).trans (if_neg ne.symm)
    · exact (setMagazine_frame s _ _).andThen (respond_frame _ _ _ _ _ _) rfl
  case noReload => exact ⟨s.tyerView, next_answer s seq rfl (if_pos large)⟩
  case noConfig => exact ⟨s.tyerView, next_answer s seq rfl (if_pos out)⟩
  case config =>
    refine ⟨_, next_answer s seq rfl (clipConfigReply_taken s range low high), setMagazine_bag _ _ _,
      fun was now => (setMagazine_low (s.setBag { s.bag with tieTimeout := timeout }) was now).respond _ _ _ _ _,
      answers_tyerValues _ .office .clipConfig seq, ?_⟩
    exact (((setBag_frame s _).within rfl).andThen (setMagazine_frame _ _ _) rfl).andThen (respond_frame _ _ _ _ _ _) rfl

/-! ## The ends of a tie (R123 to R125) -/

theorem endTie_eq (f : TieInFlight) (x : TieStatus) :
    s.endTie f x =
      s.setQueue { s.queue with
        records := if f.present then s.queue.records.map fun r => if r.tag = f.tag then { r with tie := x } else r
          else s.queue.records } := by
  unfold State.endTie
  split <;> rfl

theorem tyerDone_firing {f : TieInFlight} (firing : s.bag.tyer = .firing) (flight : s.bag.tieInFlight = some f) :
    s.tyerDone = (s.setBag { s.bag with tyer := .ready, tieInFlight := none }).endTie f .tied := by
  rw [State.tyerDone, firing, flight]

theorem tyerDone_of_ne (h : s.bag.tyer ≠ .firing) : s.tyerDone = s := by
  unfold State.tyerDone
  split
  · next firing _ => exact absurd firing h
  · rfl

theorem tieTimeout_firing {f : TieInFlight} (firing : s.bag.tyer = .firing) (flight : s.bag.tieInFlight = some f) :
    s.tieTimeout =
      ((((s.reach f.expiry).setBag (s.bag.timedOut f)).placeHold .tyerFault).notify .bagger .tyerFault).endTie f .missed := by
  rw [State.tieTimeout, firing, flight]

theorem resetTyer_fault (h : s.bag.tyer = .fault) : s.resetTyer = (s.setBag { s.bag with tyer := .ready }).releaseHold .tyerFault := by
  rw [State.resetTyer, h]

theorem resetTyer_of_ne (h : s.bag.tyer ≠ .fault) : s.resetTyer = s := by
  unfold State.resetTyer
  split
  · next fault => exact absurd fault h
  all_goals rfl

/-- Settles O43: the done, the timeout and TYER_RESET by the tyer state. -/
theorem tyerEndsFollowTheRules : Obligations.TyerEndsFollowTheRules := by
  refine ⟨fun s f firing flight => ?done, fun s idle => congrArg Host.Outcome.next (tyerDone_of_ne s idle),
    fun s f firing flight => ?timeout,
    fun s seq => ⟨fun fault => ?reset, fun fine => ?ignored⟩⟩
  case done => exact congrArg Host.Outcome.next ((tyerDone_firing s firing flight).trans (endTie_eq _ f .tied))
  case timeout =>
    let u := (s.reach f.expiry).setBag (s.bag.timedOut f)
    let v := (u.placeHold .tyerFault).notify .bagger .tyerFault
    have timed : OnlyTouches [.now, .totals, .bag, .line, .ports] s v :=
      ((((reach_frame s f.expiry).within rfl).andThen (setBag_frame _ _) rfl).andThen (placeHold_frame _ _) rfl).andThen
        (notify_frame _ _ _) rfl
    have ended : OnlyTouches [.queue] v (v.endTie f .missed) := endTie_frame v f .missed
    have held : ∀ r, v.held r = (decide (.tyerFault = r) || s.held r) := fun r =>
      (held_placeHold u .tyerFault r).trans (by rw [show u.held r = s.held r from (reach_frame s f.expiry).held (by decide) r])
    refine ⟨v.endTie f .missed, congrArg Host.Outcome.next (tieTimeout_firing s firing flight), ?_, ?_, ?_, fun r ne => ?_, ?_, ?_⟩
    · rw [ended .bag (by decide)]
      show (u.placeHold .tyerFault).bag = _
      rw [placeHold_frame _ _ .bag (by decide)]
      rfl
    · rw [endTie_eq, setQueue_queue, timed .queue (by decide)]
    · rw [ended.held (by decide), held]; rfl
    · rw [ended.held (by decide), held]; simp [ne.symm]
    · exact (ended.tells (ks := []) (by decide)).stands (noticed_notify_self _ rfl)
    · exact (timed.within rfl).andThen ended rfl
  case reset =>
    have reset := resetTyer_fault s fault
    have held : ∀ r, s.resetTyer.held r = (!decide (.tyerFault = r) && s.held r) := fun r => by rw [reset, held_releaseHold]; rfl
    refine ⟨_, next_answer s seq (k := .tyerReset) rfl rfl, ?_, held .tyerFault, fun r ne => (held r).trans ?_,
      answers_tyerValues _ .bagger .tyerReset seq, ?_⟩
    · show s.resetTyer.bag = _
      rw [reset]
      exact releaseHold_frame _ _ .bag (by decide)
    · simp [ne.symm]
    · rw [reset]
      exact (((setBag_frame s _).within rfl).andThen (releaseHold_frame _ _) rfl).andThen (respond_frame _ _ _ _ _ _) rfl
  case ignored =>
    refine next_answer s seq (k := .tyerReset) rfl ?_
    rw [tyerResetReply, resetTyer_of_ne s fine, tyerView_eq_values]

end Sys2Proof.Machine
end

section
/-! SUPPORT. The ends of the pulses and the seconds accumulators, the close of a shift, the steps of a store write, the reads, the
formulas' arithmetic and the end of a blast. -/

namespace Sys2Proof.Machine

variable (s : State)

/-! ## Pulses and accumulators (R76, R80, R122, R156) -/

@[simp] theorem gate_setGate_self (g : Gate) (x : Pulse) : (s.setGate g x).queue.gate g = x := by cases g <;> rfl

theorem gate_setGate_of_ne {g g' : Gate} (h : g' ≠ g) (x : Pulse) : (s.setGate g x).queue.gate g' = s.queue.gate g' := by
  cases g <;> cases g' <;> first | rfl | exact absurd rfl h

theorem setGate_records (g : Gate) (x : Pulse) : (s.setGate g x).queue.records = s.queue.records := by cases g <;> rfl

theorem reach_queue (x : Nat) : (s.reach x).queue = s.queue := reach_frame s x .queue (by decide)

theorem endGatePulse_driven {g : Gate} {d : Nat} (driven : s.queue.gate g = .driven d) :
    s.endGatePulse g = (s.reach d).setGate g .released := by
  rw [State.endGatePulse, driven]

theorem endFirePulse_driven {d : Nat} (driven : s.bag.fireLine = .driven d) :
    s.endFirePulse = (s.reach d).setBag { s.bag with fireLine := .released } := by
  rw [State.endFirePulse, driven]

/-- The count of whole seconds that an accumulator feeds. -/
def ShiftRecord.seconds (r : ShiftRecord) : TimeCount → Nat
  | .run => r.runSeconds
  | .idle => r.idleSeconds
  | .stopped => r.stoppedSeconds
  | .held => r.heldSeconds

/-- The totals t after d milliseconds more in an accumulator of u. -/
def TotalsUnit.Gained (u t : TotalsUnit) (d : Nat) (a : TimeCount) : Prop :=
  t.accumulator a = (u.accumulator a + d) % 1000
    ∧ t.openShift.seconds a = raiseBy (u.openShift.seconds a) ((u.accumulator a + d) / 1000)

/-- The totals t with an accumulator and its count as in u. -/
def TotalsUnit.Agrees (u t : TotalsUnit) (a : TimeCount) : Prop :=
  t.accumulator a = u.accumulator a ∧ t.openShift.seconds a = u.openShift.seconds a

theorem pass_gained (t : TotalsUnit) (d : Nat) (a : TimeCount) : t.Gained (t.pass d a) d a := by cases a <;> exact ⟨rfl, rfl⟩

theorem pass_agrees (t : TotalsUnit) (d : Nat) {a b : TimeCount} (h : b ≠ a) : t.Agrees (t.pass d a) b := by
  cases a <;> cases b <;> first | exact ⟨rfl, rfl⟩ | exact absurd rfl h

theorem passInto_feeds (d : Nat) (a b : TimeCount) : (s.passInto d a).feeds b = s.feeds b := by
  have line : (s.passInto d a).line = s.line := passInto_frame s d a .line (by decide)
  cases b <;> simp only [State.feeds, line]

theorem passInto_agrees (d : Nat) {a b : TimeCount} (h : b ≠ a) : s.totals.Agrees (s.passInto d a).totals b := by
  unfold State.passInto
  split
  · exact pass_agrees _ d h
  · exact ⟨rfl, rfl⟩

theorem passInto_gained (d : Nat) {a : TimeCount} (fed : s.feeds a = true) : s.totals.Gained (s.passInto d a).totals d a := by
  rw [State.passInto, if_pos fed]
  exact pass_gained _ d a

theorem TotalsUnit.Gained.after {u v t : TotalsUnit} {d : Nat} {a : TimeCount} (h : v.Gained t d a) (before : u.Agrees v a) :
    u.Gained t d a := by
  obtain ⟨ms, count⟩ := before
  unfold TotalsUnit.Gained at h ⊢
  rwa [ms, count] at h

theorem TotalsUnit.Gained.andThen {u v t : TotalsUnit} {d : Nat} {a : TimeCount} (h : u.Gained v d a) (after : v.Agrees t a) :
    u.Gained t d a := ⟨after.1.trans h.1, after.2.trans h.2⟩

/-- Time passes into each of the four accumulators at most once. -/
theorem elapse_gained (d : Nat) {a : TimeCount} (fed : s.feeds a = true) : s.totals.Gained (s.elapse d).totals d a := by
  let s0 := s.setNow (s.now + d)
  let s1 := s0.passInto d .run
  let s2 := s1.passInto d .idle
  let s3 := s2.passInto d .stopped
  have fed0 : s0.feeds a = true := by cases a <;> exact fed
  have fed1 : s1.feeds a = true := (passInto_feeds s0 d _ _).trans fed0
  have fed2 : s2.feeds a = true := (passInto_feeds s1 d _ _).trans fed1
  have fed3 : s3.feeds a = true := (passInto_feeds s2 d _ _).trans fed2
  cases a with
  | run =>
    exact (((passInto_gained s0 d fed0).andThen (passInto_agrees s1 d (by decide))).andThen (passInto_agrees s2 d (by decide))).andThen
      (passInto_agrees s3 d (by decide))
  | idle =>
    exact (((passInto_gained s1 d fed1).after (passInto_agrees s0 d (by decide))).andThen (passInto_agrees s2 d (by decide))).andThen
      (passInto_agrees s3 d (by decide))
  | stopped =>
    exact (((passInto_gained s2 d fed2).after (passInto_agrees s1 d (by decide))).after (passInto_agrees s0 d (by decide))).andThen
      (passInto_agrees s3 d (by decide))
  | held =>
    exact (((passInto_gained s3 d fed3).after (passInto_agrees s2 d (by decide))).after (passInto_agrees s1 d (by decide))).after
      (passInto_agrees s0 d (by decide))

/-- An accumulator that time passes into fills: it falls to 0 and its count rises by 1 (R156). -/
theorem fillAccumulator_fed {a : TimeCount} (fed : s.feeds a = true) (below : s.totals.accumulator a < 1000) :
    ∃ t, exec (.secondsAccumulatorFull a) s = .next t ∧ t.totals.accumulator a = 0
      ∧ t.totals.openShift.seconds a = raise (s.totals.openShift.seconds a) ∧ OnlyTouches [.now, .totals] s t := by
  have filled : s.fillAccumulator a = s.elapse (1000 - s.totals.accumulator a) := if_pos fed
  obtain ⟨ms, count⟩ := elapse_gained s (1000 - s.totals.accumulator a) fed
  have full : s.totals.accumulator a + (1000 - s.totals.accumulator a) = 1000 := by omega
  rw [full] at ms count
  exact ⟨_, congrArg Host.Outcome.next filled, ms, count, elapse_frame s _⟩

theorem fillAccumulator_unfed {a : TimeCount} (unfed : s.feeds a = false) : exec (.secondsAccumulatorFull a) s = .next s :=
  congrArg Host.Outcome.next (if_neg (by simp [unfed]))

/-- Settles O46: the three pulses by their end times, the accumulators by what feeds them. -/
theorem pulsesAndAccumulatorsEnd : Obligations.PulsesAndAccumulatorsEnd := by
  refine ⟨fun s g d driven => ?_, fun s d driven => ?_, fun s => ⟨?_, ?_, ?_, ?_, ?_, ?_, ?_, ?_⟩⟩
  · refine ⟨_, congrArg Host.Outcome.next (endGatePulse_driven s driven), gate_setGate_self _ g _, ?_, fun g' other => ?_,
      ((reach_frame s d).within rfl).andThen (setGate_frame _ g _) rfl⟩
    · rw [setGate_records, reach_queue]
    · rw [gate_setGate_of_ne _ other, reach_queue]
  · exact ⟨_, congrArg Host.Outcome.next (endFirePulse_driven s driven), rfl,
      ((reach_frame s d).within rfl).andThen (setBag_frame _ _) rfl⟩
  · exact fun running below => fillAccumulator_fed s (a := .run) (by simp [State.feeds, running]) below
  · exact fun idle below => fillAccumulator_fed s (a := .idle) (by simp [State.feeds, idle]) below
  · exact fun stopped below => fillAccumulator_fed s (a := .stopped) (by simp [State.feeds, stopped]) below
  · exact fun moving held below => fillAccumulator_fed s (a := .held) (decide_eq_true ⟨moving, held⟩) below
  · exact fun other => fillAccumulator_unfed s (by simp [State.feeds, other])
  · exact fun other => fillAccumulator_unfed s (by simp [State.feeds, other])
  · exact fun other => fillAccumulator_unfed s (by simp [State.feeds, other])
  · exact fun none => fillAccumulator_unfed s (by simpa [State.feeds, or_iff_not_imp_left] using none)

/-! ## SHIFT_CLOSE and STORE_FORMAT (R158, R162, R165) -/

theorem newest_eq_reverse (n : Nat) (rs : List ShiftRecord) : newest n rs = (rs.reverse.take n).reverse := by
  rw [newest, List.take_reverse, List.reverse_reverse]

theorem currentRecords_eq {t : TotalsStore} {i : BankId} (h : t.current = some i) : t.currentRecords = (t.bank i).records := by
  rw [TotalsStore.currentRecords, h]

theorem currentRecords_none {t : TotalsStore} (h : t.current = none) : t.currentRecords = [] := by
  rw [TotalsStore.currentRecords, h]

theorem currentSeq_eq {t : TotalsStore} {i : BankId} (h : t.current = some i) : t.currentSeq = some (t.bank i).seq := by
  rw [TotalsStore.currentSeq, h]

theorem currentSeq_none {t : TotalsStore} (h : t.current = none) : t.currentSeq = none := by rw [TotalsStore.currentSeq, h]

theorem target_ne_current (t : TotalsStore) : t.current ≠ some t.target := by
  unfold TotalsStore.target
  cases h : t.current with
  | none => simp
  | some i => simpa using otherBank_ne i

/-- The store after a close that starts no write, or starts one. -/
def TotalsStore.closing (t : TotalsStore) (closed : ShiftRecord) : TotalsStore :=
  if t.state = .faulted then t else t.startWrite closed

theorem closing_banks (t : TotalsStore) (r : ShiftRecord) :
    (t.closing r).bankA = t.bankA ∧ (t.closing r).bankB = t.bankB ∧ (t.closing r).current = t.current := by
  unfold TotalsStore.closing
  split <;> exact ⟨rfl, rfl, rfl⟩

theorem closing_of_faulted {t : TotalsStore} (h : t.state = .faulted) (r : ShiftRecord) : t.closing r = t := if_pos h

theorem closing_of_not_faulted {t : TotalsStore} (h : t.state ≠ .faulted) (r : ShiftRecord) : t.closing r = t.startWrite r := if_neg h

theorem startStoreWrite_of_free {s : State} (free : s.store.state ≠ .writing) (r : ShiftRecord) :
    s.startStoreWrite r = s.setStore (s.store.closing r) := by
  unfold State.startStoreWrite TotalsStore.closing
  cases h : s.store.state with
  | empty => rfl
  | ready => rfl
  | faulted => rfl
  | writing => exact absurd h free

/-- The records a write chooses are the newest five others of the current bank, and the buffer (R162). -/
theorem chosen_of_current {t : TotalsStore} {i : BankId} (h : t.current = some i) (r : ShiftRecord) :
    t.chosen r = (((t.bank i).records.filter fun x => decide (x.number ≠ r.number)).reverse.take 5).reverse ++ [r] := by
  rw [TotalsStore.chosen, currentRecords_eq h, newest_eq_reverse]

theorem chosen_of_none {t : TotalsStore} (h : t.current = none) (r : ShiftRecord) : t.chosen r = [r] := by
  rw [TotalsStore.chosen, currentRecords_none h]; rfl

theorem newSeq_of_current {t : TotalsStore} {i : BankId} (h : t.current = some i) :
    t.newSeq = if (t.bank i).seq < 4294967295 then (t.bank i).seq + 1 else 1 := by
  rw [TotalsStore.newSeq, currentSeq_eq h]; rfl

theorem newSeq_of_none {t : TotalsStore} (h : t.current = none) : t.newSeq = 1 := by rw [TotalsStore.newSeq, currentSeq_none h]

theorem target_of_none {t : TotalsStore} (h : t.current = none) : t.target = .a := by rw [TotalsStore.target, h]

/-- A close where no write is in progress: the totals roll over and the store takes the closed record (R158). -/
theorem closeShift_eq {s : State} (free : s.store.state ≠ .writing) :
    s.closeShift = (s.openNextShift.setStore (s.store.closing s.totals.openShift)).notify .office .shiftClosed :=
  congrArg (State.notify · .office .shiftClosed) (startStoreWrite_of_free (s := s.openNextShift) free _)

theorem shiftCloseReply_free {s : State} (free : s.store.state ≠ .writing) :
    shiftCloseReply s =
      { state := (s.openNextShift.setStore (s.store.closing s.totals.openShift)).notify .office .shiftClosed
        result := .ok
        body := u16 s.totals.openShift.number ++ u16 (nextShift s.totals.openShift.number) ++ u32 s.queue.records.length
          ++ u8 (s.store.closing s.totals.openShift).state.code } := by
  rw [shiftCloseReply, if_neg free, closeShift_eq free]
  rfl

theorem shiftCloseReply_writing {s : State} (busy : s.store.state = .writing) :
    shiftCloseReply s = { state := s, result := .storeBusy, body := [] } := if_pos busy

theorem storeFormatReply_writing {s : State} (busy : s.store.state = .writing) :
    storeFormatReply s = { state := s, result := .storeBusy, body := u8 2 } := by
  rw [storeFormatReply, if_pos busy, busy]; rfl

theorem storeFormatReply_free {s : State} (free : s.store.state ≠ .writing) :
    storeFormatReply s = { state := s.formatStore, result := .ok, body := u8 0 } := if_neg free

/-- Settles O47: a close and a format by the store's state. -/
theorem shiftCloseAndFormat : Obligations.ShiftCloseAndFormat := by
  intro s seq
  refine ⟨fun free => ?_, fun busy => ⟨⟨[], ?_⟩, ?_⟩, fun free => ?_⟩
  · obtain ⟨bankA, bankB, current⟩ := closing_banks s.store s.totals.openShift
    refine ⟨_, next_answer s seq rfl (shiftCloseReply_free free), rfl, rfl, rfl, rfl, rfl, rfl, bankA, bankB, current,
      fun faulted => closing_of_faulted faulted _, fun standing => ?_, (noticed_notify_self _ rfl).respond _ _ _ _ _,
      respond_answers _ .office .shiftClose seq .ok _, ?_⟩
    · have write : (s.store.closing s.totals.openShift) = s.store.startWrite s.totals.openShift := closing_of_not_faulted standing _
      refine ⟨congrArg TotalsStore.state write, _, congrArg TotalsStore.write write, rfl, rfl, target_ne_current s.store,
        fun none => ⟨target_of_none none, chosen_of_none none _, newSeq_of_none none⟩, fun i h => chosen_of_current h _,
        fun i h => newSeq_of_current h⟩
    · exact ((((setTotals_frame s _).within rfl).andThen (setStore_frame _ _) rfl).andThen (notify_frame _ _ _) rfl).andThen
        (respond_frame _ _ _ _ _ _) rfl
  · exact next_answer s seq rfl (shiftCloseReply_writing busy)
  · exact next_answer s seq rfl (storeFormatReply_writing busy)
  · exact next_answer s seq rfl (storeFormatReply_free free)

/-! ## The steps of a store write (R162, R163) -/

theorem stepWrite_store (w next : StoreWrite) (x : Bank) :
    (s.stepWrite w x next).store = { s.store.setBank w.target x with write := some next } := rfl

theorem setBank_withWrite (t : TotalsStore) (i j : BankId) (x : Bank) (next : Option StoreWrite) :
    ({ t.setBank i x with write := next } : TotalsStore).bank j = (t.setBank i x).bank j := by cases j <;> rfl

theorem storeEraseDone_eq {w : StoreWrite} (write : s.store.write = some w) (step : w.step = .erase) :
    s.storeEraseDone = s.stepWrite w (s.store.bank w.target).erase { w with step := .program } := by
  rw [State.storeEraseDone, write]
  exact if_pos step

theorem storeProgramDone_eq {w : StoreWrite} (write : s.store.write = some w) (step : w.step = .program) :
    s.storeProgramDone = s.stepWrite w { s.store.bank w.target with records := w.chosen } { w with step := .verify } := by
  rw [State.storeProgramDone, write]
  exact if_pos step

theorem storeVerifyDone_eq {w : StoreWrite} (ok : Bool) (write : s.store.write = some w) (step : w.step = .verify) :
    s.storeVerifyDone ok =
      if ok then s.setStore { s.store with write := some { w with step := .stateWord } } else s.verifyFailed w := by
  rw [State.storeVerifyDone, write]
  exact if_pos step

/-- What a step leaves in the store: its bank, its write, and the rest as it stood. -/
theorem stepWrite_standing (w next : StoreWrite) (x : Bank) :
    (s.stepWrite w x next).store.bank w.target = x ∧ (s.stepWrite w x next).store.write = some next
      ∧ (s.stepWrite w x next).store.state = s.store.state ∧ (s.stepWrite w x next).store.current = s.store.current
      ∧ (∀ i, i ≠ w.target → (s.stepWrite w x next).store.bank i = s.store.bank i) ∧ OnlyTouches [.store] s (s.stepWrite w x next) := by
  refine ⟨?_, rfl, ?_, ?_, fun i other => ?_, setStore_frame s _⟩
  · rw [stepWrite_store, setBank_withWrite, bank_setBank_self]
  · cases target : w.target <;> simp [stepWrite_store, target, TotalsStore.setBank]
  · cases target : w.target <;> simp [stepWrite_store, target, TotalsStore.setBank]
  · rw [stepWrite_store, setBank_withWrite, bank_setBank_of_ne _ _ _ _ other]

/-- The store READY on a bank whose state word has been written (R162). -/
def TotalsStore.mountedOn (t : TotalsStore) (w : StoreWrite) : TotalsStore :=
  { t.setBank w.target { t.bank w.target with seq := w.newSeq, stateWord := true } with
    current := some w.target, state := .ready, write := none }

theorem mountedOn_bank (t : TotalsStore) (w : StoreWrite) (j : BankId) :
    (t.mountedOn w).bank j = (t.setBank w.target { t.bank w.target with seq := w.newSeq, stateWord := true }).bank j := by
  cases j <;> rfl

theorem storeStateWordDone_eq {w : StoreWrite} (write : s.store.write = some w) (step : w.step = .stateWord) :
    s.storeStateWordDone = (s.setStore (s.store.mountedOn w)).notify .office .storeDone := by
  rw [State.storeStateWordDone, write]
  exact if_pos step

/-- Settles O48: the four steps of a write, each at its end. -/
theorem storeWriteSteps : Obligations.StoreWriteSteps := by
  intro s w write
  refine ⟨fun step => ?_, fun step => ?_, fun step => ⟨?_, fun first => ?_, fun second => ?_⟩, fun step => ?_⟩
  · exact ⟨_, congrArg Host.Outcome.next (storeEraseDone_eq s write step), stepWrite_standing s w _ _⟩
  · exact ⟨_, congrArg Host.Outcome.next (storeProgramDone_eq s write step), stepWrite_standing s w _ _⟩
  · exact congrArg Host.Outcome.next (storeVerifyDone_eq s true write step)
  · exact congrArg Host.Outcome.next ((storeVerifyDone_eq s false write step).trans (if_pos first))
  · have failed : s.verifyFailed w = (s.setStore { s.store with state := .faulted, write := none }).notify .office .storeFault :=
      if_neg (by omega)
    exact ⟨_, congrArg Host.Outcome.next ((storeVerifyDone_eq s false write step).trans failed), rfl, noticed_notify_self _ rfl,
      ((setStore_frame s _).within rfl).andThen (notify_frame _ _ _) rfl⟩
  · refine ⟨_, congrArg Host.Outcome.next (storeStateWordDone_eq s write step), rfl, rfl, rfl, ?_, fun i other => ?_,
      noticed_notify_self _ rfl, ((setStore_frame s _).within rfl).andThen (notify_frame _ _ _) rfl⟩
    · exact (mountedOn_bank s.store w _).trans (bank_setBank_self _ _ _)
    · exact (mountedOn_bank s.store w _).trans (bank_setBank_of_ne _ _ _ _ other)

/-! ## TRACK_READ, TOTALS_READ and STORE_READ (R85, R166, R167) -/

theorem positionBytes_eq (w : Option Pos) : positionBytes w = (match w with | some q => u32 q.toNat | none => [0, 0, 0, 0]) := by
  cases w <;> rfl

theorem planBytes_eq (x : Option Plan) :
    planBytes x = (match x with
      | some x => u16 x.lc ++ u16 x.lt ++ u8 x.n ++ u8 x.bagClass ++ u16 x.crumb
      | none => [0, 0, 0, 0, 0, 0, 0, 0]) := by
  cases x <;> rfl

theorem loafView_eq_values (r : LoafRecord) (count position : Nat) : loafView count position r = r.values count position := by
  have entry : r.entry.getD 0 = (match r.entry with | some id => id | none => 0) := by cases r.entry <;> rfl
  have result : (r.result.map BagResult.code).getD 0 = (match r.result with | some .fail => 1 | _ => 0) := by
    rcases r.result with - | x
    · rfl
    · cases x <;> rfl
  unfold loafView
  rw [entry, result, positionBytes_eq, positionBytes_eq, positionBytes_eq, planBytes_eq] <;> rfl

theorem trackReadTag_found {tag : Nat} {r : LoafRecord} (tagOk : isTag tag = true) (found : s.record? tag = some r) :
    trackReadTag tag s =
      { state := s, result := .ok
        body := r.values s.queue.records.length (s.queue.records.findIdx fun x => decide (x.tag = tag)) } := by
  rw [trackReadTag, tagOk, found, ← loafView_eq_values]; rfl

theorem trackReadTag_absent {tag : Nat} (tagOk : isTag tag = true) (absent : s.record? tag = none) :
    trackReadTag tag s = { state := s, result := .noSuchTag, body := u8 s.queue.records.length } := by
  rw [trackReadTag, tagOk, absent]; rfl

theorem trackReadTag_outOfRange {tag : Nat} (out : isTag tag = false) :
    trackReadTag tag s = { state := s, result := .outOfRange, body := u8 s.queue.records.length } := by
  rw [trackReadTag, out]; rfl

theorem trackReadPosition_found {n : Nat} {r : LoafRecord} (range : n ≤ 47) (found : s.queue.records[n]? = some r) :
    trackReadPosition n s = { state := s, result := .ok, body := r.values s.queue.records.length n } := by
  rw [trackReadPosition, if_neg (by omega), found, ← loafView_eq_values]; rfl

theorem trackReadPosition_absent {n : Nat} (range : n ≤ 47) (absent : s.queue.records[n]? = none) :
    trackReadPosition n s = { state := s, result := .notFound, body := u8 s.queue.records.length } := by
  rw [trackReadPosition, if_neg (by omega), absent]; rfl

theorem trackReadPosition_outOfRange {n : Nat} (out : 47 < n) :
    trackReadPosition n s = { state := s, result := .outOfRange, body := u8 s.queue.records.length } := if_pos out

theorem optional_eq (w : Option Nat) : optional 2 (w.map u16) = (match w with | some n => u8 1 ++ u16 n | none => [0, 0, 0]) := by
  cases w <;> rfl

theorem productEntry_bytes_eq_values (number : Nat) (e : ProductEntry) : e.bytes number = e.values number := by
  unfold ProductEntry.bytes
  rw [optional_eq, optional_eq] <;> rfl

/-- An entry under its number, where one stands. -/
def entryValues (n : Nat) (e : Option ProductEntry) : List Byte := e.elim [] fun e => e.values n

theorem flatMap_take_two {α β : Type} (l : List α) (f : α → List β) :
    (l.take 2).flatMap f = l[0]?.elim [] f ++ l[1]?.elim [] f := by
  rcases l with - | ⟨a, - | ⟨b, l⟩⟩ <;> simp

theorem pageValues_eq (r : ShiftRecord) (page : Nat) :
    r.pageValues page = entryValues (2 * page - 1) r.entries[2 * page - 1 - 1]? ++ entryValues (2 * page) r.entries[2 * page - 1]? := by
  have numbered (n : Nat) (e : Option ProductEntry) : (match e with | some e => e.values n | none => []) = entryValues n e := by
    cases e <;> rfl
  exact congrArg₂ (· ++ ·) (numbered _ _) (numbered _ _)

theorem pageBytes_eq_values (r : ShiftRecord) {page : Nat} (h : 1 ≤ page) : r.pageBytes page = r.pageValues page := by
  have numbered (n : Nat) (e : Option ProductEntry) :
      (e.map fun x => (x, n)).elim [] (fun x => ProductEntry.bytes x.2 x.1) = entryValues n e := by
    cases e with
    | none => rfl
    | some e => exact productEntry_bytes_eq_values n e
  have first : 2 * (page - 1) + 0 = 2 * page - 1 - 1 := by omega
  have second : 2 * (page - 1) + 1 = 2 * page - 1 := by omega
  have firstNumber : 1 + (2 * page - 1 - 1) = 2 * page - 1 := by omega
  have secondNumber : 1 + (2 * page - 1) = 2 * page := by omega
  rw [ShiftRecord.pageBytes, flatMap_take_two, List.getElem?_drop, List.getElem?_drop, List.getElem?_zipIdx, List.getElem?_zipIdx,
    first, second, firstNumber, secondNumber, numbered, numbered, pageValues_eq]

theorem lastPage_eq (r : ShiftRecord) : r.lastPage = (r.products.length + 2) / 2 := by
  have entries : r.entries.length = r.products.length + 1 := List.length_append
  rw [ShiftRecord.lastPage, entries]

theorem totalsReadReply_found {selector page : Nat} {r : ShiftRecord} (low : selector ≤ 1) (range : page ≤ 13)
    (selected : s.selectedTotals selector = some r) (stands : page ≤ (r.products.length + 2) / 2) :
    totalsReadReply selector page s = { state := s, result := .ok, body := s.totalsPage selector page r } := by
  rw [totalsReadReply, if_neg (by unfold pageLimit; omega), selected]
  exact if_neg (by rw [lastPage_eq]; omega)

theorem totalsReadReply_past {selector page : Nat} {r : ShiftRecord} (low : selector ≤ 1) (range : page ≤ 13)
    (selected : s.selectedTotals selector = some r) (past : (r.products.length + 2) / 2 < page) :
    totalsReadReply selector page s = { state := s, result := .notFound, body := [] } := by
  rw [totalsReadReply, if_neg (by unfold pageLimit; omega), selected]
  exact if_pos (by rw [lastPage_eq]; omega)

theorem totalsReadReply_absent {selector page : Nat} (low : selector ≤ 1) (range : page ≤ 13)
    (absent : s.selectedTotals selector = none) : totalsReadReply selector page s = { state := s, result := .notFound, body := [] } := by
  rw [totalsReadReply, if_neg (by unfold pageLimit; omega), absent]

theorem totalsReadReply_outOfRange {selector page : Nat} (out : 1 < selector ∨ 13 < page) :
    totalsReadReply selector page s = { state := s, result := .outOfRange, body := [] } := if_pos out

/-- The heading of a TOTALS_READ page (R166). -/
def State.totalsHeading (s : State) (selector page : Nat) (r : ShiftRecord) : List Byte :=
  u8 selector ++ u8 page ++ u16 r.number ++ u8 r.products.length ++ u8 s.store.state.code

theorem totalsPage_later (selector : Nat) {page : Nat} (r : ShiftRecord) (later : 1 ≤ page) :
    s.totalsPage selector page r = s.totalsHeading selector page r ++ r.pageValues page := by
  rw [State.totalsPage, if_neg (by omega), pageBytes_eq_values r later]; rfl

theorem totalsPage_first (selector : Nat) (r : ShiftRecord) :
    s.totalsPage selector 0 r = s.totalsHeading selector 0 r ++ s.totalsHeader selector r := rfl

theorem totalsHeader_open_buffer (r : ShiftRecord) {b : ShiftRecord} (buffer : s.totals.buffer = some b) :
    s.totalsHeader 0 r = r.countValues ++ (u8 1 ++ u16 b.number) := by
  rw [State.totalsHeader, buffer]; rfl

theorem totalsHeader_open_none (r : ShiftRecord) (buffer : s.totals.buffer = none) :
    s.totalsHeader 0 r = r.countValues ++ [0, 0, 0] := by
  rw [State.totalsHeader, buffer]; rfl

theorem totalsHeader_buffer (r : ShiftRecord) : s.totalsHeader 1 r = r.countValues := List.append_nil _

theorem listedNumbers_of_current {i : BankId} (h : s.store.current = some i) :
    s.listedNumbers = numberList s.store.currentRecords := by
  rw [State.listedNumbers, h, currentRecords_eq h, numberList, listOf, List.length_map, ← List.flatMap_def]

theorem storeListing_eq :
    s.storeListing = u8 s.store.state.code ++ (if s.store.current = none then [0, 0] else u8 1 ++ s.listedNumbers) := by
  cases h : s.store.current with
  | none =>
    rw [State.storeListing, h]; rfl
  | some i =>
    rw [State.storeListing, h, listedNumbers_of_current s h]; rfl

theorem storeHeader_eq (r : ShiftRecord) {i : BankId} (h : s.store.current = some i) :
    s.storeHeader r = r.countValues ++ u8 r.products.length ++ u8 (if i = .a then 1 else 2) ++ u32 (s.store.bank i).seq
      ++ u8 s.store.state.code ++ s.listedNumbers := by
  have code : bankCode (some i) = if i = .a then 1 else 2 := by cases i <;> rfl
  rw [State.storeHeader, h, currentSeq_eq h, code, listedNumbers_of_current s h]
  rfl

theorem storeReadReply_found {n page : Nat} {r : ShiftRecord} (low : 1 ≤ n) (high : n ≤ 65535) (range : page ≤ 13)
    (found : s.store.currentRecords.find? (fun x => decide (x.number = n)) = some r) (stands : page ≤ (r.products.length + 2) / 2) :
    storeReadReply n page s = { state := s, result := .ok, body := if page = 0 then s.storeHeader r else r.pageBytes page } := by
  rw [storeReadReply, if_neg (by unfold pageLimit; omega), found]
  exact if_neg (by rw [lastPage_eq]; omega)

theorem storeReadReply_past {n page : Nat} {r : ShiftRecord} (low : 1 ≤ n) (high : n ≤ 65535) (range : page ≤ 13)
    (found : s.store.currentRecords.find? (fun x => decide (x.number = n)) = some r) (past : (r.products.length + 2) / 2 < page) :
    storeReadReply n page s = { state := s, result := .notFound, body := s.storeListing } := by
  rw [storeReadReply, if_neg (by unfold pageLimit; omega), found]
  exact if_pos (by rw [lastPage_eq]; omega)

theorem storeReadReply_absent {n page : Nat} (low : 1 ≤ n) (high : n ≤ 65535) (range : page ≤ 13)
    (absent : ∀ x ∈ s.store.currentRecords, x.number ≠ n) :
    storeReadReply n page s = { state := s, result := .notFound, body := s.storeListing } := by
  have none : s.store.currentRecords.find? (fun x => decide (x.number = n)) = Option.none :=
    List.find?_eq_none.mpr fun x hx => by simpa using absent x hx
  rw [storeReadReply, if_neg (by unfold pageLimit; omega), none]

theorem storeReadReply_outOfRange {n page : Nat} (out : n = 0 ∨ 65535 < n ∨ 13 < page) :
    storeReadReply n page s = { state := s, result := .outOfRange, body := s.storeListing } :=
  if_pos (by unfold pageLimit; omega)

/-- TRACK_READ by tag and by position (R85). -/
theorem trackRead_answers (p : Port) (seq : Byte) :
    (∀ tag r, 1 ≤ tag → tag ≤ 255 → s.record? tag = some r →
      exec (.trackRead p seq 0 tag) s =
        .next (s.respond p 17 seq .ok
          (r.values s.queue.records.length (s.queue.records.findIdx fun x => decide (x.tag = tag)))))
    ∧ (∀ n r, n ≤ 47 → s.queue.records[n]? = some r →
      exec (.trackRead p seq 1 n) s = .next (s.respond p 17 seq .ok (r.values s.queue.records.length n)))
    ∧ (∀ tag, 1 ≤ tag → tag ≤ 255 → s.record? tag = none →
      exec (.trackRead p seq 0 tag) s = .next (s.respond p 17 seq .noSuchTag (u8 s.queue.records.length)))
    ∧ (∀ n, n ≤ 47 → s.queue.records[n]? = none →
      exec (.trackRead p seq 1 n) s = .next (s.respond p 17 seq .notFound (u8 s.queue.records.length)))
    ∧ (∀ n, n < 1 ∨ 255 < n →
      exec (.trackRead p seq 0 n) s = .next (s.respond p 17 seq .outOfRange (u8 s.queue.records.length)))
    ∧ ∀ n, 47 < n → exec (.trackRead p seq 1 n) s = .next (s.respond p 17 seq .outOfRange (u8 s.queue.records.length)) := by
  have allowed : RequestKind.trackRead.permitted p = true := permitted_any p rfl
  refine ⟨fun tag r low high found => ?_, fun n r range found => ?_, fun tag low high absent => ?_, fun n range absent => ?_,
    fun n out => ?_, fun n out => ?_⟩
  · exact next_answer s seq allowed (trackReadTag_found s (isTag_of_range low high) found)
  · exact next_answer s seq allowed (trackReadPosition_found s range found)
  · exact next_answer s seq allowed (trackReadTag_absent s (isTag_of_range low high) absent)
  · exact next_answer s seq allowed (trackReadPosition_absent s range absent)
  · exact next_answer s seq allowed (trackReadTag_outOfRange s (isTag_of_out (out.imp_left Nat.lt_one_iff.mp)))
  · exact next_answer s seq allowed (trackReadPosition_outOfRange s out)

/-- Settles O49: a read by what it names, found, absent or out of range. -/
theorem readsFindWhatTheyName : Obligations.ReadsFindWhatTheyName := by
  refine ⟨fun s p seq => trackRead_answers s p seq, fun s p seq other => ?_, fun s seq => ?_⟩
  · have allowed : RequestKind.totalsRead.permitted p = true := permitted_slicerOffice rfl other
    refine ⟨fun selector page r low range selected => ⟨?_, ?_, ?_, ?_, ?_⟩, fun page range absent => ?_, fun selector page out => ?_⟩
    · rintro rfl rfl b buffer
      refine next_answer s seq allowed ((totalsReadReply_found s low range selected (Nat.zero_le _)).trans ?_)
      rw [totalsPage_first, totalsHeader_open_buffer s r buffer]; rfl
    · rintro rfl rfl buffer
      refine next_answer s seq allowed ((totalsReadReply_found s low range selected (Nat.zero_le _)).trans ?_)
      rw [totalsPage_first, totalsHeader_open_none s r buffer]; rfl
    · rintro rfl rfl
      refine next_answer s seq allowed ((totalsReadReply_found s low range selected (Nat.zero_le _)).trans ?_)
      rw [totalsPage_first, totalsHeader_buffer]; rfl
    · intro later stands
      refine next_answer s seq allowed ((totalsReadReply_found s low range selected stands).trans ?_)
      rw [totalsPage_later s selector r later]; rfl
    · exact fun past => ⟨[], next_answer s seq allowed (totalsReadReply_past s low range selected past)⟩
    · exact ⟨[], next_answer s seq allowed (totalsReadReply_absent s (Nat.le_refl 1) range absent)⟩
    · exact ⟨[], next_answer s seq allowed (totalsReadReply_outOfRange s out)⟩
  · intro records refused
    have refuses {n page : Nat} {result : ResultCode}
        (reply : storeReadReply n page s = { state := s, result := result, body := s.storeListing }) :
        exec (.storeRead .office seq n page) s = refused result := by
      rw [storeListing_eq] at reply
      exact next_answer s seq rfl reply
    refine ⟨fun n r i low high current found => ?_, fun n r page low high found later range => ⟨fun stands => ?_, fun past => ?_⟩,
      fun n page low high range absent => ?_, fun n page out => ?_⟩
    · refine next_answer s seq rfl ((storeReadReply_found s low high (Nat.zero_le _) found (Nat.zero_le _)).trans ?_)
      rw [if_pos rfl, storeHeader_eq s r current]
    · refine next_answer s seq rfl ((storeReadReply_found s low high range found stands).trans ?_)
      rw [if_neg (by omega), pageBytes_eq_values r later]
    · exact refuses (storeReadReply_past s low high range found past)
    · exact refuses (storeReadReply_absent s low high range absent)
    · exact refuses (storeReadReply_outOfRange s out)

/-! ## The formulas (R44, R53, R54, R60) -/

/-- The three cases of a rounding: the quotient, when the remainder is less than half or an even quotient stands at a half; else the
quotient above it. -/
theorem roundNat_cases (a b : Nat) :
    (roundNat a b = a / b ∧ (2 * (a % b) < b ∨ 2 * (a % b) = b ∧ a / b % 2 = 0))
      ∨ (roundNat a b = a / b + 1 ∧ (b < 2 * (a % b) ∨ 2 * (a % b) = b ∧ a / b % 2 = 1)) := by
  unfold roundNat
  split
  · next below => exact .inl ⟨rfl, .inl below⟩
  · next notBelow =>
    split
    · next above => exact .inr ⟨rfl, .inl above⟩
    · next notAbove =>
      have half : 2 * (a % b) = b := by omega
      split
      · next even => exact .inl ⟨rfl, .inr ⟨half, even⟩⟩
      · next odd => exact .inr ⟨rfl, .inr ⟨half, by omega⟩⟩

/-- The rounded quotient lies within half a divisor of the dividend, and is even where the dividend lies at the half (R44). -/
theorem roundNat_nearest (a : Nat) {b : Nat} (positive : 0 < b) :
    (2 * (roundNat a b * b) ≤ 2 * a + b ∧ 2 * a ≤ 2 * (roundNat a b * b) + b)
      ∧ (2 * (roundNat a b * b) = 2 * a + b ∨ 2 * a = 2 * (roundNat a b * b) + b → roundNat a b % 2 = 0) := by
  have division : b * (a / b) + a % b = a := Nat.div_add_mod a b
  have remainder : a % b < b := Nat.mod_lt a positive
  rw [Nat.mul_comm] at division
  rcases roundNat_cases a b with ⟨value, side⟩ | ⟨value, side⟩
  · rw [value]
    omega
  · have next : (a / b + 1) * b = a / b * b + b := Nat.succ_mul _ _
    rw [value, next]
    omega

theorem roundNat_zero (b : Nat) : roundNat 0 b = 0 := by
  rcases roundNat_cases 0 b with ⟨value, -⟩ | ⟨value, side⟩
  · rw [value, Nat.zero_div]
  · simp at side

theorem roundInt_neg (a : Int) (b : Nat) : roundInt (-a) b = -roundInt a b := by
  have same : (-a).natAbs = a.natAbs := Int.natAbs_neg a
  unfold roundInt
  rw [same]
  rcases lt_trichotomy a 0 with negative | zero | positive
  · rw [if_neg (by omega), if_pos negative, neg_neg]
  · subst zero
    simp [roundNat_zero]
  · rw [if_pos (by omega), if_neg (by omega)]

/-- A rounded part of a load: no more than the load (R60). -/
theorem roundNat_part_le (load : Nat) {yield : Nat} (part : yield ≤ 256) : roundNat (load * yield) 256 ≤ load := by
  obtain ⟨⟨upper, -⟩, -⟩ := roundNat_nearest (load * yield) (b := 256) (by decide)
  have product : load * yield ≤ load * 256 := Nat.mul_le_mul_left _ part
  omega

theorem reducedLoad_whole (load : Nat) : reducedLoad load 256 = 0 := by
  obtain ⟨⟨-, lower⟩, -⟩ := roundNat_nearest (load * 256) (b := 256) (by decide)
  unfold reducedLoad
  omega

/-- The lead of the slowest actuator at the highest speed (R53). -/
theorem lead_le {v t : Nat} (speed : v ≤ 262080) (latency : t ≤ 250) : lead v t ≤ 255938 := by
  obtain ⟨⟨upper, -⟩, -⟩ := roundNat_nearest (v * t) (b := 256) (by decide)
  have product : v * t ≤ 262080 * 250 := Nat.mul_le_mul speed latency
  unfold lead
  omega

theorem firePosition_within {travel l : Nat} (p : Pos) (h : l ≤ travel) :
    firePosition p travel l = p + BitVec.ofNat 32 (travel - l) := by
  rw [firePosition, Nat.min_eq_left h]; rfl

theorem firePosition_beyond {travel l : Nat} (p : Pos) (h : travel < l) : firePosition p travel l = p := by
  rw [firePosition, Nat.min_eq_right (Nat.le_of_lt h), Nat.sub_self]
  exact BitVec.add_zero p

/-- Settles O30: each formula from the bounds of a rounding. -/
theorem arithmeticOfPositions : Obligations.ArithmeticOfPositions :=
  ⟨⟨fun a b positive => roundNat_nearest a positive, fun a b => ⟨roundInt_neg a b, fun nonneg => if_neg (by omega)⟩⟩,
    fun _ _ => ⟨rfl, lead_le⟩, fun p _ _ => ⟨firePosition_within p, firePosition_beyond p⟩,
    fun load _ part => ⟨roundNat_part_le load part, reducedLoad_whole load⟩, fun _ _ => rfl⟩

/-! ## CRUMB_FULL judged (R132) -/

theorem held_judgeFull (z : Zone) (r : HoldReason) :
    (s.judgeFull z).held r =
      if fullReason z = r then
        if (s.zone z).hard ≤ (s.zone z).load then true else if (s.zone z).load < (s.zone z).soft then false else s.held r
      else s.held r := by
  unfold State.judgeFull
  by_cases same : fullReason z = r
  · subst same
    rw [if_pos rfl]
    split
    · rw [held_placeHold]; simp
    · split
      · rw [held_releaseHold]; simp
      · rfl
  · rw [if_neg same]
    split
    · rw [held_placeHold]; simp [same]
    · split
      · rw [held_releaseHold]; simp [same]
      · rfl

theorem held_judgeFull_of_ne {z : Zone} {r : HoldReason} (ne : r ≠ fullReason z) : (s.judgeFull z).held r = s.held r := by
  rw [held_judgeFull, if_neg (Ne.symm ne)]

theorem held_judgeFull_full {z : Zone} (full : (s.zone z).hard ≤ (s.zone z).load) : (s.judgeFull z).held (fullReason z) = true := by
  rw [held_judgeFull, if_pos rfl, if_pos full]

theorem held_judgeFull_below {z : Zone} (notFull : (s.zone z).load < (s.zone z).hard) (below : (s.zone z).load < (s.zone z).soft) :
    (s.judgeFull z).held (fullReason z) = false := by
  rw [held_judgeFull, if_pos rfl, if_neg (by omega), if_pos below]

theorem held_judgeFull_between {z : Zone} (notFull : (s.zone z).load < (s.zone z).hard) (between : (s.zone z).soft ≤ (s.zone z).load) :
    (s.judgeFull z).held (fullReason z) = s.held (fullReason z) := by
  rw [held_judgeFull, if_pos rfl, if_neg (by omega), if_neg (by omega)]

/-! ## The end of a blast (R137) -/

/-- What of the open shift no second raises, the passing of time leaves. -/
theorem reach_keeps {α : Type} (f : ShiftRecord → α) (keeps : ∀ (t : TotalsUnit) d a, f (t.pass d a).openShift = f t.openShift) (x : Nat) :
    f (s.reach x).totals.openShift = f s.totals.openShift := by
  have passes (t : State) (d : Nat) (a : TimeCount) : f (t.passInto d a).totals.openShift = f t.totals.openShift := by
    unfold State.passInto
    split
    · exact keeps t.totals d a
    · rfl
  unfold State.reach
  split
  · exact (((passes _ _ _).trans (passes _ _ _)).trans (passes _ _ _)).trans (passes _ _ _)
  · rfl

/-- The state at a blast's end, before the start of the next is judged. -/
def State.blastEnded (s : State) (z : Zone) (d : Nat) (b : Bar) : State :=
  (((s.reach d).setZone z ((s.zone z).blasted b.yield)).countBlast z).judgeFull z

theorem endBlast_eq {z : Zone} {d : Nat} {b : Bar} (blasting : (s.zone z).blastEnd = some d) (bar : s.bar z = some b) :
    s.endBlast z = (s.blastEnded z d b).judgeBlast z := by
  rw [State.endBlast, blasting, bar]; rfl

theorem blastEnded_frame (z : Zone) (d : Nat) (b : Bar) : OnlyTouches [.now, .totals, .crumb, .line, .ports] s (s.blastEnded z d b) :=
  ((((reach_frame s d).within rfl).andThen (setZone_frame _ z _) rfl).andThen (countBlast_frame _ z) rfl).andThen
    (judgeFull_frame _ z) rfl

theorem zone_of_crumb {s t : State} (h : t.crumb = s.crumb) (z : Zone) : t.zone z = s.zone z := by rw [State.zone, h]; rfl

theorem countBlast_crumb (z : Zone) : (s.countBlast z).crumb = s.crumb := countBlast_frame s z .crumb (by decide)

theorem judgeFull_crumb (z : Zone) : (s.judgeFull z).crumb = s.crumb := judgeFull_frame s z .crumb (by decide)

theorem zone_blastEnded_self (z : Zone) (d : Nat) (b : Bar) : (s.blastEnded z d b).zone z = (s.zone z).blasted b.yield :=
  (zone_of_crumb ((judgeFull_crumb _ z).trans (countBlast_crumb _ z)) z).trans (zone_setZone_self _ z _)

theorem zone_blastEnded_of_ne {z w : Zone} (d : Nat) (b : Bar) (ne : w ≠ z) : (s.blastEnded z d b).zone w = s.zone w :=
  ((zone_of_crumb ((judgeFull_crumb _ z).trans (countBlast_crumb _ z)) w).trans (zone_setZone_of_ne _ z w _ ne)).trans
    (zone_reach s d w)

theorem bar_of_chain {s t : State} (h : t.chain = s.chain) (z : Zone) : t.bar z = s.bar z := by rw [State.bar, h]; rfl

/-- The occupant of a zone is read from its fitted mark, the chain, the records and the positions. -/
theorem occupant_eq_of {s t : State} {z : Zone} (fitted : (t.zone z).fitted = (s.zone z).fitted) (chain : t.chain = s.chain)
    (queue : t.queue = s.queue) (pos : t.pos = s.pos) : t.occupant z = s.occupant z := by
  rw [State.occupant, fitted, bar_of_chain chain, queue, pos]; rfl

theorem occupant_blastEnded (z : Zone) (d : Nat) (b : Bar) : (s.blastEnded z d b).occupant z = s.occupant z := by
  have frame := blastEnded_frame s z d b
  exact occupant_eq_of (by rw [zone_blastEnded_self]; rfl) (frame .chain (by decide)) (frame .queue (by decide)) (frame .pos (by decide))

/-- The holds at a blast's end are those before it, with the zone's CRUMB_FULL judged on the reduced load. -/
theorem held_beforeFull (z : Zone) (d : Nat) (x : ZoneState) (r : HoldReason) :
    (((s.reach d).setZone z x).countBlast z).held r = s.held r := by
  have frame : OnlyTouches [.now, .totals, .crumb] s (((s.reach d).setZone z x).countBlast z) :=
    (((reach_frame s d).within rfl).andThen (setZone_frame _ z x) rfl).andThen (countBlast_frame _ z) rfl
  rw [State.held, frame .line (by decide)]; rfl

theorem zone_beforeFull (z : Zone) (d : Nat) (x : ZoneState) : (((s.reach d).setZone z x).countBlast z).zone z = x :=
  (zone_of_crumb (countBlast_crumb _ z) z).trans (zone_setZone_self _ z x)

theorem countBlast_blasts (z : Zone) :
    match z with
    | .z0 => (s.countBlast z).totals.openShift.blasts0 = raise s.totals.openShift.blasts0
    | .z1 => (s.countBlast z).totals.openShift.blasts1 = raise s.totals.openShift.blasts1 := by
  cases z <;> rfl

theorem blastEnded_totals (z : Zone) (d : Nat) (b : Bar) :
    (s.blastEnded z d b).totals = (((s.reach d).setZone z ((s.zone z).blasted b.yield)).countBlast z).totals :=
  judgeFull_frame _ z .totals (by decide)

/-- Settles O45: the reduction, the count, the hold and the next start, each by its own operation. -/
theorem blastEndReducesTheLoad : Obligations.BlastEndReducesTheLoad := by
  intro s z d b blasting bar
  let u := s.blastEnded z d b
  have zone : u.zone z = (s.zone z).blasted b.yield := zone_blastEnded_self s z d b
  have occupant : u.occupant z = s.occupant z := occupant_blastEnded s z d b
  have barThen : u.bar z = some b := (bar_of_chain (blastEnded_frame s z d b .chain (by decide)) z).trans bar
  have judged : (u.judgeBlast z).zone z = u.judgedZone z := zone_judgeBlast_self u z
  have same := judgeBlast_frame u z
  have load : ((u.judgeBlast z).zone z).load = (s.zone z).load - roundNat ((s.zone z).load * b.yield) 256 := by
    rw [judged, judgedZone_load, zone]; rfl
  have starts : u.blastStarts z = true ↔
      (s.zone z).fitted = true ∧ s.occupant z = none
        ∧ ((s.zone z).soft ≤ ((u.judgeBlast z).zone z).load ∨ (s.zone z).purgeOwed = true) := by
    rw [blastStarts_iff, wanted_iff, zone, occupant, load]
    simp [ZoneState.blasted, ZoneState.rest, reducedLoad]
  have rests (stays : ¬ u.blastStarts z = true) : (u.judgeBlast z).zone z = (s.zone z).blasted b.yield := by
    rw [judged, judgedZone_of_not_starts u (.inr (Bool.eq_false_iff.mpr stays)), zone]
  have starting (h : u.blastStarts z = true) : (u.judgeBlast z).zone z = ((s.zone z).blasted b.yield).startBlast u.now b := by
    rw [judged, judgedZone_of_starts u barThen h, zone]
  have held (r : HoldReason) : (u.judgeBlast z).held r = u.held r := by
    rw [State.held, same .line (by decide)]; rfl
  have before : (((s.reach d).setZone z ((s.zone z).blasted b.yield)).countBlast z).zone z = (s.zone z).blasted b.yield :=
    zone_beforeFull s z d _
  have loadThen : ((s.zone z).blasted b.yield).load = ((u.judgeBlast z).zone z).load := load.symm
  refine ⟨u.judgeBlast z, congrArg Host.Outcome.next (endBlast_eq s blasting bar), load, ?_, ?_, ?_, ?_, fun below notOwed => ?_,
    fun occupied => ?_, fun fitted wanted clear => ?_, fun full => ?_, fun notFull below => ?_, fun notFull between => ?_,
    fun r ne => ?_, ?_, fun w ne => ?_, (blastEnded_frame s z d b).andThen same rfl⟩
  · by_cases h : u.blastStarts z = true
    · rw [starting h]; rfl
    · rw [rests h]; rfl
  · rw [judged, judgedZone_fitted, zone]; rfl
  · by_cases h : u.blastStarts z = true
    · rw [starting h]; rfl
    · rw [rests h]; rfl
  · by_cases h : u.blastStarts z = true
    · rw [starting h]; rfl
    · rw [rests h]; rfl
  · rw [rests fun h => ?_]
    · exact ⟨rfl, rfl⟩
    · obtain ⟨-, -, reached | owed⟩ := starts.mp h
      · omega
      · rw [notOwed] at owed; cases owed
  · rw [rests fun h => occupied (starts.mp h).2.1]
    exact ⟨rfl, rfl, rfl⟩
  · rw [starting (starts.mpr ⟨fitted, clear, wanted⟩), same .now (by decide)]
    exact ⟨rfl, rfl, rfl⟩
  · rw [held]
    exact held_judgeFull_full _ (by rw [before, loadThen]; exact full)
  · rw [held]
    exact held_judgeFull_below _ (by rw [before, loadThen]; exact notFull) (by rw [before, loadThen]; exact below)
  · rw [held]
    exact (held_judgeFull_between _ (by rw [before, loadThen]; exact notFull) (by rw [before, loadThen]; exact between)).trans
      (held_beforeFull s z d _ _)
  · rw [held]
    exact (held_judgeFull_of_ne _ ne).trans (held_beforeFull s z d _ _)
  · have judgedTotals : (u.judgeBlast z).totals = u.totals := same .totals (by decide)
    have totals : u.totals = (((s.reach d).setZone z ((s.zone z).blasted b.yield)).countBlast z).totals := blastEnded_totals s z d b
    rw [judgedTotals, totals]
    cases z with
    | z0 => exact congrArg raise (reach_keeps s ShiftRecord.blasts0 (fun _ _ a => by cases a <;> rfl) d)
    | z1 => exact congrArg raise (reach_keeps s ShiftRecord.blasts1 (fun _ _ a => by cases a <;> rfl) d)
  · exact (zone_judgeBlast_of_ne u ne).trans (zone_blastEnded_of_ne s d b ne)

end Sys2Proof.Machine
end

section
/-! SUPPORT. The link: port resets, fetches and the notice requests, and what the bytes of a transaction come to. -/

namespace Sys2Proof.Machine

variable (s : State)

/-! ## One port (R172, R175, R176, R178) -/

theorem setPort_setPort (p : Port) (x y : PortState) : (s.setPort p x).setPort p y = s.setPort p y := by cases p <;> rfl

theorem setPort_port (p : Port) : s.setPort p (s.port p) = s := by cases p <;> rfl

/-- What an event that changes one port leaves. -/
theorem setPort_leaves (p : Port) (x : PortState) :
    (∀ q, q ≠ p → (s.setPort p x).port q = s.port q) ∧ OnlyTouches [.ports] s (s.setPort p x) :=
  ⟨fun q other => port_setPort_of_ne s p q x other, setPort_frame s p x⟩

theorem withLink_of {x : PortState} {l : LinkState} (h : x.link = l) : { x with link := l } = x := by
  subst h; rfl

theorem receiveBytes_wasReset {p : Port} (bytes : List Byte) (reset : (s.port p).link = .wasReset) : s.receiveBytes p bytes = s := by
  rw [State.receiveBytes, reset]

theorem receiveBytes_judged {p : Port} (bytes : List Byte) (judged : (s.port p).link = .judged) :
    s.receiveBytes p bytes = s.setPort p { s.port p with dataOut := (s.port p).dataOut ++ filler bytes.length } := by
  rw [State.receiveBytes, judged]

theorem receiveBytes_listening {p : Port} (bytes : List Byte) (listening : (s.port p).link = .listening) :
    s.receiveBytes p bytes = s.judgeFrame p (s.frameBytes p bytes) := by
  rw [State.receiveBytes, listening]

theorem exec_bytesLow (p : Port) (bytes : List Byte) : exec (.frameRefused p bytes false) s = .next (s.receiveBytes p bytes) := rfl

theorem exec_bytesReleased (p : Port) (bytes : List Byte) :
    exec (.frameRefused p bytes true) s = .next ((s.receiveBytes p bytes).releaseSelect p) := rfl

theorem releaseSelect_setPort (p : Port) (x : PortState) : (s.setPort p x).releaseSelect p = s.setPort p x.released := by
  rw [State.releaseSelect, port_setPort_self, setPort_setPort]

/-! ### Fetches (R172) -/

/-- A port after a whole fetch that began with the port at rest. -/
theorem fetched_eq {x y : PortState} {n : Nat} (clocked : 1 ≤ n) (released : x.released = y) :
    x.fetched n =
      { y with
        frame := .idle
        dataOut := driven y.frameToFetch n
        response := if y.frameToFetch.length < n then none else y.response } := by
  have whole : x.fetched n = (x.released.fetching (filler n)).fetchEnded n := if_neg (by omega)
  have length : (filler n).length = n := List.length_replicate
  rw [whole, released]
  unfold PortState.fetchEnded PortState.fetching
  rw [length] <;> rfl

theorem driven_eq (kind seq result length : Byte) (body : List Byte) (n : Nat) :
    driven ([kind, seq, result, length] ++ body) n = ([0, kind, seq, result, length] ++ body ++ List.replicate n 0).take n := rfl

/-- What a fetch leaves in its port, where the port found a response. -/
theorem fetched_of_response {x : PortState} {r : Response} {n : Nat} (clocked : 1 ≤ n) (response : x.released.response = some r) :
    (x.fetched n).response = (if 5 + r.body.length ≤ n then none else some r) ∧ (x.fetched n).frame = .idle
      ∧ (x.fetched n).dataOut =
          ([0, r.kind, r.seq, r.result, BitVec.ofNat 8 r.body.length] ++ r.body ++ List.replicate n 0).take n := by
  have frame : x.released.frameToFetch = r.frame := by rw [PortState.frameToFetch, response]
  have length : r.frame.length = 4 + r.body.length := by simp [Response.frame]; omega
  rw [fetched_eq clocked rfl, frame]
  refine ⟨?_, rfl, driven_eq _ _ _ _ _ n⟩
  show (if r.frame.length < n then none else x.released.response) = _
  rw [response, length]
  exact if_congr (by omega) rfl rfl

/-- The frame of NO_RESPONSE with its filler, the bytes written as numbers (R172). -/
theorem driven_noResponse (n : Nat) {bytes : List Byte} (written : bytes = ([0, 0, 0, 1, 0] ++ List.replicate n 0).take n) :
    driven [0, 0, 1, 0] n = bytes := by
  rw [written, bind_pure_comp, List.map_eq_map, List.map_append, List.map_replicate]
  rfl

theorem fetched_of_none {x : PortState} {n : Nat} (clocked : 1 ≤ n) (response : x.released.response = none) :
    (x.fetched n).response = none ∧ (x.fetched n).frame = .idle
      ∧ (x.fetched n).dataOut = ([0, 0, 0, 1, 0] ++ List.replicate n 0).take n := by
  have frame : x.released.frameToFetch = [0, 0, 1, 0] := by rw [PortState.frameToFetch, response]; rfl
  rw [fetched_eq clocked rfl, frame]
  refine ⟨?_, rfl, driven_noResponse n rfl⟩
  show (if _ then none else x.released.response) = none
  rw [response, ite_self]

theorem released_response_of_idle {x : PortState} (idle : x.frame = .idle) : x.released.response = x.response := by
  rw [released_of_idle x idle]

/-- The rise of select after a request frame cut short leaves its refusal (R171). -/
theorem released_response_of_cut {x : PortState} {bytes : List Byte} (receiving : x.frame = .receiving bytes)
    (request : bytes.head? ≠ some 0) : x.released.response = some ⟨bytes.getD 0 0, bytes.getD 1 0, 2, []⟩ := by
  have begins : beginsFetch bytes = false := decide_eq_false request
  rw [PortState.released, PortState.endTransaction, receiving]
  simp [begins, PortState.answered, refusal, ResultCode.code]

theorem fetch_sameNotices (p : Port) (n : Nat) : SameNotices s (s.setPort p ((s.port p).fetched n)) p := by
  unfold SameNotices
  rw [port_setPort_self]
  exact fetched_notices _ n

/-! ### The notice requests (R175, R176) -/

/-- A change of a port's flags or mask that is answered with both. -/
theorem judgedPort_answered (p : Port) (x : PortState) (k : RequestKind) (seq : Byte) :
    let u := s.setPort p x.judged
    let t := u.respond p (BitVec.ofNat 8 k.code) seq .ok (u.noticeBody p)
    (t.port p).flags = x.flags ∧ (t.port p).mask = x.mask ∧ (∀ q, q ≠ p → t.port q = s.port q)
      ∧ ((t.port p).attention = .asserted ↔ (t.port p).flags &&& ~~~(t.port p).mask ≠ 0)
      ∧ Answers t p k seq .ok (set16 (t.port p).flags ++ set16 (t.port p).mask) ∧ OnlyTouches [.ports] s t := by
  intro u t
  have port : u.port p = x.judged := port_setPort_self s p _
  obtain ⟨flags, mask, attention⟩ := respond_sameNotices u p p (BitVec.ofNat 8 k.code) seq .ok (u.noticeBody p)
  rw [port] at flags mask attention
  have body : u.noticeBody p = set16 (t.port p).flags ++ set16 (t.port p).mask := by
    rw [State.noticeBody, port, flags, mask]
  refine ⟨flags, mask, fun q other => ?_, ?_, ?_, (setPort_frame s p _).andThen (respond_frame _ _ _ _ _ _) rfl⟩
  · exact (respond_port_of_ne u p q _ seq .ok _ other).trans (port_setPort_of_ne s p q _ other)
  · rw [attention, flags, mask]
    exact attentionOf_asserted x.flags x.mask
  · rw [← body]
    exact respond_answers u p k seq .ok _

theorem noticeAckReply_named {p : Port} {kinds : Set16} (named : kinds &&& ~~~(noticePositions p) = 0) :
    noticeAckReply p kinds s =
      { state := s.setPort p ((s.port p).acknowledge kinds), result := .ok
        body := (s.setPort p ((s.port p).acknowledge kinds)).noticeBody p } := if_pos (decide_eq_true named)

theorem noticeAckReply_strange {p : Port} {kinds : Set16} (strange : kinds &&& ~~~(noticePositions p) ≠ 0) :
    noticeAckReply p kinds s = { state := s, result := .outOfRange, body := s.noticeBody p } :=
  if_neg (by simpa [namesKinds] using strange)

theorem noticeMaskReply_named {p : Port} {kinds : Set16} (named : kinds &&& ~~~(noticePositions p) = 0) :
    noticeMaskReply p kinds s =
      { state := s.setPort p ((s.port p).setMask kinds), result := .ok
        body := (s.setPort p ((s.port p).setMask kinds)).noticeBody p } := if_pos (decide_eq_true named)

theorem noticeMaskReply_strange {p : Port} {kinds : Set16} (strange : kinds &&& ~~~(noticePositions p) ≠ 0) :
    noticeMaskReply p kinds s = { state := s, result := .outOfRange, body := s.noticeBody p } :=
  if_neg (by simpa [namesKinds] using strange)

/-- Settles O50: a port reset, the fetches by what they find, and the notice requests by the kinds named. -/
theorem linkFollowsTheRules : Obligations.LinkFollowsTheRules := by
  intro s p
  refine ⟨?_, fun r n idle response clocked => ?_, fun n idle response clocked => ?_, fun bytes n receiving request clocked => ?_,
    fun seq kinds strange => ⟨?_, ?_⟩, fun seq kinds named => ⟨?_, ?_⟩⟩
  · obtain ⟨others, frame⟩ := setPort_leaves s p (s.port p).reset
    have port : (s.setPort p (s.port p).reset).port p = (s.port p).reset := port_setPort_self s p _
    have ignored (bytes : List Byte) : (s.setPort p (s.port p).reset).receiveBytes p bytes = s.setPort p (s.port p).reset :=
      receiveBytes_wasReset _ bytes (by rw [port]; rfl)
    refine ⟨_, rfl, frame, others, ?_, ?_, ?_, ?_, ?_, fun bytes => ?_, fun bytes => ?_⟩
    · rw [port]; rfl
    · rw [port]; rfl
    · rw [port]; rfl
    · rw [port]; rfl
    · rw [port]; rfl
    · rw [exec_bytesLow, ignored]
    · rw [exec_bytesReleased, ignored]
      exact congrArg (fun x => Host.Outcome.next (State.setPort _ p x)) (released_of_idle _ (by rw [port]; rfl))
  · obtain ⟨others, frame⟩ := setPort_leaves s p ((s.port p).fetched n)
    obtain ⟨left, rests, out⟩ := fetched_of_response clocked ((released_response_of_idle idle).trans response)
    refine ⟨_, rfl, ?_, fetch_sameNotices s p n, ?_, ?_, others, frame⟩ <;> rw [port_setPort_self] <;> assumption
  · obtain ⟨others, frame⟩ := setPort_leaves s p ((s.port p).fetched n)
    obtain ⟨left, rests, out⟩ := fetched_of_none clocked ((released_response_of_idle idle).trans response)
    refine ⟨_, rfl, ?_, fetch_sameNotices s p n, ?_, ?_, others, frame⟩ <;> rw [port_setPort_self] <;> assumption
  · obtain ⟨others, frame⟩ := setPort_leaves s p ((s.port p).fetched n)
    obtain ⟨left, rests, out⟩ := fetched_of_response clocked (released_response_of_cut receiving request)
    refine ⟨_, rfl, ?_, fetch_sameNotices s p n, ?_, ?_, others, frame⟩ <;> rw [port_setPort_self] <;> assumption
  · exact next_answer s seq (permitted_any p rfl) (noticeAckReply_strange s strange)
  · exact next_answer s seq (permitted_any p rfl) (noticeMaskReply_strange s strange)
  · exact ⟨_, next_answer s seq (permitted_any p rfl) (noticeAckReply_named s named),
      judgedPort_answered s p { s.port p with flags := (s.port p).flags &&& ~~~kinds } .noticeAck seq⟩
  · obtain ⟨flags, mask, rest⟩ := judgedPort_answered s p { s.port p with mask := kinds } .noticeMask seq
    exact ⟨_, next_answer s seq (permitted_any p rfl) (noticeMaskReply_named s named), mask, flags, rest⟩

/-! ## The bytes of a transaction (R169, R171) -/

/-- What a port's refusal of a request frame leaves, by the rise of select (R171). -/
theorem setPort_refused (p : Port) (frame : List Byte) (result : ResultCode) (released : Bool) :
    s.setPort p { (s.port p).answered (refusal frame result) frame.length with link := if released then .listening else .judged } =
      s.refusedFrame p (frame.getD 0 0) (frame.getD 1 0) result frame.length released := rfl

theorem judgedLow_released (x : PortState) (r : Response) (n : Nat) :
    (x.judgedLow r n).released = { x.answered r n with link := .listening } := rfl

/-- A frame that its judgement refuses is refused at once, whether select rises or not. -/
theorem frameRefused_of_refused {p : Port} {bytes : List Byte} {result : ResultCode} (listening : (s.port p).link = .listening)
    (judgement : judgeFrame p (s.frameBytes p bytes) = .refused result) (released : Bool) :
    exec (.frameRefused p bytes released) s =
      .next (s.refusedFrame p ((s.frameBytes p bytes).getD 0 0) ((s.frameBytes p bytes).getD 1 0) result (s.frameBytes p bytes).length
        released) := by
  have received : s.receiveBytes p bytes =
      s.setPort p ((s.port p).judgedLow (refusal (s.frameBytes p bytes) result) (s.frameBytes p bytes).length) := by
    rw [receiveBytes_listening s bytes listening, State.judgeFrame, judgement]
  cases released with
  | false => rw [exec_bytesLow, received]; rfl
  | true => rw [exec_bytesReleased, received, releaseSelect_setPort, judgedLow_released]; rfl

theorem receiveBytes_of_receiving {p : Port} {bytes : List Byte} (listening : (s.port p).link = .listening)
    (judgement : judgeFrame p (s.frameBytes p bytes) = .receiving) :
    s.receiveBytes p bytes =
      s.setPort p { s.port p with
        frame := .receiving (s.frameBytes p bytes), dataOut := filler (s.frameBytes p bytes).length } := by
  rw [receiveBytes_listening s bytes listening, State.judgeFrame, judgement]

/-- A request frame that the rise of select cuts short is refused for its length (R171). -/
theorem frameRefused_of_cut {p : Port} {bytes : List Byte} (listening : (s.port p).link = .listening)
    (judgement : judgeFrame p (s.frameBytes p bytes) = .receiving) (request : (s.frameBytes p bytes).head? ≠ some 0) :
    exec (.frameRefused p bytes true) s =
      .next (s.refusedFrame p ((s.frameBytes p bytes).getD 0 0) ((s.frameBytes p bytes).getD 1 0) .badLength
        (s.frameBytes p bytes).length true) := by
  have begins : beginsFetch (s.frameBytes p bytes) = false := decide_eq_false request
  rw [exec_bytesReleased, receiveBytes_of_receiving s listening judgement, releaseSelect_setPort, PortState.released,
    PortState.endTransaction]
  dsimp only
  rw [begins]
  rfl

/-- The same two, for a frame whose length byte has arrived. -/
theorem frameRefused_of_frame {p : Port} {bytes body : List Byte} {kind seq len : Byte} {result : ResultCode}
    (listening : (s.port p).link = .listening) (frame : s.frameBytes p bytes = kind :: seq :: len :: body)
    (judgement : judgeFrame p (kind :: seq :: len :: body) = .refused result) (released : Bool) :
    exec (.frameRefused p bytes released) s = .next (s.refusedFrame p kind seq result (3 + body.length) released) := by
  have refused := frameRefused_of_refused s listening (frame ▸ judgement) released
  rw [frame] at refused
  rw [Nat.add_comm]
  exact refused

theorem frameRefused_of_cutFrame {p : Port} {bytes body : List Byte} {kind seq len : Byte}
    (listening : (s.port p).link = .listening) (frame : s.frameBytes p bytes = kind :: seq :: len :: body)
    (judgement : judgeFrame p (kind :: seq :: len :: body) = .receiving) (request : kind ≠ 0) :
    exec (.frameRefused p bytes true) s = .next (s.refusedFrame p kind seq .badLength (3 + body.length) true) := by
  have cut := frameRefused_of_cut s listening (frame ▸ judgement) (by simpa [frame] using request)
  rw [frame] at cut
  rw [Nat.add_comm]
  exact cut

theorem requestKind?_none {n : Nat} (large : 40 < n) : requestKind? n = none := by
  unfold requestKind?
  split <;> first | rfl | omega

theorem requestKind?_of_code {n : Nat} {k : RequestKind} (h : n = k.code) : requestKind? n = some k := by
  subst h; cases k <;> rfl

theorem judgeComplete_badKind (p : Port) {kind : Nat} (length : Nat) (large : 40 < kind) :
    judgeComplete p kind length = .refused .badKind := by
  rw [judgeComplete, requestKind?_none large]

theorem judgeComplete_forbidden {p : Port} {kind : Nat} {k : RequestKind} (length : Nat) (code : kind = k.code)
    (forbidden : k.permitted p = false) : judgeComplete p kind length = .refused .notPermitted := by
  rw [judgeComplete, requestKind?_of_code code]
  exact if_pos (by simp [forbidden])

theorem judgeComplete_badLength {p : Port} {kind length : Nat} {k : RequestKind} (code : kind = k.code) (allowed : k.permitted p = true)
    (other : k.bodyLength ≠ length) : judgeComplete p kind length = .refused .badLength := by
  rw [judgeComplete, requestKind?_of_code code]
  exact (if_neg (by simp [allowed])).trans (if_pos other)

section
variable {p : Port} {kind : Byte} (seq : Byte) {len : Byte} {body : List Byte} (request : kind ≠ 0)
include request

theorem judgeFrame_tooLong (long : 60 < len.toNat) : judgeFrame p (kind :: seq :: len :: body) = .refused .badLength :=
  (if_neg request).trans (if_pos long)

theorem judgeFrame_partial (short : len.toNat ≤ 60) (partly : body.length < len.toNat) :
    judgeFrame p (kind :: seq :: len :: body) = .receiving :=
  (if_neg request).trans ((if_neg (Nat.not_lt.mpr short)).trans (if_pos partly))

theorem judgeFrame_complete (short : len.toNat ≤ 60) (complete : len.toNat ≤ body.length) :
    judgeFrame p (kind :: seq :: len :: body) = judgeComplete p kind.toNat len.toNat :=
  (if_neg request).trans ((if_neg (Nat.not_lt.mpr short)).trans (if_neg (Nat.not_lt.mpr complete)))

end

theorem judgeFrame_one {p : Port} {kind : Byte} (request : kind ≠ 0) : judgeFrame p [kind] = .receiving := if_neg request

theorem judgeFrame_two {p : Port} {kind : Byte} (seq : Byte) (request : kind ≠ 0) : judgeFrame p [kind, seq] = .receiving :=
  if_neg request

/-- The state in which a request has been answered, with its port deaf until select rises. -/
theorem setPort_judgedLow (p : Port) (k : RequestKind) (seq : Byte) (r : Reply) {n : Nat} (length : n = 3 + k.bodyLength) :
    r.state.setPort p ((r.state.port p).judgedLow (takenResponse k seq r) n) =
      (r.state.respond p (BitVec.ofNat 8 k.code) seq r.result r.body).setPort p
        { (r.state.respond p (BitVec.ofNat 8 k.code) seq r.result r.body).port p with link := .judged } := by
  have clocked : requestLength (BitVec.ofNat 8 k.code) = n := by
    rw [requestLength, requestKind?_code, length]; rfl
  rw [respond_port_self, State.respond, setPort_setPort, clocked]
  rfl

theorem requestFrame_length {c : Instr} {h : RequestHeader} (e : requestOf c = some h) :
    (requestFrame h (bodyOf c)).length = 3 + h.kind.bodyLength := by
  simp [requestFrame, bodyOf_length c h e]; omega

/-- The bytes of a request's frame come to its command, heard until they are judged (R171). -/
theorem receiveBytes_request {c : Instr} {h : RequestHeader} {bytes : List Byte} (e : requestOf c = some h)
    (listening : (s.port h.port).link = .listening) (frame : s.frameBytes h.port bytes = requestFrame h (bodyOf c)) :
    let t := s.answer h.kind h.port h.seq (replyTo h.kind h.port (bodyOf c) s)
    s.receiveBytes h.port bytes = t.setPort h.port { t.port h.port with link := .judged } := by
  intro t
  have judgement := judgeFrame_requestFrame c h e
  rw [receiveBytes_listening s bytes listening, frame, State.judgeFrame, judgement]
  cases allowed : h.kind.permitted h.port with
  | true =>
    have body : ((requestFrame h (bodyOf c)).drop 3).take h.kind.bodyLength = bodyOf c :=
      List.take_of_length_le (Nat.le_of_eq (bodyOf_length c h e))
    have answered : t = _ := answer_permitted s h.kind h.port h.seq _ allowed
    rw [answered]
    show s.takeFrame h.port h.kind (requestFrame h (bodyOf c)) = _
    rw [State.takeFrame, body]
    exact setPort_judgedLow h.port h.kind h.seq _ (requestFrame_length e)
  | false =>
    have answered : t = _ := answer_notPermitted s h.kind h.port h.seq _ allowed
    rw [answered]
    exact setPort_judgedLow h.port h.kind h.seq { state := s, result := .notPermitted, body := [] } (requestFrame_length e)

/-- An answer leaves its port at rest and listening. -/
theorem answer_port (k : RequestKind) (p : Port) (seq : Byte) (r : Reply) :
    ((s.answer k p seq r).port p).frame = .idle ∧ ((s.answer k p seq r).port p).link = .listening := by
  unfold State.answer
  split <;> rw [respond_port_self] <;> exact ⟨rfl, rfl⟩

/-- At the rise of select a port that a judgement left deaf listens again. -/
theorem releaseSelect_judged {t : State} {p : Port} (idle : (t.port p).frame = .idle) (listening : (t.port p).link = .listening) :
    (t.setPort p { t.port p with link := .judged }).releaseSelect p = t := by
  have heard : PortState.released { t.port p with link := .judged } = t.port p :=
    (released_of_idle { t.port p with link := .judged } idle).trans (withLink_of (x := t.port p) listening)
  rw [releaseSelect_setPort, heard, setPort_port]

/-- Bytes that begin a fetch come to the fetch of as many bytes (R169, R172). -/
theorem fetching_released {x : PortState} {bytes : List Byte} (idle : x.frame = .idle) (listening : x.link = .listening)
    (fetch : bytes.head? = some 0) (some : bytes ≠ []) : (x.fetching bytes).released = x.fetched bytes.length := by
  have begins : beginsFetch bytes = true := decide_eq_true fetch
  have released : x.released = x := (released_of_idle x idle).trans (withLink_of listening)
  have ended : (x.fetching bytes).endTransaction = (x.fetching bytes).fetchEnded bytes.length := if_pos begins
  rw [fetched_eq (List.length_pos_iff.mpr some) released, PortState.released, ended]
  exact withLink_of (x := { x with
    frame := .idle, dataOut := driven x.frameToFetch bytes.length
    response := if x.frameToFetch.length < bytes.length then none else x.response }) listening

/-- Settles O51: the bytes by their judgement, and what is ignored after one. -/
theorem framesFollowR171 : Obligations.FramesFollowR171 := by
  intro s p bytes
  refine ⟨fun listening => ⟨fun kind seq len body frame request => ⟨fun long => ?_, fun short partly => ⟨?_, ?_⟩,
      fun short complete released => ⟨fun large => ?_, fun k code => ⟨fun forbidden => ?_, fun allowed other => ?_⟩⟩⟩,
    fun kind frame request => ?_, fun kind seq frame request => ?_, fun c h e at_p fits frame => ?_, fun rest idle fetch => ?_⟩,
    fun judged idle released => ?_⟩
  · exact frameRefused_of_frame s listening frame (judgeFrame_tooLong seq request long)
  · exact frameRefused_of_cutFrame s listening frame (judgeFrame_partial seq request short partly) request
  · rw [exec_bytesLow, receiveBytes_of_receiving s listening (by rw [frame]; exact judgeFrame_partial seq request short partly), frame,
      Nat.add_comm 3]
    rfl
  · exact frameRefused_of_frame s listening frame
      ((judgeFrame_complete seq request short complete).trans (judgeComplete_badKind p _ large)) released
  · exact frameRefused_of_frame s listening frame
      ((judgeFrame_complete seq request short complete).trans (judgeComplete_forbidden _ code forbidden)) released
  · exact frameRefused_of_frame s listening frame
      ((judgeFrame_complete seq request short complete).trans (judgeComplete_badLength code allowed other)) released
  · have cut := frameRefused_of_cut s (bytes := bytes) listening (by rw [frame]; exact judgeFrame_one request)
      (by simpa [frame] using request)
    simpa [frame] using cut
  · have cut := frameRefused_of_cut s (bytes := bytes) listening (by rw [frame]; exact judgeFrame_two seq request)
      (by simpa [frame] using request)
    simpa [frame] using cut
  · subst at_p
    have run := exec_request s c h e fits
    have received := receiveBytes_request s e listening frame
    obtain ⟨rests, listens⟩ := answer_port s h.kind h.port h.seq (replyTo h.kind h.port (bodyOf c) s)
    refine ⟨?_, _, run, ?_⟩
    · rw [exec_bytesReleased, received, releaseSelect_judged rests listens, run]
    · rw [exec_bytesLow, received]
  · subst fetch
    have frame : s.frameBytes p (0 :: rest) = 0 :: rest := by rw [State.frameBytes, idle]; rfl
    have received : s.receiveBytes p (0 :: rest) = s.setPort p ((s.port p).fetching (0 :: rest)) := by
      rw [receiveBytes_listening s _ listening, frame, State.judgeFrame, (judgeFrame_fetch_iff p _).mpr rfl]
    rw [exec_bytesReleased, received, releaseSelect_setPort, fetching_released idle listening rfl (List.cons_ne_nil _ _)]
    rfl
  · cases released with
    | false =>
      rw [exec_bytesLow, receiveBytes_judged s bytes judged]
      simp [filler, ← judged]
    | true =>
      rw [exec_bytesReleased, receiveBytes_judged s bytes judged, releaseSelect_setPort]
      exact congrArg (fun x => Host.Outcome.next (s.setPort p x)) (released_of_idle _ idle)

end Sys2Proof.Machine
end

section
/-! SUPPORT. MARK_DIVERT by the stage of its record, and what a leave hands on: the counts, the slot, the entry, the tie and the holds. -/

namespace Sys2Proof.Machine

variable (s : State)

/-! ## MARK_DIVERT (R83) -/

theorem ahead_iff (a b : Pos) : ahead a b = true ↔ 0 < (a - b).toInt := decide_eq_true_iff

theorem reached_iff (a b : Pos) : reached a b = true ↔ (a - b).toInt ≤ 0 := by
  simp [reached, ahead, posDiff]

/-- The record of its tag after one has been put in its place. -/
theorem record?_putRecord {s : State} {r x : LoafRecord} (found : s.record? r.tag = some x) : (s.putRecord r).record? r.tag = some r := by
  show (s.queue.records.map fun y => if y.tag = r.tag then r else y).find? _ = _
  rw [List.find?_map]
  have test : s.queue.records.find? ((fun y => decide (y.tag = r.tag)) ∘ fun y => if y.tag = r.tag then r else y) = s.record? r.tag := by
    refine List.find?_congr fun y _ => ?_
    by_cases h : y.tag = r.tag <;> simp [h]
  rw [test, found]
  simp [record?_tag found]

theorem markBytes_of_found {s : State} {tag : Nat} {r : LoafRecord} (found : s.record? tag = some r) :
    s.markBytes tag = u8 tag ++ u8 1 ++ u8 r.stage.code ++ u8 r.reasons.code := by
  rw [State.markBytes, found, List.append_assoc, List.append_assoc]; rfl

theorem markBytes_of_absent {s : State} {tag : Nat} (absent : s.record? tag = none) :
    s.markBytes tag = u8 tag ++ u8 0 ++ u8 0 ++ u8 0 := by
  rw [State.markBytes, absent, List.append_assoc, List.append_assoc]; rfl

theorem markDivertReply_outOfRange {tag : Nat} (out : isTag tag = false) :
    markDivertReply tag s = { state := s, result := .outOfRange, body := u8 tag ++ u8 0 ++ u8 0 ++ u8 0 } := by
  rw [markDivertReply, out, List.append_assoc, List.append_assoc]; rfl

theorem markDivertReply_absent {s : State} {tag : Nat} (tagOk : isTag tag = true) (absent : s.record? tag = none) :
    markDivertReply tag s = { state := s, result := .noSuchTag, body := u8 tag ++ u8 0 ++ u8 0 ++ u8 0 } := by
  rw [markDivertReply, tagOk, absent, markBytes_of_absent absent]; rfl

/-- The reply for a record found, by what the mark makes of it. -/
theorem markDivertReply_found {s t : State} {tag : Nat} {r x : LoafRecord} {result : ResultCode} (tagOk : isTag tag = true)
    (found : s.record? tag = some r) (mark : s.markRecord r = (t, result)) (after : t.record? tag = some x) :
    markDivertReply tag s =
      { state := t, result := result, body := u8 tag ++ u8 1 ++ u8 x.stage.code ++ u8 x.reasons.code } := by
  rw [markDivertReply, tagOk, found, ← markBytes_of_found after]
  show ({ state := (s.markRecord r).1, result := (s.markRecord r).2, body := (s.markRecord r).1.markBytes tag } : Reply) = _
  rw [mark]

theorem markPosition_of_stations {s : State} {r : LoafRecord} {m : Pos} {g : GateStation} {e : EyeStation} (matched : r.lastMatch = some m)
    (gate : s.gateStation .reject = some g) (eye : s.eyeStation .e1 = some e) :
    s.markPosition r =
      let q := firePosition m (g.distance - e.distance) (lead s.pos.v g.latency)
      if ahead q s.pos.h then some q else none := by
  have position : s.rejectPosition m = some (firePosition m (g.distance - e.distance) (lead s.pos.v g.latency)) := by
    rw [State.rejectPosition, gate, eye]
  rw [State.markPosition, matched]
  simp only [position]

theorem judgeWithdrawn_noticed {r : LoafRecord} (fetched : r.fetched = true) (stage : r.stage = .toSlicer ∨ r.stage = .toBag) :
    Noticed (s.judgeWithdrawn r) .bagger .bagWithdrawn := by
  have told : s.judgeWithdrawn r = s.notify .bagger .bagWithdrawn := if_pos ⟨fetched, stage⟩
  rw [told]
  exact noticed_notify_self s rfl

/-- Settles O33: one case per stage of the record marked. -/
theorem markDivertFollowsTheStage : Obligations.MarkDivertFollowsTheStage := by
  refine ⟨fun s p seq tag other => ⟨fun out => ?_, fun low high absent => ?_⟩, ?_⟩
  · exact next_answer s seq (permitted_slicerOffice rfl other) (markDivertReply_outOfRange s (isTag_of_out out))
  · exact next_answer s seq (permitted_slicerOffice rfl other) (markDivertReply_absent (isTag_of_range low high) absent)
  intro s p seq tag r other low high found marked
  have allowed : RequestKind.markDivert.permitted p = true := permitted_slicerOffice rfl other
  have tagOk := isTag_of_range low high
  obtain rfl : r.tag = tag := record?_tag found
  refine ⟨fun stage => ?_, fun stage => ?_, fun stage => ?_, fun m g e stage matched gate eye => ⟨fun ahead' => ?_, fun late => ?_⟩⟩
  · have mark : s.markRecord r = (s.putRecord r.mark, .ok) := by
      unfold State.markRecord
      obtain stage | stage := stage <;> rw [stage]
    exact ⟨_, next_answer s seq allowed (markDivertReply_found tagOk found mark (record?_putRecord found)), rfl,
      respond_answers _ p .markDivert seq .ok _, ((putRecord_frame s _).within rfl).andThen (respond_frame _ _ _ _ _ _) rfl⟩
  · have mark : s.markRecord r = (s, .ok) := by rw [State.markRecord, stage]
    have reply := markDivertReply_found tagOk found mark found
    rw [stage] at reply
    exact next_answer s seq allowed reply
  · have mark : s.markRecord r = (s, .tooLate) := by
      unfold State.markRecord
      obtain stage | stage | stage := stage <;> rw [stage]
    exact next_answer s seq allowed (markDivertReply_found tagOk found mark found)
  · have position := markPosition_of_stations matched gate eye
    rw [if_pos ((ahead_iff _ _).mpr ahead')] at position
    let q := firePosition m (g.distance - e.distance) (lead s.pos.v g.latency)
    have mark : s.markRecord r = (s.divertMarked r q, .ok) := by rw [State.markRecord, stage, position]
    have after : (s.divertMarked r q).record? r.tag = some { r.mark with stage := .diverting, gateFire := some q } := by
      have queue : (s.divertMarked r q).queue = (s.putRecord { r.mark with stage := .diverting, gateFire := some q }).queue :=
        judgeWithdrawn_frame _ r .queue (by decide)
      rw [State.record?, queue]
      exact record?_putRecord (r := { r.mark with stage := .diverting, gateFire := some q }) found
    refine ⟨_, next_answer s seq allowed (markDivertReply_found tagOk found mark after), ?_, fun fetched => ?_,
      respond_answers _ p .markDivert seq .ok _, ?_⟩
    · exact judgeWithdrawn_frame _ r .queue (by decide)
    · exact (judgeWithdrawn_noticed _ fetched (.inr stage)).respond _ _ _ _ _
    · exact (((putRecord_frame s _).within rfl).andThen (judgeWithdrawn_frame _ r) rfl).andThen (respond_frame _ _ _ _ _ _) rfl
  · have position := markPosition_of_stations matched gate eye
    rw [if_neg (by rw [ahead_iff]; omega)] at position
    have mark : s.markRecord r = (s, .tooLate) := by rw [State.markRecord, stage, position]
    have reply := markDivertReply_found tagOk found mark found
    rw [stage] at reply
    exact next_answer s seq allowed reply

/-! ## Leaves (R31, R74, R82, R84, R105, R127) -/

/-! ### The slot -/

theorem slot_lowerInFlight_self (i : Fin 16) :
    (s.lowerInFlight i).slot i =
      if (s.slot i).state = .retiring ∧ (s.slot i).inFlight - 1 = 0 then
        { state := .empty, product := none, inFlight := (s.slot i).inFlight - 1 }
      else { s.slot i with inFlight := (s.slot i).inFlight - 1 } := by
  unfold State.lowerInFlight
  dsimp only
  split
  · exact ((notify_frame _ _ _).slot (by decide) i).trans (slot_setSlot_self s i _)
  · exact slot_setSlot_self s i _

theorem slot_lowerInFlight_of_ne {i j : Fin 16} (ne : j ≠ i) : (s.lowerInFlight i).slot j = s.slot j := by
  unfold State.lowerInFlight
  dsimp only
  split
  · exact ((notify_frame _ _ _).slot (by decide) j).trans (slot_setSlot_of_ne s i j _ ne)
  · exact slot_setSlot_of_ne s i j _ ne

theorem lowerInFlight_freed {i : Fin 16} (retiring : (s.slot i).state = .retiring) (last : (s.slot i).inFlight ≤ 1) :
    Noticed (s.lowerInFlight i) .office .recipeFreed := by
  have freed : (s.slot i).state = .retiring ∧ (s.slot i).inFlight - 1 = 0 := ⟨retiring, by omega⟩
  unfold State.lowerInFlight
  rw [if_pos freed]
  exact noticed_notify_self _ rfl

theorem lowerInFlight_tells (i : Fin 16) : Tells [.recipeFreed] s (s.lowerInFlight i) := by
  have set (x : Slot) : Tells [.recipeFreed] s (s.setSlot i x) := (setSlot_frame s i x).tells (by decide)
  exact .ite ((set _).trans (notify_tells _ (p := .office) rfl)) (set _)

/-- A leave counted, before the record is taken out. -/
def State.counted (s : State) (r : LoafRecord) (o : LeaveOutcome) : State := (s.countLeave r o).countInEntry r o

theorem counted_frame (r : LoafRecord) (o : LeaveOutcome) : OnlyTouches [.totals, .schedule, .ports] s (s.counted r o) :=
  ((countLeave_frame s r o).within rfl).andThen (countInEntry_frame _ r o) rfl

/-- The record's slot and the counts have been served, and the record is still in the queue. -/
def State.handedOn (s : State) (r : LoafRecord) (o : LeaveOutcome) : State := (s.counted r o).lowerInFlight r.slot

theorem handedOn_frame (r : LoafRecord) (o : LeaveOutcome) : OnlyTouches [.totals, .schedule, .recipes, .ports] s (s.handedOn r o) :=
  ((counted_frame s r o).within rfl).andThen (lowerInFlight_frame _ _) rfl

theorem leave_eq (r : LoafRecord) (o : LeaveOutcome) :
    s.leave r o = (((s.handedOn r o).removeRecord r.tag).withdrawTie r.tag).judgeBlasts := rfl

theorem leave_after_handedOn (r : LoafRecord) (o : LeaveOutcome) :
    OnlyTouches [.queue, .bag, .crumb, .line, .ports] (s.handedOn r o) (s.leave r o) :=
  (((removeRecord_frame (s.handedOn r o) r.tag).within rfl).andThen (withdrawTie_frame _ _) rfl).andThen (judgeBlasts_frame _) rfl

theorem removeRecord_tells (tag : Nat) : Tells [.holdChanged] s (s.removeRecord tag) := by
  have set : Tells [.holdChanged] s (s.setQueue { s.queue with records := dropRecord tag s.queue.records }) :=
    (setQueue_frame s _).tells (by decide)
  exact .ite (set.trans (releaseHold_tells _ _)) set

/-- What follows the removal of the record in a leave tells nothing. -/
theorem leave_after_removed (r : LoafRecord) (o : LeaveOutcome) : Tells [] ((s.handedOn r o).removeRecord r.tag) (s.leave r o) :=
  ((withdrawTie_frame _ r.tag).tells (by decide)).trans ((judgeBlasts_frame _).tells (by decide))

theorem leave_tells_after_handedOn (r : LoafRecord) (o : LeaveOutcome) : Tells [.holdChanged] (s.handedOn r o) (s.leave r o) :=
  (removeRecord_tells (s.handedOn r o) r.tag).trans ((leave_after_removed s r o).within (List.nil_subset _))

theorem slot_leave_self (r : LoafRecord) (o : LeaveOutcome) :
    (s.leave r o).slot r.slot =
      if (s.slot r.slot).state = .retiring ∧ (s.slot r.slot).inFlight - 1 = 0 then
        { state := .empty, product := none, inFlight := (s.slot r.slot).inFlight - 1 }
      else { s.slot r.slot with inFlight := (s.slot r.slot).inFlight - 1 } := by
  have before : (s.counted r o).slot r.slot = s.slot r.slot := (counted_frame s r o).slot (by decide) _
  rw [(leave_after_handedOn s r o).slot (by decide), State.handedOn, slot_lowerInFlight_self, before]

theorem slot_leave_of_ne (r : LoafRecord) (o : LeaveOutcome) {i : Fin 16} (ne : i ≠ r.slot) : (s.leave r o).slot i = s.slot i := by
  rw [(leave_after_handedOn s r o).slot (by decide), State.handedOn, slot_lowerInFlight_of_ne _ ne]
  exact (counted_frame s r o).slot (by decide) i

theorem leave_freed {r : LoafRecord} (o : LeaveOutcome) (retiring : (s.slot r.slot).state = .retiring)
    (last : (s.slot r.slot).inFlight ≤ 1) : Noticed (s.leave r o) .office .recipeFreed := by
  have before : (s.counted r o).slot r.slot = s.slot r.slot := (counted_frame s r o).slot (by decide) _
  exact (leave_tells_after_handedOn s r o).stands
    (lowerInFlight_freed (s.counted r o) (by rw [before]; exact retiring) (by rw [before]; exact last))

/-! ### The tie and the holds -/

theorem withdrawTie_bag (tag : Nat) :
    (s.withdrawTie tag).bag = { s.bag with
      pendingTies := s.bag.pendingTies.filter fun x => decide (x.tag ≠ tag)
      tieInFlight := s.bag.tieInFlight.map fun f => if f.tag = tag then { f with present := false } else f } := rfl

theorem leave_bag (r : LoafRecord) (o : LeaveOutcome) :
    (s.leave r o).bag = { s.bag with
      pendingTies := s.bag.pendingTies.filter fun x => decide (x.tag ≠ r.tag)
      tieInFlight := s.bag.tieInFlight.map fun f => if f.tag = r.tag then { f with present := false } else f } := by
  have before : ((s.handedOn r o).removeRecord r.tag).bag = s.bag := by
    rw [removeRecord_frame _ _ .bag (by decide), handedOn_frame s r o .bag (by decide)]
  rw [leave_eq, judgeBlasts_frame _ .bag (by decide), withdrawTie_bag, before]


/-- QUEUE_FULL at a removal: released when the count falls to 40 (R84). -/
theorem held_removeRecord (tag : Nat) (x : HoldReason) :
    (s.removeRecord tag).held x =
      if (dropRecord tag s.queue.records).length = 40 ∧ x = .queueFull then false else s.held x := by
  unfold State.removeRecord
  dsimp only
  have count : (s.setQueue { s.queue with records := dropRecord tag s.queue.records }).queueCount =
      (dropRecord tag s.queue.records).length := rfl
  rw [count]
  by_cases falls : (dropRecord tag s.queue.records).length = 40
  · rw [if_pos falls, held_releaseHold]
    by_cases full : x = .queueFull
    · subst full; simp [falls]
    · simp [full, Ne.symm full]; rfl
  · rw [if_neg falls, if_neg fun h => falls h.1]
    rfl

theorem removeRecord_noticed {tag : Nat} (falls : (dropRecord tag s.queue.records).length = 40) (full : s.held .queueFull = true)
    (p : Port) :
    Noticed (s.removeRecord tag) p .holdChanged := by
  have release : s.removeRecord tag =
      (s.setQueue { s.queue with records := dropRecord tag s.queue.records }).releaseHold .queueFull := if_pos falls
  rw [release]
  exact (releaseHold_leaves (s.setQueue { s.queue with records := dropRecord tag s.queue.records }) .queueFull full).2 p

theorem held_leave (r : LoafRecord) (o : LeaveOutcome) (x : HoldReason) :
    (s.leave r o).held x =
      if (s.leave r o).queue.records.length = 40 ∧ x = .queueFull then false else s.held x := by
  have after : OnlyTouches [.bag, .crumb] ((s.handedOn r o).removeRecord r.tag) (s.leave r o) :=
    ((withdrawTie_frame _ _).within rfl).andThen (judgeBlasts_frame _) rfl
  have queue : (s.handedOn r o).queue = s.queue := handedOn_frame s r o .queue (by decide)
  rw [after.held (by decide), held_removeRecord, queue, leave_records, (handedOn_frame s r o).held (by decide)]

theorem leave_queueFull_noticed {r : LoafRecord} {o : LeaveOutcome} (falls : (s.leave r o).queue.records.length = 40)
    (full : s.held .queueFull = true) (p : Port) : Noticed (s.leave r o) p .holdChanged := by
  have queue : (s.handedOn r o).queue = s.queue := handedOn_frame s r o .queue (by decide)
  rw [leave_records] at falls
  exact (leave_after_removed s r o).stands
    (removeRecord_noticed (s.handedOn r o) (by rw [queue]; exact falls) (((handedOn_frame s r o).held (by decide) _).trans full) p)

/-! ### The zones and a loss -/

/-- The state in which the blasts of a leave are judged. -/
def State.left (s : State) (r : LoafRecord) (o : LeaveOutcome) : State := ((s.handedOn r o).removeRecord r.tag).withdrawTie r.tag

theorem left_frame (r : LoafRecord) (o : LeaveOutcome) :
    OnlyTouches [.totals, .schedule, .recipes, .queue, .line, .bag, .ports] s (s.left r o) :=
  (((handedOn_frame s r o).within rfl).andThen (removeRecord_frame _ _) rfl).andThen (withdrawTie_frame _ _) rfl

theorem leave_sameLoads (r : LoafRecord) (o : LeaveOutcome) : SameLoads s (s.leave r o) := fun z =>
  (judgeBlasts_load (s.left r o) z).trans (congrArg ZoneState.load ((left_frame s r o).zone (by decide) z))

theorem zoneState_kept (x : ZoneState) : x = { x with load := x.load, purgeOwed := x.purgeOwed && !false } := by
  rw [Bool.not_false, Bool.and_true]

theorem leave_blastsJudged (r : LoafRecord) (o : LeaveOutcome) : BlastsJudged s (s.leave r o) false :=
  blastsJudged_judgeBlasts (u := s.left r o) fun z => by
    rw [(left_frame s r o).zone (by decide) z]
    exact zoneState_kept _

theorem lose_after_leave (r : LoafRecord) : OnlyTouches [.ports] (s.leave r .lost) (s.lose r) :=
  (notify_frame _ _ _).andThen (judgeWithdrawn_frame _ r) rfl

theorem judgeWithdrawn_tells (r : LoafRecord) : Tells [.bagWithdrawn] s (s.judgeWithdrawn r) :=
  .ite (notify_tells s (p := .bagger) rfl) (.refl _ s)

theorem lose_lostLoaf (r : LoafRecord) : Noticed (s.lose r) .office .lostLoaf :=
  (judgeWithdrawn_tells _ r).stands (noticed_notify_self _ rfl)

/-! ### The entry (R104, R105) -/

theorem countInEntry_of_none {r : LoafRecord} (o : LeaveOutcome) (entry : r.entry = none) : s.countInEntry r o = s := by
  rw [State.countInEntry, entry]

/-- The schedule after a leave is the one its counting leaves. -/
theorem leave_schedule (r : LoafRecord) (o : LeaveOutcome) : (s.leave r o).schedule = ((s.countLeave r o).countInEntry r o).schedule := by
  rw [leave_after_handedOn s r o .schedule (by decide)]
  exact lowerInFlight_frame _ _ .schedule (by decide)

theorem leave_schedule_of_none {r : LoafRecord} (o : LeaveOutcome) (entry : r.entry = none) : (s.leave r o).schedule = s.schedule := by
  rw [leave_schedule, countInEntry_of_none _ o entry]; rfl

/-- An entry with a leave counted in it and closed when nothing of it is left to come. -/
def Entry.left (e : Entry) (r : LoafRecord) (o : LeaveOutcome) : Entry :=
  Entry.closed { e.countLeave r o with carried := e.carried - 1 }

theorem Entry.countLeave_keeps (e : Entry) (r : LoafRecord) (o : LeaveOutcome) :
    (e.countLeave r o).id = e.id ∧ (e.countLeave r o).state = e.state := by
  unfold Entry.countLeave
  cases r.plan with
  | none => exact ⟨rfl, rfl⟩
  | some _ =>
    cases o with
    | diverted => dsimp only; split_ifs <;> exact ⟨rfl, rfl⟩
    | lost | flushed => dsimp only; split <;> exact ⟨rfl, rfl⟩
    | good | bagFail | untied | unconfirmed => exact ⟨rfl, rfl⟩

theorem Entry.left_eq (e : Entry) (r : LoafRecord) (o : LeaveOutcome) :
    e.left r o =
      { e.countLeave r o with
        carried := e.carried - 1, state := if e.state = .filled ∧ e.carried ≤ 1 then .closed else e.state } := by
  obtain ⟨-, state⟩ := Entry.countLeave_keeps e r o
  unfold Entry.left Entry.closed
  dsimp only
  rw [state]
  by_cases done : e.state = .filled ∧ e.carried ≤ 1
  · rw [if_pos done, if_pos ⟨done.1, by omega⟩]
  · rw [if_neg done, if_neg fun h => done ⟨h.1, by omega⟩]

section
variable {s : State} {r : LoafRecord} {e : Entry} (entry : r.entry = some e.id) (mem : e ∈ s.schedule.entries)
  (ids : (s.schedule.entries.map Entry.id).Nodup) (o : LeaveOutcome)

/-- A leave counted in an entry. -/
def State.entryCounted (s : State) (id : Nat) (r : LoafRecord) (o : LeaveOutcome) : State :=
  s.updateEntry id fun x => { x.countLeave r o with carried := x.carried - 1 }

include entry in
theorem countInEntry_eq : s.countInEntry r o = (s.entryCounted e.id r o).closeEntry e.id := by
  rw [State.countInEntry, entry]; rfl

include mem in
theorem mem_entryCounted :
    { e.countLeave r o with carried := e.carried - 1 } ∈ (s.entryCounted e.id r o).schedule.entries :=
  List.mem_map.mpr ⟨e, mem, if_pos rfl⟩

include ids in
theorem entryCounted_ids : ((s.entryCounted e.id r o).schedule.entries.map Entry.id).Nodup := by
  have same : (s.entryCounted e.id r o).schedule.entries.map Entry.id = s.schedule.entries.map Entry.id := by
    refine (List.map_map ..).trans (List.map_congr_left fun y _ => ?_)
    show Entry.id (if y.id = e.id then _ else y) = y.id
    split
    · exact (Entry.countLeave_keeps y r o).1
    · rfl
  rwa [same]

include entry mem ids in
theorem countInEntry_schedule :
    (s.countInEntry r o).schedule = { s.schedule with
      entries := s.schedule.entries.map fun y => if y.id = e.id then e.left r o else y } := by
  have closes := closeEntry_schedule (s.entryCounted e.id r o) (entryCounted_ids ids o) (mem_entryCounted (r := r) mem o)
  have id : ({ e.countLeave r o with carried := e.carried - 1 } : Entry).id = e.id := (Entry.countLeave_keeps e r o).1
  rw [id] at closes
  have entries : ((s.entryCounted e.id r o).schedule.entries.map fun y => if y.id = e.id then e.left r o else y) =
      s.schedule.entries.map fun y => if y.id = e.id then e.left r o else y := by
    refine (List.map_map ..).trans (List.map_congr_left fun y _ => ?_)
    by_cases same : y.id = e.id
    · simp [same, (Entry.countLeave_keeps y r o).1, Entry.left]
    · simp [same]
  rw [countInEntry_eq entry, closes]
  exact congrArg (fun l => { s.schedule with entries := l }) entries

include entry mem ids in
/-- A FILLED entry whose last loaf leaves is closed with its notice (R105). -/
theorem leave_entryClosed (filled : e.state = .filled) (last : e.carried ≤ 1) : Noticed (s.leave r o) .office .entryClosed := by
  have found : ((s.countLeave r o).entryCounted e.id r o).entry? e.id = some { e.countLeave r o with carried := e.carried - 1 } := by
    have := entry?_of_mem (s := (s.countLeave r o).entryCounted e.id r o) (entryCounted_ids (s := s.countLeave r o) ids o)
      (mem_entryCounted (s := s.countLeave r o) (r := r) mem o)
    rwa [show ({ e.countLeave r o with carried := e.carried - 1 } : Entry).id = e.id from (Entry.countLeave_keeps e r o).1] at this
  have done : ({ e.countLeave r o with carried := e.carried - 1 } : Entry).state = .filled
      ∧ ({ e.countLeave r o with carried := e.carried - 1 } : Entry).carried = 0 :=
    ⟨(Entry.countLeave_keeps e r o).2.trans filled, by dsimp only; omega⟩
  have counted : Noticed (s.counted r o) .office .entryClosed := by
    rw [State.counted, countInEntry_eq (s := s.countLeave r o) entry, closeEntry_of_done _ found done]
    exact noticed_notify_self _ rfl
  exact (leave_tells_after_handedOn s r o).stands ((lowerInFlight_tells _ _).stands counted)

end

/-! ### The counts of an entry, by the outcome (R104) -/

theorem Entry.countLeave_unplanned (e : Entry) {r : LoafRecord} (o : LeaveOutcome) (plan : r.plan = none) :
    e.countLeave r o = { e with unmeasured := raise e.unmeasured } := by
  unfold Entry.countLeave
  rw [plan]

/-- A planned leave that its size does not except is counted under its outcome. -/
def Entry.countOutcome (e : Entry) : LeaveOutcome → Entry
  | .diverted => { e with diverted := raise e.diverted }
  | .lost => { e with lost := raise e.lost }
  | .flushed => { e with flushed := raise e.flushed }
  | .good => { e with good := raise e.good }
  | .bagFail => { e with bagFail := raise e.bagFail }
  | .untied => { e with untied := raise e.untied }
  | .unconfirmed => { e with unconfirmed := raise e.unconfirmed }

theorem Reasons.size_iff (x : Reasons) : x.size = true ↔ x.undersize = true ∨ x.oversize = true := by
  simp [Reasons.size]

theorem Entry.countLeave_planned (e : Entry) {r : LoafRecord} (o : LeaveOutcome) (plan : r.plan ≠ none) (sized : ¬ r.reasons.size = true) :
    e.countLeave r o = e.countOutcome o := by
  obtain ⟨pl, plan⟩ := Option.ne_none_iff_exists'.mp plan
  unfold Entry.countLeave
  rw [plan]
  cases o with
  | diverted | lost | flushed => exact if_neg sized
  | good | bagFail | untied | unconfirmed => rfl

/-- A loaf of a wrong size, diverted or lost (R104). -/
theorem Entry.countLeave_sized (e : Entry) {r : LoafRecord} (plan : r.plan ≠ none) (sized : r.reasons.size = true) :
    (e.diverted < countLimit →
        e.countLeave r .diverted = { e with diverted := raise e.diverted, sizeDiverted := raise e.sizeDiverted })
      ∧ (e.diverted = countLimit → e.countLeave r .diverted = e)
      ∧ e.countLeave r .lost = { e with sizeLost := raise e.sizeLost }
      ∧ e.countLeave r .flushed = { e with sizeLost := raise e.sizeLost } := by
  obtain ⟨pl, plan⟩ := Option.ne_none_iff_exists'.mp plan
  unfold Entry.countLeave
  rw [plan]
  exact ⟨fun below => (if_pos sized).trans (if_pos below), fun full => (if_pos sized).trans (if_neg (by omega)), if_pos sized, if_pos sized⟩

/-! ### The counts of a shift (R154) -/

theorem countLeave_known (x : ShiftRecord) {before after : List ProductEntry} {e : ProductEntry} (r : LoafRecord) (o : LeaveOutcome)
    (split : x.products = before ++ e :: after) (alone : ∀ y ∈ before ++ after, y.code ≠ e.code) :
    x.countLeave (some e.code) r o = { x with products := before ++ e.countLeave r o :: after } := by
  have known : (x.products.any fun y => decide (y.code = e.code)) = true := by simp [split]
  have others (l : List ProductEntry) (sub : ∀ y ∈ l, y ∈ before ++ after) :
      (l.map fun y => if y.code = e.code then y.countLeave r o else y) = l :=
    List.map_congr_left (fun y hy => if_neg (alone y (sub y hy))) |>.trans (List.map_id _)
  have counted : (x.products.map fun y => if y.code = e.code then y.countLeave r o else y) = before ++ e.countLeave r o :: after := by
    rw [split, List.map_append, List.map_cons, if_pos rfl, others before fun y => List.mem_append_left _,
      others after fun y => List.mem_append_right _]
  rw [ShiftRecord.countLeave, if_pos known, counted]

theorem not_known {x : ShiftRecord} {c : Nat} (none : ∀ e ∈ x.products, e.code ≠ c) :
    ¬ (x.products.any fun y => decide (y.code = c)) = true := by
  simpa using none

theorem countLeave_new {x : ShiftRecord} {c : Nat} (r : LoafRecord) (o : LeaveOutcome) (none : ∀ e ∈ x.products, e.code ≠ c)
    (room : x.products.length < 24) :
    x.countLeave (some c) r o = { x with products := x.products ++ [(ProductEntry.zero c).countLeave r o] } :=
  (if_neg (not_known none)).trans (if_pos room)

theorem countLeave_full {x : ShiftRecord} {c : Nat} (r : LoafRecord) (o : LeaveOutcome) (none : ∀ e ∈ x.products, e.code ≠ c)
    (full : 24 ≤ x.products.length) : x.countLeave (some c) r o = { x with other := x.other.countLeave r o } :=
  (if_neg (not_known none)).trans (if_neg (Nat.not_lt.mpr full))

/-! ### The outcome at the exit (R81) -/

theorem exitOutcome_bagFail {r : LoafRecord} (fail : r.result = some .fail) : r.exitOutcome = .bagFail := if_pos fail

theorem exitOutcome_untied {r : LoafRecord} (fail : r.result ≠ some .fail) (tie : r.tie ≠ .tied) : r.exitOutcome = .untied :=
  (if_neg fail).trans (if_pos tie)

theorem exitOutcome_unconfirmed {r : LoafRecord} (none : r.result = none) (tie : r.tie = .tied) : r.exitOutcome = .unconfirmed := by
  simp [LoafRecord.exitOutcome, none, tie]

theorem exitOutcome_good {r : LoafRecord} (ok : r.result = some .ok) (tie : r.tie = .tied) : r.exitOutcome = .good := by
  simp [LoafRecord.exitOutcome, ok, tie]

/-- What a leave hands to the queue, the slot, the tie, the holds and the zones. -/
theorem leave_handsOn (r : LoafRecord) (o : LeaveOutcome) :
    (s.leave r o).queue.records = s.queue.records.filter (fun x => decide (x.tag ≠ r.tag))
      ∧ (s.leave r o).totals = { s.totals with
          openShift := s.totals.openShift.countLeave ((s.slot r.slot).product.map Product.code) r o }
      ∧ ((s.slot r.slot).state = .retiring → (s.slot r.slot).inFlight ≤ 1 →
          (s.leave r o).slot r.slot = { state := .empty, product := none, inFlight := 0 }
            ∧ Noticed (s.leave r o) .office .recipeFreed)
      ∧ ((s.slot r.slot).state ≠ .retiring ∨ 1 < (s.slot r.slot).inFlight →
          (s.leave r o).slot r.slot = { s.slot r.slot with inFlight := (s.slot r.slot).inFlight - 1 })
      ∧ (∀ i, i ≠ r.slot → (s.leave r o).slot i = s.slot i)
      ∧ (s.leave r o).bag = { s.bag with
          pendingTies := s.bag.pendingTies.filter fun x => decide (x.tag ≠ r.tag)
          tieInFlight := s.bag.tieInFlight.map fun f => if f.tag = r.tag then { f with present := false } else f }
      ∧ ((s.leave r o).queue.records.length = 40 →
          (s.leave r o).held .queueFull = false ∧ (s.held .queueFull = true → ∀ p, Noticed (s.leave r o) p .holdChanged))
      ∧ ((s.leave r o).queue.records.length ≠ 40 → (s.leave r o).held .queueFull = s.held .queueFull)
      ∧ (∀ x : HoldReason, x ≠ .queueFull → (s.leave r o).held x = s.held x) := by
  refine ⟨leave_records s r o, leave_totals s r o, fun retiring last => ⟨?_, leave_freed s o retiring last⟩, fun stays => ?_,
    fun i ne => slot_leave_of_ne s r o ne, leave_bag s r o, fun falls => ⟨?_, fun full p => leave_queueFull_noticed s falls full p⟩,
    fun stands => ?_, fun x other => ?_⟩
  · have gone : (s.slot r.slot).inFlight - 1 = 0 := by omega
    rw [slot_leave_self, if_pos ⟨retiring, gone⟩, gone]
  · rw [slot_leave_self, if_neg]
    rintro ⟨retiring, gone⟩
    obtain other | more := stays
    · exact other retiring
    · omega
  · rw [held_leave, if_pos ⟨falls, rfl⟩]
  · rw [held_leave, if_neg fun h => stands h.1]
  · rw [held_leave, if_neg fun h => other h.2]

/-- Settles O32: what a leave hands on, part by part; the entry's count by R104's table; the shift's; and the exit's four outcomes. -/
theorem leaveHandsTheRecordOn : Obligations.LeaveHandsTheRecordOn := by
  refine ⟨fun s r o => ?_, fun s r o entry => leave_schedule_of_none s o entry, fun s r o e entry mem ids => ?_, fun x r o => ?_,
    fun r => ⟨exitOutcome_bagFail, exitOutcome_untied, exitOutcome_unconfirmed, exitOutcome_good⟩⟩
  · obtain ⟨records, totals, freed, lowered, slots, bag, full, stands, holds⟩ := leave_handsOn s r o
    exact ⟨records, totals, freed, lowered, slots, bag, full, stands, holds, leave_sameLoads s r o, leave_blastsJudged s r o,
      leave_frame s r o, lose_lostLoaf s r,
      fun fetched stage => judgeWithdrawn_noticed _ fetched stage, lose_after_leave s r⟩
  · intro sized base
    refine ⟨fun filled last => leave_entryClosed entry mem ids o filled last, e.left r o,
      (leave_schedule s r o).trans (countInEntry_schedule (s := s.countLeave r o) entry mem ids o), fun plan => ?_,
      fun plan size => ?_, fun plan size => ?_⟩
    · rw [Entry.left_eq, Entry.countLeave_unplanned e o plan]; rfl
    · obtain ⟨below, full, lost, flushed⟩ := Entry.countLeave_sized e plan ((Reasons.size_iff _).mpr size)
      refine ⟨?_, ?_, ?_⟩
      · rintro rfl h
        rw [Entry.left_eq, below h]; rfl
      · rintro rfl h
        rw [Entry.left_eq, full h]
      · rintro (rfl | rfl)
        · rw [Entry.left_eq, lost]; rfl
        · rw [Entry.left_eq, flushed]; rfl
    · have counted : e.left r o = { e.countOutcome o with
          carried := e.carried - 1, state := if e.state = .filled ∧ e.carried ≤ 1 then .closed else e.state } := by
        rw [Entry.left_eq, Entry.countLeave_planned e o plan (mt (Reasons.size_iff _).mp size)]
      rw [counted]
      refine ⟨?_, ?_, ?_, ?_, ?_, ?_, ?_⟩ <;> rintro rfl <;> rfl
  · refine ⟨⟨_, rfl, ProductEntry.countLeave_counts _ r o⟩, fun c => ⟨?_, fun none room => ?_, fun none full => ?_⟩⟩
    · rintro before e after split rfl alone
      exact ⟨_, countLeave_known x r o split alone, ProductEntry.countLeave_counts _ r o⟩
    · exact ⟨_, countLeave_new r o none room, ProductEntry.countLeave_counts _ r o⟩
    · exact ⟨_, countLeave_full r o none full, ProductEntry.countLeave_counts _ r o⟩

end Sys2Proof.Machine
end

section
/-! SUPPORT. The state in which an accepted edge reaches the queue, and the edges of the downstream eyes: trailing edges, strays and the
candidates that an edge passes. -/

namespace Sys2Proof.Machine

variable (s : State)

/-! ## The state an edge finds (R10, R12) -/

/-- The state in which an accepted edge of an eye reaches the queue. -/
def State.edgeReached (s : State) (e : Eye) (l : Level) (c : PendingChange) : State :=
  ((s.reach c.expiry).setFilter e { accepted := l, change := none }).edgeActivity e

theorem edgeReached_frame (e : Eye) (l : Level) (c : PendingChange) :
    OnlyTouches [.now, .totals, .pos, .line, .crumb] s (s.edgeReached e l c) :=
  (((reach_frame s _).within rfl).andThen (setPos_frame _ _) rfl).andThen (edgeActivity_frame _ e) rfl

theorem reach_pos (x : Nat) : (s.reach x).pos = s.pos := reach_frame s x .pos (by decide)

theorem edgeReached_pos (e : Eye) (l : Level) (c : PendingChange) :
    (s.edgeReached e l c).pos = { s.pos with filters := s.pos.filters.set e { accepted := l, change := none } } := by
  rw [State.edgeReached, edgeActivity_frame _ e .pos (by decide)]
  show ({ (s.reach c.expiry).pos with filters := _ } : PositionUnit) = _
  rw [reach_pos]

/-- An edge of another eye than E0 is no activity (R12). -/
theorem edgeReached_downstream {e : Eye} (downstream : e ≠ .e0) (l : Level) (c : PendingChange) :
    s.edgeReached e l c = (s.reach c.expiry).setFilter e { accepted := l, change := none } := by
  cases e <;> first | rfl | exact absurd rfl downstream

theorem edgeReached_downstream_eq {e : Eye} (downstream : e ≠ .e0) (l : Level) (c : PendingChange) :
    s.edgeReached e l c =
      (s.reach c.expiry).setPos { s.pos with filters := s.pos.filters.set e { accepted := l, change := none } } := by
  rw [edgeReached_downstream s downstream, State.setFilter, reach_pos]

/-- The edge of a pending change, captured at H, is delivered (R10, R11). -/
theorem exec_edge {e : Eye} {l : Level} {c : PendingChange} (pending : s.pos.filters.get e = ⟨l, some c⟩) (atH : c.atH = true) :
    exec (.eyeFilterExpiry e) s =
      .next ((s.edgeReached e (otherLevel l) c).takeEdge e (otherLevel l) c.captured) := by
  have accepted : s.filterExpiry e = (s.reach c.expiry).acceptEdge e (otherLevel l) c := by
    rw [filterExpiry_of_pending s (congrArg EyeFilter.change pending), pending]
  have taken : (s.reach c.expiry).acceptEdge e (otherLevel l) c =
      (s.edgeReached e (otherLevel l) c).takeEdge e (otherLevel l) c.captured := if_pos atH
  exact congrArg Host.Outcome.next (accepted.trans taken)

/-! ## The eyes' filters and a loss -/

/-- The filters replaced, and nothing else of the positions. -/
def State.withFilters (s : State) (f : EyeFilters) : State := s.setPos { s.pos with filters := f }

section
variable (f : EyeFilters)

theorem ite_withFilters (c : Prop) [Decidable c] (t u : State) :
    (if c then t else u).withFilters f = if c then t.withFilters f else u.withFilters f :=
  apply_ite (State.withFilters · f) c t u

theorem notify_withFilters (p : Port) (k : NoticeKind) : (s.withFilters f).notify p k = (s.notify p k).withFilters f := rfl

theorem releaseHold_withFilters (r : HoldReason) : (s.withFilters f).releaseHold r = (s.releaseHold r).withFilters f := by
  unfold State.releaseHold
  rw [ite_withFilters]; rfl

theorem closeEntry_withFilters (id : Nat) : (s.withFilters f).closeEntry id = (s.closeEntry id).withFilters f := by
  unfold State.closeEntry
  have same : (s.withFilters f).entry? id = s.entry? id := rfl
  rw [same]
  cases s.entry? id with
  | none => rfl
  | some e => dsimp only; rw [ite_withFilters]; rfl

theorem countLeave_withFilters (r : LoafRecord) (o : LeaveOutcome) :
    (s.withFilters f).countLeave r o = (s.countLeave r o).withFilters f := rfl

theorem countInEntry_withFilters (r : LoafRecord) (o : LeaveOutcome) :
    (s.withFilters f).countInEntry r o = (s.countInEntry r o).withFilters f := by
  unfold State.countInEntry
  cases r.entry with
  | none => rfl
  | some id => exact closeEntry_withFilters (s.updateEntry id fun e => { e.countLeave r o with carried := e.carried - 1 }) f id

theorem lowerInFlight_withFilters (i : Fin 16) : (s.withFilters f).lowerInFlight i = (s.lowerInFlight i).withFilters f := by
  unfold State.lowerInFlight
  dsimp only
  rw [ite_withFilters]; rfl

theorem removeRecord_withFilters (tag : Nat) : (s.withFilters f).removeRecord tag = (s.removeRecord tag).withFilters f := by
  unfold State.removeRecord
  dsimp only
  rw [ite_withFilters, ← releaseHold_withFilters]; rfl

theorem withdrawTie_withFilters (tag : Nat) : (s.withFilters f).withdrawTie tag = (s.withdrawTie tag).withFilters f := rfl

theorem judgeBlast_withFilters (z : Zone) : (s.withFilters f).judgeBlast z = (s.judgeBlast z).withFilters f := by
  unfold State.judgeBlast
  have same : (s.withFilters f).bar z = s.bar z := rfl
  rw [same]
  cases s.bar z with
  | none => rfl
  | some b => dsimp only; rw [ite_withFilters]; rfl

theorem judgeBlasts_withFilters : (s.withFilters f).judgeBlasts = s.judgeBlasts.withFilters f := by
  rw [State.judgeBlasts, judgeBlast_withFilters, judgeBlast_withFilters, ← State.judgeBlasts]

theorem leave_withFilters (r : LoafRecord) (o : LeaveOutcome) : (s.withFilters f).leave r o = (s.leave r o).withFilters f := by
  rw [State.leave, countLeave_withFilters, countInEntry_withFilters, lowerInFlight_withFilters, removeRecord_withFilters,
    withdrawTie_withFilters, judgeBlasts_withFilters, ← State.leave]

theorem judgeWithdrawn_withFilters (r : LoafRecord) : (s.withFilters f).judgeWithdrawn r = (s.judgeWithdrawn r).withFilters f := by
  unfold State.judgeWithdrawn
  rw [ite_withFilters, notify_withFilters]

/-- A loss reads nothing of the filters. -/
theorem lose_withFilters (r : LoafRecord) : (s.withFilters f).lose r = (s.lose r).withFilters f := by
  rw [State.lose, leave_withFilters, notify_withFilters, judgeWithdrawn_withFilters, ← State.lose]

end

theorem leave_pos (r : LoafRecord) (o : LeaveOutcome) : (s.leave r o).pos = s.pos := leave_frame s r o .pos (by decide)

theorem lose_pos (r : LoafRecord) : (s.lose r).pos = s.pos := lose_frame s r .pos (by decide)

theorem lose_now (r : LoafRecord) : (s.lose r).now = s.now := lose_frame s r .now (by decide)

/-! ## The edges of the downstream eyes (R69, R70, R71) -/

theorem takeEdge_leading {e : Eye} (downstream : e ≠ .e0) (p : Pos) : s.takeEdge e .dark p = s.downstreamLeading e p := by
  cases e <;> first | rfl | exact absurd rfl downstream

theorem candidateStage_downstream {e : Eye} {g : Stage} (awaits : candidateStage e = some g) : e ≠ .e0 := by
  rintro rfl; cases awaits

theorem candidates_eq {e : Eye} {g : Stage} (awaits : candidateStage e = some g) :
    s.candidates e = s.queue.records.filter fun r => decide (r.stage = g) := by
  rw [State.candidates, awaits]

theorem candidates_none {e : Eye} {g : Stage} (awaits : candidateStage e = some g) (none : ∀ r ∈ s.queue.records, r.stage ≠ g) :
    s.candidates e = [] := by
  rw [candidates_eq s awaits, List.filter_eq_nil_iff]
  simpa using none

/-- The candidates behind the oldest. -/
def laterCandidates (g : Stage) (after : List LoafRecord) : List LoafRecord := after.filter fun r => decide (r.stage = g)

theorem candidates_split {e : Eye} {g : Stage} {before after : List LoafRecord} {r : LoafRecord} (awaits : candidateStage e = some g)
    (split : s.queue.records = before ++ r :: after) (stage : r.stage = g) (oldest : ∀ x ∈ before, x.stage ≠ g) :
    s.candidates e = r :: laterCandidates g after := by
  have none : (before.filter fun x => decide (x.stage = g)) = [] := by
    rw [List.filter_eq_nil_iff]
    simpa using oldest
  rw [candidates_eq s awaits, split, List.filter_append, none, List.nil_append, List.filter_cons, if_pos (decide_eq_true stage)]
  rfl

/-- Without the record lost, the later candidates are left. -/
theorem candidates_lose {e : Eye} {g : Stage} {before after : List LoafRecord} {r : LoafRecord} (awaits : candidateStage e = some g)
    (split : s.queue.records = before ++ r :: after) (oldest : ∀ x ∈ before, x.stage ≠ g)
    (tags : (s.queue.records.map LoafRecord.tag).Nodup) : (s.lose r).candidates e = laterCandidates g after := by
  have others : ∀ x ∈ before ++ after, x.tag ≠ r.tag := by
    rw [split, List.map_append, List.map_cons, List.nodup_middle, List.nodup_cons, ← List.map_append] at tags
    intro x hx same
    exact tags.1 (same ▸ List.mem_map_of_mem hx)
  have keeps (l : List LoafRecord) (sub : ∀ x ∈ l, x ∈ before ++ after) : dropRecord r.tag l = l :=
    List.filter_eq_self.mpr fun x hx => decide_eq_true (others x (sub x hx))
  have without : (s.lose r).queue.records = before ++ after := by
    rw [lose_records, split, dropRecord, List.filter_append, List.filter_cons_of_neg (by simp)]
    exact congrArg₂ (· ++ ·) (keeps before fun x => List.mem_append_left _) (keeps after fun x => List.mem_append_right _)
  have none : (before.filter fun x => decide (x.stage = g)) = [] := by
    rw [List.filter_eq_nil_iff]
    simpa using oldest
  rw [candidates_eq _ awaits, without, List.filter_append, none, List.nil_append]
  rfl

theorem downstreamLeading_of_none {e : Eye} (p : Pos) (none : s.candidates e = []) : s.downstreamLeading e p = s.strayEdge := by
  unfold State.downstreamLeading
  cases s.eyeStation e with
  | none => rfl
  | some st => rw [none]; rfl

theorem downstreamLeading_of_station {e : Eye} {st : EyeStation} (p : Pos) (station : s.eyeStation e = some st) :
    s.downstreamLeading e p = s.tryCandidates e st p (s.candidates e) := by
  rw [State.downstreamLeading, station]

section
variable {e : Eye} {st : EyeStation} {p : Pos} {r : LoafRecord} (rest : List LoafRecord)

theorem tryCandidates_early (early : edgeDeviation r st p < -(st.tolerance : Int)) :
    s.tryCandidates e st p (r :: rest) = s.strayEdge := if_pos early

theorem tryCandidates_late (late : (st.tolerance : Int) < edgeDeviation r st p) :
    s.tryCandidates e st p (r :: rest) = (s.lose r).tryCandidates e st p rest :=
  (if_neg (by omega)).trans (if_pos late)

theorem tryCandidates_match (low : -(st.tolerance : Int) ≤ edgeDeviation r st p) (high : edgeDeviation r st p ≤ (st.tolerance : Int)) :
    s.tryCandidates e st p (r :: rest) = s.matchAt e (r.rebase p st) p :=
  (if_neg (by omega)).trans (if_neg (by omega))

end

/-- A stray edge at a downstream eye, with the time up to the filter's expiry passed (R71). -/
theorem strayEdge_reached {e : Eye} (downstream : e ≠ .e0) (l : Level) (c : PendingChange) :
    let t := (s.edgeReached e l c).strayEdge
    t.totals = { (s.reach c.expiry).totals with
        openShift := { (s.reach c.expiry).totals.openShift with strays := min (s.totals.openShift.strays + 1) 4294967295 } }
      ∧ Noticed t .office .strayEdge ∧ OnlyTouches [.now, .pos, .totals, .ports] s t := by
  have reached : OnlyTouches [.now, .pos, .totals, .ports] s (s.edgeReached e l c) := by
    rw [edgeReached_downstream s downstream]
    exact ((reach_frame s _).within rfl).andThen (setPos_frame _ _) rfl
  have strays : (s.reach c.expiry).totals.openShift.strays = s.totals.openShift.strays :=
    reach_keeps s ShiftRecord.strays (fun _ _ a => by cases a <;> rfl) _
  refine ⟨?_, noticed_notify_self _ rfl, (reached.andThen (setShift_frame _ _) rfl).andThen (notify_frame _ _ _) rfl⟩
  rw [edgeReached_downstream s downstream, ← strays]
  rfl

/-- An edge delivered at a downstream eye once more, after a candidate has been lost: the time and the filters have come as far. -/
theorem edgeReached_lose {e : Eye} (downstream : e ≠ .e0) (l : Level) (c : PendingChange) (r : LoafRecord) :
    ((s.reach c.expiry).lose r).edgeReached e l c = (s.edgeReached e l c).lose r := by
  have come : c.expiry ≤ ((s.reach c.expiry).lose r).now := by
    rw [lose_now, reach_now]; omega
  rw [edgeReached_downstream _ downstream, edgeReached_downstream _ downstream, reach_of_le _ _ come]
  have filters : ((s.reach c.expiry).lose r).setFilter e { accepted := l, change := none } =
      ((s.reach c.expiry).lose r).withFilters ((s.reach c.expiry).pos.filters.set e { accepted := l, change := none }) := by
    rw [State.setFilter, State.withFilters, lose_pos]
  rw [filters, ← lose_withFilters]
  rfl

/-- Settles O27: a trailing edge, and a leading one by the oldest candidate. -/
theorem downstreamEdgesFollowR70 : Obligations.DownstreamEdgesFollowR70 := by
  refine ⟨⟨rfl, rfl, rfl, rfl⟩, fun s e c downstream pending => ?_, ?_⟩
  · have accepted : s.filterExpiry e = (s.reach c.expiry).acceptEdge e .clear c := by
      rw [filterExpiry_of_pending s (congrArg EyeFilter.change pending), pending]; rfl
    have discarded : (s.reach c.expiry).acceptEdge e .clear c = s.edgeReached e .clear c := by
      refine .trans (ite_congr rfl (fun _ => ?_) fun _ => rfl) (ite_self _)
      cases e <;> first | rfl | exact absurd rfl downstream
    exact congrArg Host.Outcome.next ((accepted.trans discarded).trans (edgeReached_downstream_eq s downstream .clear c))
  · intro s e g c awaits pending atH stray
    have downstream := candidateStage_downstream awaits
    have frame := edgeReached_frame s e .dark c
    have queue : (s.edgeReached e .dark c).queue = s.queue := frame .queue (by decide)
    have leading : exec (.eyeFilterExpiry e) s = .next ((s.edgeReached e .dark c).downstreamLeading e c.captured) :=
      (exec_edge s pending atH).trans (congrArg Host.Outcome.next (takeEdge_leading _ downstream _))
    have strays (h : (s.edgeReached e .dark c).downstreamLeading e c.captured = (s.edgeReached e .dark c).strayEdge) : stray :=
      ⟨_, leading.trans (congrArg Host.Outcome.next h), strayEdge_reached s downstream .dark c⟩
    refine ⟨fun none => strays (downstreamLeading_of_none _ _ (candidates_none _ awaits (queue ▸ none))), ?_⟩
    intro st before after r station split stage oldest d
    have chain (t : State) (same : t.chain = s.chain) : t.eyeStation e = some st := by
      rw [← station, State.eyeStation, same]; rfl
    have candidates := candidates_split (s.edgeReached e .dark c) awaits (queue ▸ split) stage oldest
    have tried := downstreamLeading_of_station (s.edgeReached e .dark c) c.captured (chain _ (frame .chain (by decide)))
    rw [candidates] at tried
    refine ⟨fun early => strays (tried.trans (tryCandidates_early _ _ early)), fun late tags => ?_⟩
    let u := (s.reach c.expiry).lose r
    have pos : u.pos = s.pos := (lose_pos _ r).trans (reach_pos s _)
    have again : exec (.eyeFilterExpiry e) u = .next ((u.edgeReached e .dark c).downstreamLeading e c.captured) :=
      (exec_edge u (by rw [pos]; exact pending) atH).trans (congrArg Host.Outcome.next (takeEdge_leading _ downstream _))
    have base : u.edgeReached e .dark c = (s.edgeReached e .dark c).lose r := edgeReached_lose s downstream .dark c r
    have chainThen : ((s.edgeReached e .dark c).lose r).chain = s.chain := by
      rw [lose_frame _ r .chain (by decide), frame .chain (by decide)]
    rw [leading, again, tried, tryCandidates_late _ _ late, base,
      downstreamLeading_of_station _ c.captured (chain _ chainThen),
      candidates_lose _ awaits (queue ▸ split) oldest (by rw [queue]; exact tags)]

end Sys2Proof.Machine
end

section
/-! SUPPORT. The edges of E0: what the line makes of them, the plan of a loaf, and the trailing edge that plans it. -/

namespace Sys2Proof.Machine

variable (s : State)

/-! ## The line at an edge of E0 (R12, R138, R147) -/

theorem activity_holds : s.activity.line.holds = s.line.holds := by
  unfold State.activity
  cases s.line.state <;> rfl

/-- Activity on an IDLE line drops the purges owed; on another it reaches no zone. -/
theorem zone_activity (z : Zone) :
    s.activity.zone z = { s.zone z with purgeOwed := (s.zone z).purgeOwed && !decide (s.line.state = .idle) } := by
  unfold State.activity
  cases state : s.line.state with
  | stopped | running =>
    show s.zone z = { s.zone z with purgeOwed := (s.zone z).purgeOwed && !false }
    rw [Bool.not_false, Bool.and_true]
  | idle => cases z <;> simp <;> rfl

/-- An edge of E0 is activity. -/
theorem edgeReached_infeed (l : Level) (c : PendingChange) :
    s.edgeReached .e0 l c = ((s.reach c.expiry).setFilter .e0 { accepted := l, change := none }).activity := rfl

theorem zone_edgeReached_infeed (l : Level) (c : PendingChange) (z : Zone) :
    (s.edgeReached .e0 l c).zone z =
      { s.zone z with purgeOwed := (s.zone z).purgeOwed && !decide (s.line.state = .idle) } := by
  have zone : ((s.reach c.expiry).setFilter .e0 { accepted := l, change := none }).zone z = s.zone z := zone_reach s c.expiry z
  have line : ((s.reach c.expiry).setFilter .e0 { accepted := l, change := none }).line = s.line := reach_line s c.expiry
  rw [edgeReached_infeed, zone_activity, zone, line]

theorem held_edgeReached_infeed (l : Level) (c : PendingChange) (r : HoldReason) : (s.edgeReached .e0 l c).held r = s.held r := by
  have line : ((s.reach c.expiry).setFilter .e0 { accepted := l, change := none }).line = s.line := reach_line s c.expiry
  rw [State.held, edgeReached_infeed, activity_holds, line]; rfl

/-- An edge tells nothing before the queue takes it. -/
theorem edgeReached_tells (ks : List NoticeKind) (e : Eye) (l : Level) (c : PendingChange) : Tells ks s (s.edgeReached e l c) :=
  (edgeReached_frame s e l c).tells (by decide)

theorem edgeReached_keeps {α : Type} (f : ShiftRecord → α) (keeps : ∀ (t : TotalsUnit) d a, f (t.pass d a).openShift = f t.openShift)
    (e : Eye) (l : Level) (c : PendingChange) : f (s.edgeReached e l c).totals.openShift = f s.totals.openShift := by
  rw [State.edgeReached, edgeActivity_frame _ e .totals (by decide)]
  exact reach_keeps s f keeps c.expiry

/-! ## The plan of a loaf (R46 to R52) -/

theorem clampInt_range {lo hi : Nat} (order : lo ≤ hi) (a : Int) : lo ≤ clampInt lo hi a ∧ clampInt lo hi a ≤ hi := by
  unfold clampInt
  split
  · exact ⟨Nat.le_refl _, order⟩
  · split
    · exact ⟨order, Nat.le_refl _⟩
    · omega

/-- The slice count of a loaf with a usable length (R50). -/
theorem sliceCount_usable {lt : Nat} {q : Product} (usable : 0 < usableLength lt q) :
    sliceCount lt q = max 2 (min 63 (roundNat (usableLength lt q).toNat q.thickness + 2)) := by
  have rounded : roundInt (usableLength lt q) q.thickness = (roundNat (usableLength lt q).toNat q.thickness : Int) := by
    have positive : (usableLength lt q).natAbs = (usableLength lt q).toNat := by omega
    rw [roundInt, if_neg (by omega), positive]
  rw [sliceCount, if_neg (by omega), rounded]
  unfold clampInt
  generalize roundNat (usableLength lt q).toNat q.thickness = n
  split_ifs <;> omega

theorem sliceCount_range (lt : Nat) (q : Product) : 2 ≤ sliceCount lt q ∧ sliceCount lt q ≤ 63 := by
  unfold sliceCount
  split
  · decide
  · exact clampInt_range (by decide) _

/-- The plan of a loaf, value by value, and the ranges of its fields. -/
theorem makePlan_values (reference trailing : Pos) (c : LineConfig) (q : Product) (blade : Bool) :
    let made := makePlan reference trailing c q blade
    let dark := (trailing - reference).toInt
    let unclamped := (roundNat (made.1.lc * c.pitch) 100 : Int) - c.offset
    let usable := (made.1.lt : Int) - 2 * q.heel
    made.1.lc = (if dark < 1 then 1 else if 65535 < dark then 65535 else dark.toNat)
      ∧ made.1.lt = (if unclamped < 0 then 0 else if 9999 < unclamped then 9999 else unclamped.toNat)
      ∧ (usable ≤ 0 → made.1.n = 2)
      ∧ (0 < usable → made.1.n = max 2 (min 63 (roundNat usable.toNat q.thickness + 2)))
      ∧ made.1.bagClass = (if made.1.lt ≤ q.shortMax then 1 else if made.1.lt ≤ q.regularMax then 2 else 3)
      ∧ made.1.crumb = made.1.n * q.crumb
      ∧ (made.2.undersize = true ↔ unclamped < q.minLen ∨ usable ≤ 0) ∧ (made.2.oversize = true ↔ (q.maxLen : Int) < unclamped)
      ∧ made.2.blade = blade ∧ made.2.marked = false
      ∧ (1 ≤ made.1.lc ∧ made.1.lc ≤ 65535) ∧ made.1.lt ≤ 9999 ∧ (2 ≤ made.1.n ∧ made.1.n ≤ 63)
      ∧ (q.crumb ≤ 255 → made.1.crumb ≤ 16065) := by
  intro made dark unclamped usable
  have slices := sliceCount_range made.1.lt q
  refine ⟨rfl, rfl, fun none => if_pos none, fun some => sliceCount_usable some, rfl, rfl, ?_, decide_eq_true_iff, rfl, rfl,
    clampInt_range (by decide) _, (clampInt_range (by decide) _).2, slices, fun charge => ?_⟩
  · show (decide _ || decide _) = true ↔ _
    rw [Bool.or_eq_true, decide_eq_true_iff, decide_eq_true_iff]
    rfl
  · exact Nat.mul_le_mul slices.2 charge

/-! ## The records -/

/-- Where tags are distinct, a change of the record that holds a tag is a change of that record. -/
theorem map_record_eq {rs : List LoafRecord} {r : LoafRecord} (tags : (rs.map LoafRecord.tag).Nodup) (mem : r ∈ rs)
    (f : LoafRecord → LoafRecord) : (rs.map fun x => if x.tag = r.tag then f x else x) = replaced r.tag (f r) rs := by
  refine List.map_congr_left fun x hx => ?_
  split
  · next same => rw [List.inj_on_of_nodup_map tags hx mem same]
  · rfl

theorem measuring?_split {before after : List LoafRecord} {r : LoafRecord} (split : s.queue.records = before ++ r :: after)
    (stage : r.stage = .measuring) (oldest : ∀ x ∈ before, x.stage ≠ .measuring) : s.measuring? = some r :=
  find?_of_split split (decide_eq_true stage) fun x hx => by simpa using oldest x hx

theorem measuring?_none (none : ∀ r ∈ s.queue.records, r.stage ≠ .measuring) : s.measuring? = Option.none :=
  List.find?_eq_none.mpr fun r hr => by simpa using none r hr

/-! ## The trailing edge (R68) -/

/-- A record as its plan leaves it. -/
def LoafRecord.planned (r : LoafRecord) (made : Plan × Reasons) : LoafRecord :=
  { r with plan := some made.1, reasons := r.reasons.union made.2, stage := .toSlicer }

/-- The state with the MEASURING record planned, before it is admitted. -/
def State.planned (s : State) (r : LoafRecord) (made : Plan × Reasons) : State := s.updateRecord r.tag fun x => x.planned made

theorem planRecord_eq (r : LoafRecord) (q : Product) (p : Pos) :
    let made := makePlan r.reference p s.pos.config q (s.held .bladeMismatch)
    s.planRecord r q p =
      ((((s.planned r made).judgeAdmission r made.2 p).judgeBagReady (r.reasons.union made.2))).judgeBlasts := rfl

theorem infeedTrailing_of_measuring {r : LoafRecord} {q : Product} (p : Pos) (measuring : s.measuring? = some r)
    (product : (s.slot r.slot).product = some q) : s.infeedTrailing p = s.planRecord r q p := by
  rw [State.infeedTrailing, measuring]
  simp only [product]

theorem infeedTrailing_of_none (p : Pos) (none : s.measuring? = Option.none) : s.infeedTrailing p = s := by
  rw [State.infeedTrailing, none]

theorem exec_trailing {c : PendingChange} (pending : s.pos.filters.e0 = ⟨.dark, some c⟩) (atH : c.atH = true) :
    exec (.eyeFilterExpiry .e0) s = .next ((s.edgeReached .e0 .clear c).infeedTrailing c.captured) :=
  exec_edge s (e := .e0) pending atH

/-- The plan made at a trailing edge is made with the configuration, the product and the blade as they stand before it. -/
theorem planRecord_edgeReached (c : PendingChange) (r : LoafRecord) (q : Product) :
    let made := makePlan r.reference c.captured s.pos.config q (s.held .bladeMismatch)
    let u := s.edgeReached .e0 .clear c
    u.planRecord r q c.captured =
      ((((u.planned r made).judgeAdmission r made.2 c.captured).judgeBagReady (r.reasons.union made.2))).judgeBlasts := by
  intro made u
  have held : u.held .bladeMismatch = s.held .bladeMismatch := held_edgeReached_infeed s .clear c .bladeMismatch
  have config : u.pos.config = s.pos.config := by rw [edgeReached_pos]
  rw [planRecord_eq, held, config]

/-! ### Admission and the records (R99) -/

/-- The id withdrawn from the record that holds a tag. -/
def withdrawn (tag : Nat) (rs : List LoafRecord) : List LoafRecord := rs.map fun x => if x.tag = tag then { x with entry := none } else x

/-- Admission leaves the queue as it is, or withdraws the record's entry id. -/
theorem judgeAdmission_queue (r : LoafRecord) (x : Reasons) (p : Pos) :
    (s.judgeAdmission r x p).queue = s.queue
      ∨ (s.judgeAdmission r x p).queue = { s.queue with records := withdrawn r.tag s.queue.records } := by
  unfold State.judgeAdmission
  split
  · exact .inl rfl
  · split
    · exact .inl rfl
    · split
      · exact .inl rfl
      · next e _ =>
        split
        · refine .inl ?_
          dsimp only
          split
          · rw [fillByAdmission_frame _ _ _ .queue (by decide), updateEntry_frame _ _ _ .queue (by decide)]
          · exact updateEntry_frame _ _ _ .queue (by decide)
        · refine .inr ?_
          rw [closeEntry_frame _ _ .queue (by decide), updateEntry_frame _ _ _ .queue (by decide)]
          rfl

/-- The queue after a planning: the record is planned, and keeps its entry id or loses it. -/
theorem planned_queue {r : LoafRecord} {s t : State} (made : Plan × Reasons) (tags : (s.queue.records.map LoafRecord.tag).Nodup)
    (mem : r ∈ s.queue.records)
    (queue : t.queue = (s.planned r made).queue ∨ t.queue = { s.queue with records := withdrawn r.tag (s.planned r made).queue.records }) :
    ∃ entry, t.queue = { s.queue with records := replaced r.tag { r.planned made with entry := entry } s.queue.records }
      ∧ (entry = r.entry ∨ entry = none) := by
  obtain kept | lost := queue
  · refine ⟨r.entry, kept.trans ?_, .inl rfl⟩
    exact congrArg (fun l => { s.queue with records := l }) (map_record_eq tags mem fun x => x.planned made)
  · refine ⟨none, lost.trans ?_, .inr rfl⟩
    have once : withdrawn r.tag (s.planned r made).queue.records =
        s.queue.records.map fun x => if x.tag = r.tag then { x.planned made with entry := none } else x := by
      refine (List.map_map ..).trans (List.map_congr_left fun x _ => ?_)
      by_cases same : x.tag = r.tag
      · simp [same, LoafRecord.planned]
      · simp [same]
    rw [once]
    exact congrArg (fun l => { s.queue with records := l }) (map_record_eq tags mem fun x => { x.planned made with entry := none })

/-! ### Slots and notices of a planning -/

/-- With a slot ACTIVE a selection that is written waits (R33, R37). -/
theorem writeSelection_slot {i j : Fin 16} (w : Source) (present : s.activeSlot ≠ none) : (s.writeSelection i w).slot j = s.slot j := by
  cases state : (s.slot i).state with
  | empty => rw [writeSelection_idle s w (.inl state)]
  | retiring => rw [writeSelection_idle s w (.inr state)]
  | active =>
    rw [writeSelection_active s w state]
    show (s.notifyDisplaced w).recipes.slots.get j = _
    rw [notifyDisplaced_recipes]; rfl
  | loaded =>
    rw [writeSelection_pending s w state present]
    show (s.notifyDisplaced w).recipes.slots.get j = _
    rw [notifyDisplaced_recipes]; rfl

theorem activateNext_slot (stop : Bool) (present : s.activeSlot ≠ none) (j : Fin 16) : (s.activateNext stop).slot j = s.slot j := by
  cases stop with
  | true => exact congrArg (fun x : RecipeTable => x.slots.get j) (activateNext_recipes s (.inl rfl))
  | false =>
    cases first : s.firstPending with
    | none => exact congrArg (fun x : RecipeTable => x.slots.get j) (activateNext_recipes s (.inr (.inl first)))
    | some n =>
      rw [activateNext_some s first]
      split
      · exact writeSelection_slot (s.setSchedule { s.schedule with entries := s.activated }) .schedule present
      · rfl

theorem activeSlot_of_only_frame {s t : State} {ps : List Part} (h : OnlyTouches ps s t) (apart : Part.recipes ∉ ps) :
    t.activeSlot = s.activeSlot := activeSlot_of_recipes (by rw [h .recipes apart])

theorem fillByAdmission_slot (e : Entry) (p : Pos) (present : s.activeSlot ≠ none) (j : Fin 16) :
    (s.fillByAdmission e p).slot j = s.slot j := by
  have before : OnlyTouches [.schedule, .line, .ports] s ((s.updateEntry e.id fun x => { x with state := .filled }).judgeGap p e.gap) :=
    ((updateEntry_frame s _ _).within rfl).andThen (judgeGap_frame _ p _) rfl
  rw [State.fillByAdmission, (closeEntry_frame _ _).slot (by decide),
    activateNext_slot _ _ (by rw [activeSlot_of_only_frame before (by decide)]; exact present), before.slot (by decide)]

theorem judgeAdmission_slot (r : LoafRecord) (x : Reasons) (p : Pos) (present : s.activeSlot ≠ none) (j : Fin 16) :
    (s.judgeAdmission r x p).slot j = s.slot j := by
  unfold State.judgeAdmission
  split
  · rfl
  · split
    · rfl
    · split
      · rfl
      · next e _ =>
        split
        · dsimp only
          split
          · exact fillByAdmission_slot (s.updateEntry _ _) _ p present j
          · rfl
        · exact (closeEntry_frame _ _).slot (by decide) j

theorem judgeGap_tells (p : Pos) (gap : Nat) : Tells [.holdChanged] s (s.judgeGap p gap) := by
  unfold State.judgeGap
  split
  · exact .refl _ s
  · refine .ite (.refl _ s) ?_
    exact (placeHold_tells s .scheduleGap).trans ((setSchedule_frame _ _).tells (by decide))

/-- The notices that an admission may set. -/
def admissionNotices : List NoticeKind := [.changeoverTaken, .selectSuperseded, .holdChanged, .scheduleSuspended, .entryClosed]

theorem fillByAdmission_tells (e : Entry) (p : Pos) : Tells admissionNotices s (s.fillByAdmission e p) := by
  have filled : Tells admissionNotices s (s.updateEntry e.id fun x => { x with state := .filled }) :=
    (updateEntry_frame s _ _).tells (by decide)
  exact ((filled.trans ((judgeGap_tells _ p e.gap).within (by decide))).trans ((activateNext_tells _ e.stopAfter).within (by decide))).trans
    ((closeEntry_tells _ e.id).within (by decide))

theorem judgeAdmission_tells (r : LoafRecord) (x : Reasons) (p : Pos) : Tells admissionNotices s (s.judgeAdmission r x p) := by
  unfold State.judgeAdmission
  split
  · exact .refl _ s
  · refine .ite (.refl _ s) ?_
    split
    · exact .refl _ s
    · next e _ =>
      refine .ite ?_ ?_
      · have admitted (f : Entry → Entry) (id : Nat) : Tells admissionNotices s (s.updateEntry id f) :=
          (updateEntry_frame s id f).tells (by decide)
        exact .ite ((admitted _ _).trans (fillByAdmission_tells _ _ p)) (admitted _ _)
      · have withdraws (f : Entry → Entry) (id : Nat) (g : LoafRecord → LoafRecord) :
            Tells admissionNotices s ((s.updateRecord r.tag g).updateEntry id f) :=
          ((updateRecord_frame s r.tag g).tells (by decide)).trans ((updateEntry_frame _ id f).tells (by decide))
        exact (withdraws _ _ _).trans ((closeEntry_tells _ _).within (by decide))

theorem Reasons.any_iff (x : Reasons) : x.any = true ↔ x ≠ ⟨false, false, false, false⟩ := by
  obtain ⟨a, b, c, d⟩ := x
  cases a <;> cases b <;> cases c <;> cases d <;> decide

/-- BAG_READY is set by a planning exactly when the record holds no reason (R110). -/
theorem judgeBagReady_noticed (x : Reasons) :
    (x = ⟨false, false, false, false⟩ → Noticed (s.judgeBagReady x) .bagger .bagReady)
      ∧ (x ≠ ⟨false, false, false, false⟩ → s.judgeBagReady x = s) := by
  refine ⟨fun none => ?_, fun some => if_pos ((Reasons.any_iff x).mpr some)⟩
  have told : s.judgeBagReady x = s.notify .bagger .bagReady := if_neg (by rw [Reasons.any_iff]; exact not_not.mpr none)
  rw [told]
  exact noticed_notify_self s rfl

/-! ### O26 -/

/-- A planning before the blasts are judged. -/
def State.admitted (s : State) (r : LoafRecord) (made : Plan × Reasons) (p : Pos) : State :=
  ((s.planned r made).judgeAdmission r made.2 p).judgeBagReady (r.reasons.union made.2)

theorem admitted_frame (r : LoafRecord) (made : Plan × Reasons) (p : Pos) :
    OnlyTouches [.queue, .schedule, .recipes, .line, .ports] s (s.admitted r made p) :=
  (((updateRecord_frame s _ _).within rfl).andThen (judgeAdmission_frame _ r _ p) rfl).andThen (judgeBagReady_frame _ _) rfl

/-- A MEASURING record planned at a trailing edge of E0 (R68). -/
theorem trailingEdge_plans {c : PendingChange} {r : LoafRecord} {q : Product} (pending : s.pos.filters.e0 = ⟨.dark, some c⟩)
    (atH : c.atH = true) (measuring : s.measuring? = some r) (product : (s.slot r.slot).product = some q) :
    let made := makePlan r.reference c.captured s.pos.config q (s.held .bladeMismatch)
    exec (.eyeFilterExpiry .e0) s = .next ((s.edgeReached .e0 .clear c).admitted r made c.captured).judgeBlasts := by
  intro made
  have frame := edgeReached_frame s .e0 .clear c
  have found : (s.edgeReached .e0 .clear c).measuring? = some r := by
    rw [State.measuring?, frame .queue (by decide)]; exact measuring
  have here : ((s.edgeReached .e0 .clear c).slot r.slot).product = some q := by rw [frame.slot (by decide)]; exact product
  rw [exec_trailing s pending atH, infeedTrailing_of_measuring _ c.captured found here, planRecord_edgeReached]
  rfl

theorem updateRecord_sameTags (tag : Nat) {f : LoafRecord → LoafRecord} (same : ∀ x, (f x).tag = x.tag) :
    (s.updateRecord tag f).queue.records.map LoafRecord.tag = s.queue.records.map LoafRecord.tag := by
  refine (List.map_map ..).trans (List.map_congr_left fun x _ => ?_)
  show LoafRecord.tag (if x.tag = tag then f x else x) = x.tag
  split
  · exact same x
  · rfl

/-- Settles O26: the plan's values, and the trailing edge with a MEASURING record and without one. -/
theorem trailingEdgePlansTheLoaf : Obligations.TrailingEdgePlansTheLoaf := by
  refine ⟨makePlan_values, fun s c before after r q pending atH tags split stage oldest product => ?_, fun s c pending atH none => ?_⟩
  · intro made reasons
    let u := s.edgeReached .e0 .clear c
    let v := u.admitted r made c.captured
    have reached := edgeReached_frame s .e0 .clear c
    have admitted := admitted_frame u r made c.captured
    have queue : u.queue = s.queue := reached .queue (by decide)
    have mem : r ∈ s.queue.records := by rw [split]; simp
    have admission := judgeAdmission_queue (u.planned r made) r made.2 c.captured
    have ready : v.queue = ((u.planned r made).judgeAdmission r made.2 c.captured).queue :=
      judgeBagReady_frame _ _ .queue (by decide)
    obtain ⟨entry, planned, kept⟩ := planned_queue (t := v) made (queue ▸ tags) (queue ▸ mem) (by rw [ready]; exact admission)
    have tells : Tells admissionNotices s ((u.planned r made).judgeAdmission r made.2 c.captured) :=
      ((edgeReached_tells s _ .e0 .clear c).trans ((updateRecord_frame u _ _).tells (by decide))).trans (judgeAdmission_tells _ r _ _)
    obtain ⟨isReady, stays⟩ := judgeBagReady_noticed ((u.planned r made).judgeAdmission r made.2 c.captured) reasons
    have judged : Tells [] v v.judgeBlasts := (judgeBlasts_frame v).tells (by decide)
    refine ⟨v.judgeBlasts, entry, trailingEdge_plans s pending atH (measuring?_split s split stage oldest) product, ?_, kept,
      fun fresh => judged.stands (isReady fresh), fun some => ?_, ?_, fun present i => ?_, fun z => ?_, ?_, ?_⟩
    · rw [judgeBlasts_frame _ .queue (by decide), planned, queue]; rfl
    · rw [judged.untold _ (by decide)]
      have same : v = (u.planned r made).judgeAdmission r made.2 c.captured := stays some
      rw [same]
      exact tells.untold _ (by decide)
    · rw [judgeBlasts_frame _ .bag (by decide), admitted .bag (by decide), reached .bag (by decide)]
    · have active : u.activeSlot = s.activeSlot := activeSlot_of_only_frame reached (by decide)
      have presentThen : (u.planned r made).activeSlot ≠ none := fun none => present (active.symm.trans none)
      have slots : v.slot i = (u.planned r made).slot i :=
        ((judgeBagReady_frame _ _).slot (by decide) i).trans (judgeAdmission_slot _ r _ _ presentThen i)
      exact (((judgeBlasts_frame v).slot (by decide) i).trans slots).trans (reached.slot (by decide) i)
    · rw [judgeBlasts_load, admitted.zone (by decide), zone_edgeReached_infeed]
    · refine blastsJudged_judgeBlasts fun z => ?_
      rw [admitted.zone (by decide), zone_edgeReached_infeed]
    · exact ((reached.within rfl).andThen admitted rfl).andThen (judgeBlasts_frame _) rfl
  · have reached := edgeReached_frame s .e0 .clear c
    have found : (s.edgeReached .e0 .clear c).measuring? = Option.none :=
      measuring?_none _ (by rw [reached .queue (by decide)]; exact none)
    refine ⟨s.edgeReached .e0 .clear c, ?_, edgeReached_keeps s ShiftRecord.strays (fun _ _ a => by cases a <;> rfl) _ _ _,
      fun z => zone_edgeReached_infeed s .clear c z, reached.within rfl⟩
    rw [exec_trailing s pending atH, infeedTrailing_of_none _ _ found]

end Sys2Proof.Machine
end

section
/-! SUPPORT. Admission at a planning, and the fill of an entry by it: the gap, the stop and the next entry. -/

namespace Sys2Proof.Machine

variable (s : State)

/-! ## The gap (R101) -/

section
variable {p : Pos} {gap : Nat}

theorem judgeGap_stays (h : gap = 0 ∨ (p + BitVec.ofNat 32 gap - s.pos.h).toInt ≤ 0) : s.judgeGap p gap = s := by
  obtain none | come := h
  · exact if_pos none
  · unfold State.judgeGap
    split
    · rfl
    · exact if_pos ((reached_iff _ _).mpr come)

/-- The release position that a gap leaves: its own, or the one standing where that lies further on. -/
def State.gapKept (s : State) (release : Pos) : Pos :=
  match s.schedule.gapRelease with
  | none => release
  | some held => if ahead release held then release else held

theorem judgeGap_holds (gap0 : gap ≠ 0) (ahead' : 0 < (p + BitVec.ofNat 32 gap - s.pos.h).toInt) :
    s.judgeGap p gap =
      (s.placeHold .scheduleGap).setSchedule
        { (s.placeHold .scheduleGap).schedule with gapRelease := some (s.gapKept (p + BitVec.ofNat 32 gap)) } := by
  have notReached : ¬ reached (p + BitVec.ofNat 32 gap) s.pos.h = true := by rw [reached_iff]; omega
  unfold State.judgeGap
  rw [if_neg gap0]
  exact if_neg notReached

theorem gapKept_none (release : Pos) (none : s.schedule.gapRelease = none) : s.gapKept release = release := by
  rw [State.gapKept, none]

theorem gapKept_some (release : Pos) {held : Pos} (standing : s.schedule.gapRelease = some held) :
    s.gapKept release = if 0 < (release - held).toInt then release else held := by
  rw [State.gapKept, standing]
  exact if_congr (ahead_iff _ _) rfl rfl

/-- The gap writes its release position, and nothing else of the schedule. -/
theorem judgeGap_schedule (p : Pos) (gap : Nat) : ∃ w, (s.judgeGap p gap).schedule = { s.schedule with gapRelease := w } := by
  by_cases stays : gap = 0 ∨ (p + BitVec.ofNat 32 gap - s.pos.h).toInt ≤ 0
  · exact ⟨s.schedule.gapRelease, by rw [judgeGap_stays s stays]⟩
  · obtain ⟨gap0, come⟩ := not_or.mp stays
    refine ⟨some (s.gapKept (p + BitVec.ofNat 32 gap)), ?_⟩
    rw [judgeGap_holds s gap0 (not_le.mp come), setSchedule_schedule, placeHold_frame s _ .schedule (by decide)]

theorem held_judgeGap_of_ne (p : Pos) (gap : Nat) {r : HoldReason} (ne : r ≠ .scheduleGap) : (s.judgeGap p gap).held r = s.held r := by
  by_cases stays : gap = 0 ∨ (p + BitVec.ofNat 32 gap - s.pos.h).toInt ≤ 0
  · rw [judgeGap_stays s stays]
  · obtain ⟨gap0, come⟩ := not_or.mp stays
    rw [judgeGap_holds s gap0 (not_le.mp come)]
    exact (held_placeHold s .scheduleGap r).trans (by simp [Ne.symm ne])

end

/-! ## The cases of an admission (R99) -/

section
variable {s : State} {r : LoafRecord} {x : Reasons} {e : Entry} (p : Pos)

theorem judgeAdmission_of_none (x : Reasons) (entry : r.entry = none) : s.judgeAdmission r x p = s := by
  rw [State.judgeAdmission, entry]

theorem judgeAdmission_of_size (size : x.undersize = true ∨ x.oversize = true) : s.judgeAdmission r x p = s := by
  unfold State.judgeAdmission
  cases r.entry with
  | none => rfl
  | some id => exact if_pos ((Reasons.size_iff x).mpr size)

theorem notSize (under : x.undersize = false) (over' : x.oversize = false) : ¬ x.size = true := by simp [Reasons.size, under, over']

section
variable (entry : r.entry = some e.id) (right : ¬ x.size = true) (found : s.entry? e.id = some e)
include entry right found

theorem judgeAdmission_below (active : e.state = .active) (below : e.admitted + 1 < e.target) :
    s.judgeAdmission r x p = s.updateEntry e.id fun y => { y with admitted := y.admitted + 1 } := by
  rw [State.judgeAdmission, entry]
  dsimp only
  rw [if_neg right, found]
  exact (if_pos active).trans (if_neg (by omega))

theorem judgeAdmission_fills (active : e.state = .active) (full : e.target ≤ e.admitted + 1) :
    s.judgeAdmission r x p =
      (s.updateEntry e.id fun y => { y with admitted := y.admitted + 1 }).fillByAdmission { e with admitted := e.admitted + 1 } p := by
  rw [State.judgeAdmission, entry]
  dsimp only
  rw [if_neg right, found]
  exact (if_pos active).trans (if_pos full)

theorem judgeAdmission_filled (other : e.state ≠ .active) :
    s.judgeAdmission r x p =
      ((s.updateRecord r.tag fun y => { y with entry := none }).updateEntry e.id
        fun y => { y with carried := y.carried - 1 }).closeEntry e.id := by
  rw [State.judgeAdmission, entry]
  dsimp only
  rw [if_neg right, found]
  exact if_neg other

end

/-! ## The fill (R100) -/

/-- An entry that its last admission fills. -/
def Entry.full (e : Entry) : Entry := { e with admitted := e.admitted + 1, state := .filled }

/-- The last admission counted, and the entry filled. -/
def State.entryFilled (s : State) (e : Entry) : State :=
  (s.updateEntry e.id fun y => { y with admitted := y.admitted + 1 }).updateEntry e.id fun y => { y with state := .filled }

/-- The entry filled, its gap judged, before the next becomes ACTIVE. -/
def State.gapped (s : State) (e : Entry) (p : Pos) : State := (s.entryFilled e).judgeGap p e.gap

variable (ids : (s.schedule.entries.map Entry.id).Nodup) (mem : e ∈ s.schedule.entries)

theorem gapped_frame : OnlyTouches [.schedule, .line, .ports] s (s.gapped e p) :=
  (((updateEntry_frame s _ _).within rfl).andThen (updateEntry_frame _ _ _) rfl).andThen (judgeGap_frame _ p _) rfl

/-- The state in which the gap of a filled entry is judged. -/
theorem gapped_schedule : ∃ w, (s.gapped e p).schedule =
    { s.schedule with
      entries := s.schedule.entries.map fun y =>
        if y.id = e.id then { y with admitted := y.admitted + 1, state := .filled } else y
      gapRelease := w } := by
  obtain ⟨w, schedule⟩ := judgeGap_schedule (s.entryFilled e) p e.gap
  refine ⟨w, schedule.trans ?_⟩
  have twice : (s.entryFilled e).schedule.entries =
      s.schedule.entries.map fun y => if y.id = e.id then { y with admitted := y.admitted + 1, state := .filled } else y := by
    refine (List.map_map ..).trans (List.map_congr_left fun y _ => ?_)
    by_cases same : y.id = e.id
    · simp [same]
    · simp [same]
  rw [← twice]
  rfl

include ids mem in
theorem gapped_entries : (s.gapped e p).schedule.entries = s.schedule.entries.map fun y => if y.id = e.id then e.full else y := by
  obtain ⟨w, schedule⟩ := gapped_schedule (s := s) (e := e) p
  rw [schedule]
  exact map_entry_eq ids mem (fun y => { y with admitted := y.admitted + 1, state := .filled }) fun y => y

/-- The state after the fill by admission of an entry that still carries a loaf. -/
def State.filledBy (s : State) (e : Entry) (p : Pos) : State := (s.gapped e p).activateNext e.stopAfter

include ids mem in
theorem filledBy_schedule (active : e.state = .active) (carries : 1 ≤ e.carried) :
    (s.filledBy e p).schedule =
        { (s.gapped e p).schedule with
          entries := s.filledList e e.full
          state := if s.firstPending = none then .idle
            else if e.stopAfter = true ∧ (s.gapped e p).schedule.state = .active then .suspended else (s.gapped e p).schedule.state }
      ∧ (s.updateEntry e.id fun y => { y with admitted := y.admitted + 1 }).fillByAdmission { e with admitted := e.admitted + 1 } p =
          s.filledBy e p := by
  obtain ⟨schedule, found⟩ := filled_schedule (u := s.gapped e p) (x := e.full)
    e.stopAfter ids mem active rfl rfl (gapped_entries p ids mem)
  have stays : ((s.gapped e p).activateNext e.stopAfter).closeEntry e.id = s.filledBy e p :=
    closeEntry_of_not_done _ found fun done => by
      have none : e.carried = 0 := done.2
      omega
  have open' : e.full.closed = e.full := if_neg fun done => by
    have none : e.carried = 0 := done.2
    omega
  rw [stays, open'] at schedule
  exact ⟨schedule, stays⟩

include ids mem in
theorem gapped_firstPending (active : e.state = .active) : (s.gapped e p).firstPending = s.firstPending :=
  firstPending_of_filled (x := e.full) ids mem active rfl (gapped_entries p ids mem)

theorem gapped_state : (s.gapped e p).schedule.state = s.schedule.state := by
  obtain ⟨w, schedule⟩ := gapped_schedule (s := s) (e := e) p
  rw [schedule]

theorem gapped_idCounter : (s.gapped e p).schedule.idCounter = s.schedule.idCounter := by
  obtain ⟨w, schedule⟩ := gapped_schedule (s := s) (e := e) p
  rw [schedule]

theorem gapped_stays (h : e.gap = 0 ∨ (p + BitVec.ofNat 32 e.gap - s.pos.h).toInt ≤ 0) :
    (s.gapped e p).schedule.gapRelease = s.schedule.gapRelease ∧ (s.gapped e p).held .scheduleGap = s.held .scheduleGap := by
  rw [State.gapped, judgeGap_stays (s.entryFilled e) h]
  exact ⟨rfl, rfl⟩

theorem gapped_holds (gap0 : e.gap ≠ 0) (ahead' : 0 < (p + BitVec.ofNat 32 e.gap - s.pos.h).toInt) :
    (s.gapped e p).held .scheduleGap = true
      ∧ (s.gapped e p).schedule.gapRelease = some (s.gapKept (p + BitVec.ofNat 32 e.gap)) := by
  rw [State.gapped, judgeGap_holds (s.entryFilled e) gap0 ahead']
  exact ⟨(held_placeHold _ .scheduleGap .scheduleGap).trans (by simp), rfl⟩

theorem held_gapped_of_ne {h : HoldReason} (ne : h ≠ .scheduleGap) : (s.gapped e p).held h = s.held h :=
  held_judgeGap_of_ne (s.entryFilled e) p e.gap ne

theorem gapped_tells : Tells [.holdChanged] s (s.gapped e p) := by
  have before : Tells [.holdChanged] s (s.entryFilled e) :=
    ((updateEntry_frame s _ _).tells (by decide)).trans ((updateEntry_frame _ _ _).tells (by decide))
  exact before.trans (judgeGap_tells _ p e.gap)

theorem held_filledBy_gap : (s.filledBy e p).held .scheduleGap = (s.gapped e p).held .scheduleGap := by
  unfold State.filledBy
  cases e.stopAfter with
  | true => rw [activateNext_held_stop]; rfl
  | false => exact activateNext_held _ (by decide) (by decide)

theorem held_filledBy_stop : (s.filledBy e p).held .scheduleStop = (e.stopAfter || s.held .scheduleStop) := by
  rw [← held_gapped_of_ne (s := s) (e := e) p (show HoldReason.scheduleStop ≠ .scheduleGap by decide)]
  unfold State.filledBy
  cases e.stopAfter with
  | true => rw [activateNext_held_stop]; rfl
  | false => exact activateNext_held _ (by decide) (by decide)

end

/-! ## The record that is admitted -/

/-- The record of a planned loaf where its admission left the queue as it was. -/
theorem record?_planned {s : State} {r : LoafRecord} (made : Plan × Reasons) (found : s.record? r.tag = some r) :
    (s.planned r made).record? r.tag = some (r.planned made) :=
  (record?_updateRecord s r.tag (fun x => x.planned made) fun _ => rfl).trans (by rw [found]; rfl)

theorem record?_of_mem {s : State} {r : LoafRecord} (tags : (s.queue.records.map LoafRecord.tag).Nodup) (mem : r ∈ s.queue.records) :
    s.record? r.tag = some r := by
  cases found : s.record? r.tag with
  | none => exact absurd (decide_eq_true rfl) (List.find?_eq_none.mp found r mem)
  | some x => rw [List.inj_on_of_nodup_map tags (record?_mem s found) mem (record?_tag found)]

theorem record?_of_queue {s t : State} (same : t.queue = s.queue) (tag : Nat) : t.record? tag = s.record? tag := by
  rw [State.record?, same]; rfl

/-- The carried count of an entry. -/
def Entry.uncarried (e : Entry) : Entry := { e with carried := e.carried - 1 }

/-- A FILLED entry carries one loaf less, and is closed when it carries none (R105). -/
theorem uncarried_schedule {s : State} {e : Entry} (ids : (s.schedule.entries.map Entry.id).Nodup) (mem : e ∈ s.schedule.entries)
    (filled : e.state = .filled) :
    ((s.updateEntry e.id Entry.uncarried).closeEntry e.id).schedule =
        { s.schedule with
          entries := s.schedule.entries.map fun y =>
            if y.id = e.id then { e with carried := e.carried - 1, state := if e.carried ≤ 1 then .closed else .filled } else y }
      ∧ (e.carried ≤ 1 → Noticed ((s.updateEntry e.id Entry.uncarried).closeEntry e.id) .office .entryClosed) := by
  let d := s.updateEntry e.id Entry.uncarried
  have ids' : (d.schedule.entries.map Entry.id).Nodup := by
    have same := ids_map (es := s.schedule.entries) (g := fun y => if y.id = e.id then y.uncarried else y) fun y => by
      split <;> rfl
    rwa [← same] at ids
  have mem' : e.uncarried ∈ d.schedule.entries := List.mem_map.mpr ⟨e, mem, if_pos rfl⟩
  have found : d.entry? e.id = some e.uncarried := entry?_of_mem ids' mem'
  refine ⟨(closeEntry_schedule d ids' mem').trans ?_, fun last => closeEntry_noticed d found ⟨filled, ?_⟩⟩
  · have closed : e.uncarried.closed = { e with carried := e.carried - 1, state := if e.carried ≤ 1 then .closed else .filled } := by
      unfold Entry.closed
      by_cases last : e.carried ≤ 1
      · rw [if_pos ⟨filled, (by omega : e.carried - 1 = 0)⟩, if_pos last]; rfl
      · rw [if_neg fun done => last (by have none : e.carried - 1 = 0 := done.2; omega), if_neg last, ← filled]; rfl
    rw [closed]
    refine congrArg (fun l => { s.schedule with entries := l }) ((List.map_map ..).trans (List.map_congr_left fun y _ => ?_))
    by_cases same : y.id = e.id
    · simp [same, Entry.uncarried]
    · simp [same, Entry.uncarried]
  · show e.carried - 1 = 0
    omega

/-! ## O38 -/

theorem updateEntry_schedule (id : Nat) (f : Entry → Entry) :
    (s.updateEntry id f).schedule =
      { s.schedule with entries := s.schedule.entries.map fun y => if y.id = id then f y else y } := rfl

/-- What the end of a planning leaves as its admission made it. -/
theorem planning_after_admission (r : LoafRecord) (made : Plan × Reasons) (p : Pos) :
    OnlyTouches [.crumb, .ports] ((s.planned r made).judgeAdmission r made.2 p) (s.admitted r made p).judgeBlasts
      ∧ Tells [.bagReady] ((s.planned r made).judgeAdmission r made.2 p) (s.admitted r made p).judgeBlasts := by
  refine ⟨((judgeBagReady_frame _ _).within rfl).andThen (judgeBlasts_frame _) rfl, ?_⟩
  have ready : Tells [.bagReady] ((s.planned r made).judgeAdmission r made.2 p) (s.admitted r made p) :=
    .ite (.refl _ _) (notify_tells _ (p := .bagger) rfl)
  exact ready.trans ((judgeBlasts_frame _).tells (by decide))

/-- Settles O38: an admission by the entry its record carries. -/
theorem admissionAndFill : Obligations.AdmissionAndFill := by
  intro s c before after r q pending atH tags ids split stage oldest product reasons
  let made := makePlan r.reference c.captured s.pos.config q (s.held .bladeMismatch)
  let u := s.edgeReached .e0 .clear c
  let w := u.planned r made
  let a := w.judgeAdmission r reasons c.captured
  let t := (u.admitted r made c.captured).judgeBlasts
  have run : exec (.eyeFilterExpiry .e0) s = .next t :=
    trailingEdge_plans s pending atH (measuring?_split s split stage oldest) product
  have reached := edgeReached_frame s .e0 .clear c
  obtain ⟨after', told⟩ : OnlyTouches [.crumb, .ports] a t ∧ Tells [.bagReady] a t := planning_after_admission u r made c.captured
  have schedule : t.schedule = a.schedule := after' .schedule (by decide)
  have recipes : t.recipes = a.recipes := after' .recipes (by decide)
  have held (h : HoldReason) : t.held h = a.held h := after'.held (by decide) h
  have scheduleThen : w.schedule = s.schedule := reached .schedule (by decide)
  have recipesThen : w.recipes = s.recipes := reached .recipes (by decide)
  have heldThen (h : HoldReason) : w.held h = s.held h := held_edgeReached_infeed s .clear c h
  have posThen : w.pos.h = s.pos.h := by
    show u.pos.h = _
    rw [edgeReached_pos]
  have firstThen : w.firstPending = s.firstPending := by rw [State.firstPending, scheduleThen]; rfl
  have tells : Tells [] s w := (edgeReached_tells s [] .e0 .clear c).trans ((updateRecord_frame u _ _).tells (by decide))
  have queueThen : u.queue = s.queue := reached .queue (by decide)
  have mem : r ∈ s.queue.records := by rw [split]; simp
  have here : u.record? r.tag = some r := by
    rw [record?_of_queue queueThen]
    exact record?_of_mem tags mem
  have planned : w.record? r.tag = some (r.planned made) := record?_planned made here
  have kept (queue : a.queue = w.queue) : t.record? r.tag = some (r.planned made) := by
    rw [record?_of_queue (after' .queue (by decide)), record?_of_queue queue, planned]
  have lost (queue : a.queue = { w.queue with records := withdrawn r.tag w.queue.records }) :
      t.record? r.tag = some { r.planned made with entry := none } := by
    rw [record?_of_queue (after' .queue (by decide)), record?_of_queue (s := w.updateRecord r.tag fun y => { y with entry := none }) queue]
    exact (record?_updateRecord w r.tag (fun y => { y with entry := none }) fun _ => rfl).trans (by rw [planned]; rfl)
  obtain ⟨x, found⟩ : ∃ x, t.record? r.tag = some x :=
    (judgeAdmission_queue w r reasons c.captured).elim (fun queue => ⟨_, kept queue⟩) fun queue => ⟨_, lost queue⟩
  have keeps (queue : a.queue = w.queue) : x.entry = r.entry := by
    rw [Option.some.inj (found.symm.trans (kept queue))]; rfl
  refine ⟨t, x, run, found, fun none => ?_, fun e here entry under over' => ?_⟩
  · have stays : a = w := none.elim (judgeAdmission_of_none c.captured reasons) (judgeAdmission_of_size c.captured)
    exact ⟨schedule.trans ((congrArg State.schedule stays).trans scheduleThen), keeps (congrArg State.queue stays)⟩
  have right := notSize under over'
  have idsThen : (w.schedule.entries.map Entry.id).Nodup := by rw [scheduleThen]; exact ids
  have hereThen : e ∈ w.schedule.entries := by rw [scheduleThen]; exact here
  have entryFound : w.entry? e.id = some e := entry?_of_mem idsThen hereThen
  have fills (active : e.state = .active) (full : e.target ≤ e.admitted + 1) (carries : 1 ≤ e.carried) : a = w.filledBy e c.captured :=
    (judgeAdmission_fills c.captured entry right entryFound active full).trans
      (filledBy_schedule c.captured idsThen hereThen active carries).2
  refine ⟨fun active => ?_, fun active below => ?_, fun active full carries => ?_, fun filled => ?_⟩
  · refine (keeps ?_).trans entry
    by_cases full : e.target ≤ e.admitted + 1
    · exact (congrArg State.queue (judgeAdmission_fills c.captured entry right entryFound active full)).trans
        (fillByAdmission_frame _ _ _ .queue (by decide))
    · exact (congrArg State.queue (judgeAdmission_below c.captured entry right entryFound active (not_le.mp full))).trans rfl
  · have admits := judgeAdmission_below c.captured entry right entryFound active below
    have listed := map_entry_eq ids here (fun y => { y with admitted := y.admitted + 1 }) fun y => y
    refine schedule.trans ((congrArg State.schedule admits).trans ?_)
    rw [updateEntry_schedule, scheduleThen, listed]
  · have full' := fills active full carries
    obtain ⟨list, -⟩ := filledBy_schedule c.captured idsThen hereThen active carries
    have first : (w.gapped e c.captured).firstPending = s.firstPending :=
      (gapped_firstPending c.captured idsThen hereThen active).trans firstThen
    have state : (w.gapped e c.captured).schedule.state = s.schedule.state :=
      (gapped_state c.captured).trans (congrArg RunSchedule.state scheduleThen)
    have filledSchedule : t.schedule = _ := (schedule.trans (congrArg State.schedule full')).trans list
    have frame := gapped_frame (s := w) (e := e) c.captured
    have recipesGapped : (w.gapped e c.captured).recipes = s.recipes := by rw [frame .recipes (by decide), recipesThen]
    have recipesFilled : t.recipes = (w.filledBy e c.captured).recipes := recipes.trans (congrArg State.recipes full')
    have stateFilled := congrArg RunSchedule.state filledSchedule
    have heldFilled (h : HoldReason) : t.held h = (w.filledBy e c.captured).held h := by rw [held h, full']
    refine ⟨?_, ?_, ⟨fun stays => ?_, fun gap0 ahead' => ⟨?_, fun none => ?_, fun x standing => ?_⟩⟩, fun stop => ⟨?_, ?_⟩, fun stop => ?_,
      fun none => ⟨?_, ?_⟩, fun n next => ⟨fun stop => ⟨?_, fun runs => ?_⟩, fun stop => ⟨?_, fun rests => ?_, fun runs => ?_⟩⟩⟩
    · rw [filledSchedule]
      exact (gapped_idCounter c.captured).trans (congrArg RunSchedule.idCounter scheduleThen)
    · rw [filledSchedule]
      show w.filledList e e.full = _
      rw [State.filledList, scheduleThen, firstThen]; rfl
    · obtain ⟨release, hold⟩ := gapped_stays (s := w) (e := e) c.captured (by rw [posThen]; exact stays)
      refine ⟨?_, ?_⟩
      · rw [filledSchedule]
        exact release.trans (congrArg RunSchedule.gapRelease scheduleThen)
      · rw [heldFilled, held_filledBy_gap, hold, heldThen]
    · rw [heldFilled, held_filledBy_gap]
      exact (gapped_holds (s := w) c.captured gap0 (by rw [posThen]; exact ahead')).1
    · rw [filledSchedule]
      refine (gapped_holds (s := w) c.captured gap0 (by rw [posThen]; exact ahead')).2.trans (congrArg some ?_)
      exact gapKept_none w _ (by rw [scheduleThen]; exact none)
    · rw [filledSchedule]
      refine (gapped_holds (s := w) c.captured gap0 (by rw [posThen]; exact ahead')).2.trans (congrArg some ?_)
      exact gapKept_some w _ (by rw [scheduleThen]; exact standing)
    · rw [heldFilled, held_filledBy_stop, stop]; rfl
    · exact recipesFilled.trans ((activateNext_recipes _ (.inl stop)).trans recipesGapped)
    · rw [heldFilled, held_filledBy_stop, stop, heldThen]; rfl
    · refine stateFilled.trans (if_pos ?_)
      rw [firstThen]; exact none
    · exact recipesFilled.trans ((activateNext_recipes _ (.inr (.inl (first.trans none)))).trans recipesGapped)
    · refine stateFilled.trans ((if_neg (by simp [firstThen, next])).trans ?_)
      rw [state, stop]; simp
    · refine told.stands ?_
      rw [full', State.filledBy, stop]
      exact activateNext_suspends _ (first.trans next) (state.trans runs)
    · refine stateFilled.trans ((if_neg (by simp [firstThen, next])).trans ?_)
      rw [state, stop]; simp
    · exact recipesFilled.trans ((activateNext_recipes _ (.inr (.inr (by rw [state]; exact rests)))).trans recipesGapped)
    · have wrote : ScheduleWrote s (w.filledBy e c.captured) n.slot := by
        rw [State.filledBy, stop]
        exact (activateNext_wrote _ (first.trans next) (state.trans runs)).of_before recipesGapped
          ((tells.within (List.nil_subset _)).trans (gapped_tells c.captured)) (by decide)
      rw [← full'] at wrote
      exact wrote.after recipes told (by decide) (held _) (held _)
  · have filled' := judgeAdmission_filled c.captured entry right entryFound (by rw [filled]; decide)
    let d := w.updateRecord r.tag fun y => { y with entry := none }
    obtain ⟨list, closes⟩ := uncarried_schedule (s := d) idsThen hereThen filled
    have queue : a.queue = d.queue := by
      rw [congrArg State.queue filled', closeEntry_frame _ _ .queue (by decide)]
      rfl
    refine ⟨?_, (schedule.trans (congrArg State.schedule filled')).trans (list.trans ?_), fun last => told.stands ?_⟩
    · rw [Option.some.inj (found.symm.trans (lost queue))]
    · have same : d.schedule = s.schedule := scheduleThen
      rw [same]
    · have same : a = _ := filled'
      rw [same]
      exact closes last

end Sys2Proof.Machine
end

section
/-! SUPPORT. A leading edge of E0 that finds two entries under one id: the loss before the creation closes the ACTIVE one with the other. -/

namespace Sys2Proof.Machine

/-! ## Two entries under one id -/

/-- A loaf of slot 2 that is still MEASURING and carries the id 7. -/
def measuringLoaf : LoafRecord := newRecord 2 2 (some 7) ⟨121, 6, 2, false⟩ 0

/-- Slot 2: ACTIVE with a product, its one loaf in flight. -/
def measuredSlot : Slot :=
  { state := .active, product := some ⟨4110, 125, 150, 3800, 4400, 3900, 4300, 18, 4⟩, inFlight := 1 }

/-- The pending change of E0, captured at H. -/
def edgeAtH : PendingChange := ⟨77, true, 2, 2⟩

/-- A FILLED entry that carries its last loaf, and the ACTIVE one, both under the id 7. -/
def sharedId : List Entry :=
  [{ newEntry 7 2 10 0 false with state := .filled, carried := 1 }, { newEntry 7 2 10 0 false with state := .active }]

/-- The machine at reset, but for: a VALID chain, slot 2 ACTIVE, an ACTIVE schedule of those two entries, the MEASURING loaf in the queue,
and a leading edge pending at E0. -/
def sharedIdState : State :=
  { State.reset with
    chain := { State.reset.chain with state := .valid }
    recipes := { State.reset.recipes with
      slots := State.reset.recipes.slots.set 2 measuredSlot }
    schedule := { State.reset.schedule with entries := sharedId, state := .active }
    queue := { State.reset.queue with records := [measuringLoaf] }
    pos := { State.reset.pos with filters := State.reset.pos.filters.set .e0 ⟨.clear, some edgeAtH⟩ } }

/-- The entry ids of the records of an outcome's state. -/
def recordIds : Host.Outcome State Fault Refusal → List (Option Nat)
  | .next t => t.queue.records.map LoafRecord.entry
  | _ => []

theorem sharedIdState_recipeLaw : RecipeLaw sharedIdState := by
  refine ⟨by decide, fun x h => ?_, by decide⟩
  cases h

theorem sharedIdState_selection : sharedIdState.recipes.selection = none := rfl

theorem sharedIdState_activeSlot : sharedIdState.activeSlot = some 2 := by decide

theorem sharedIdState_records : sharedIdState.queue.records = [] ++ measuringLoaf :: [] := rfl

theorem sharedIdState_kept : ([] : List LoafRecord) = without measuringLoaf.tag sharedIdState.queue.records := by decide

theorem sharedIdState_chain : sharedIdState.chain.state = .valid := rfl

theorem sharedIdState_filter : sharedIdState.pos.filters.e0 = ⟨.clear, some edgeAtH⟩ := rfl

/-- The id the statement gives the new record. -/
theorem sharedIdState_entry :
    (if sharedIdState.schedule.state = .active then sharedIdState.activeEntry.map Entry.id else none) = some 7 := by decide

/-- The record created carries no id: with the FILLED entry the ACTIVE one under the same id was closed. -/
theorem sharedIdState_created : recordIds (exec (.eyeFilterExpiry .e0) sharedIdState) = [none] := by decide

/-- Refutes O25: the loaf lost was the last of a FILLED entry (R105); the closing of that entry by its id closes the ACTIVE one that
shares the id, so that the new record takes no id where the statement gives it the id 7. No run reaches two entries under one id. -/
theorem not_leadingEdgeFollowsR65 : ¬ Obligations.LeadingEdgeFollowsR65 := by
  unfold Obligations.LeadingEdgeFollowsR65
  intro h
  have creates := h.1 sharedIdState edgeAtH 2 [] sharedIdState_filter rfl sharedIdState_chain sharedIdState_recipeLaw
    (by rw [sharedIdState_selection]; nofun) (fun _ => sharedIdState_activeSlot)
    (.inr ⟨[], measuringLoaf, [], sharedIdState_records, rfl, by simp, sharedIdState_kept⟩) (by decide)
  obtain ⟨t, tag, run, rest⟩ := creates
  have records := rest.2.1
  have ids : t.queue.records.map LoafRecord.entry = [some 7] := by
    rw [records, sharedIdState_entry]
    rfl
  have created := sharedIdState_created
  rw [run, recordIds, ids] at created
  exact absurd created (by decide)

end Sys2Proof.Machine
end

section
/-! SUPPORT. Blasts judged more than once in one event, a charge, and the matches at E1 and E2. -/

namespace Sys2Proof.Machine

variable (s : State)

/-! ## Where the loaves are -/

/-- Each record of the second list stands where one of the first does. -/
def Covers (before after : List LoafRecord) : Prop := ∀ y ∈ after, ∃ x ∈ before, x.reference = y.reference ∧ x.plan = y.plan

theorem Covers.refl (rs : List LoafRecord) : Covers rs rs := fun y h => ⟨y, h, rfl, rfl⟩

theorem Covers.trans {as bs cs : List LoafRecord} (h : Covers as bs) (k : Covers bs cs) : Covers as cs := by
  intro z hz
  obtain ⟨y, hy, reference, plan⟩ := k z hz
  obtain ⟨x, hx, reference', plan'⟩ := h y hy
  exact ⟨x, hx, reference'.trans reference, plan'.trans plan⟩

theorem Covers.dropRecord (tag : Nat) (rs : List LoafRecord) : Covers rs (dropRecord tag rs) :=
  fun y h => ⟨y, (List.mem_filter.mp h).1, rfl, rfl⟩

theorem Covers.changeRecord {tag : Nat} {f : LoafRecord → LoafRecord} {rs : List LoafRecord}
    (stays : ∀ x ∈ rs, x.tag = tag → x.reference = (f x).reference ∧ x.plan = (f x).plan) : Covers rs (changeRecord tag f rs) := by
  intro y h
  obtain ⟨x, hx, rfl⟩ := List.mem_map.mp h
  refine ⟨x, hx, ?_⟩
  split
  · exact stays x hx ‹_›
  · exact ⟨rfl, rfl⟩

theorem occupies_congr {x y : LoafRecord} (reference : x.reference = y.reference) (plan : x.plan = y.plan) (h : Pos) (v : Nat) (b : Bar) :
    occupies h v b x = occupies h v b y := by
  unfold occupies tailOf noseOf
  rw [reference, plan]

theorem occupant_eq_none_iff (z : Zone) :
    s.occupant z = none ↔
      (s.zone z).fitted = true → ∀ b, s.bar z = some b → ∀ r ∈ s.queue.records, occupies s.pos.h s.pos.v b r = false := by
  unfold State.occupant
  by_cases fitted : (s.zone z).fitted = true
  · cases bar : s.bar z with
    | none => simp [fitted]
    | some b => simp [fitted]
  · simp [fitted]

/-- From t to u no zone, no bar, no position and not the time changes, and a zone that was clear stays so. -/
structure Clearing (t u : State) : Prop where
  crumb : u.crumb = t.crumb
  chain : u.chain = t.chain
  now : u.now = t.now
  clear : ∀ z, t.occupant z = none → u.occupant z = none

theorem Clearing.of_records {t u : State} {ps : List Part} (h : OnlyTouches ps t u)
    (apart : ∀ x ∈ [Part.crumb, .chain, .now, .pos], x ∉ ps) (covers : Covers t.queue.records u.queue.records) : Clearing t u where
  crumb := h .crumb (apart .crumb (by decide))
  chain := h .chain (apart .chain (by decide))
  now := h .now (apart .now (by decide))
  clear z empty := by
    rw [occupant_eq_none_iff] at empty ⊢
    have pos : u.pos = t.pos := h .pos (apart .pos (by decide))
    rw [h.zone (apart .crumb (by decide)), h.bar (apart .chain (by decide)), pos]
    intro fitted b bar y hy
    obtain ⟨x, hx, reference, plan⟩ := covers y hy
    rw [← occupies_congr reference plan]
    exact empty fitted b bar x hx

theorem Clearing.of_frame {t u : State} {ps : List Part} (h : OnlyTouches ps t u)
    (apart : ∀ x ∈ [Part.crumb, .chain, .now, .pos, .queue], x ∉ ps) : Clearing t u := by
  have queue : u.queue = t.queue := h .queue (apart .queue (by decide))
  refine .of_records h (fun x hx => apart x ?_) (by rw [queue]; exact .refl _)
  simp only [List.mem_cons, List.not_mem_nil, or_false] at hx ⊢
  tauto

theorem Clearing.trans {t u v : State} (h : Clearing t u) (k : Clearing u v) : Clearing t v where
  crumb := k.crumb.trans h.crumb
  chain := k.chain.trans h.chain
  now := k.now.trans h.now
  clear z empty := k.clear z (h.clear z empty)

/-! ## Blasts judged in the course of an event -/

/-- The blast of a zone has been started since s, and the zone is still clear. -/
def BlastStarted (s t : State) (z : Zone) : Prop :=
  ∃ b, t.bar z = some b ∧ (s.zone z).fitted = true ∧ (s.zone z).blastEnd = none ∧ (s.zone z).wanted = true ∧ t.occupant z = none
    ∧ t.zone z = (s.zone z).startBlast t.now b

/-- From s to t no zone changes, but that its blast may have been started. -/
def Judging (s t : State) : Prop := ∀ z, t.zone z = s.zone z ∨ BlastStarted s t z

theorem Judging.refl : Judging s s := fun _ => .inl rfl

theorem Judging.clearing {s t u : State} (h : Judging s t) (k : Clearing t u) : Judging s u := by
  intro z
  have zone : u.zone z = t.zone z := zone_of_crumb k.crumb z
  obtain same | ⟨b, bar, fitted, resting, wanted, empty, started⟩ := h z
  · exact .inl (zone.trans same)
  · refine .inr ⟨b, (bar_of_chain k.chain z).trans bar, fitted, resting, wanted, k.clear z empty, ?_⟩
    rw [zone, started, k.now]

theorem Judging.judge {s t : State} (h : Judging s t) (z : Zone) : Judging s (t.judgeBlast z) := by
  intro w
  have same := SameForBlasts.of_crumb (judgeBlast_frame t z)
  by_cases stays : (t.judgeBlast z).zone w = t.zone w
  · obtain before | ⟨b, bar, fitted, resting, wanted, empty, started⟩ := h w
    · exact .inl (stays.trans before)
    · exact .inr ⟨b, (same.bar w).trans bar, fitted, resting, wanted, (same.occupant (by rw [stays])).trans empty,
        by rw [stays, started, same.now]⟩
  · obtain rfl : w = z := by_contra fun ne => stays (zone_judgeBlast_of_ne t ne)
    rw [zone_judgeBlast_self] at stays
    have starts : t.blastStarts w = true := by
      by_contra no
      exact stays (judgedZone_of_not_starts t (.inr (Bool.eq_false_iff.mpr no)))
    obtain ⟨b, bar⟩ : ∃ b, t.bar w = some b :=
      Option.ne_none_iff_exists'.mp fun none => stays (judgedZone_of_not_starts t (.inl none))
    obtain ⟨fitted, resting, empty, wanted⟩ := (blastStarts_iff t w).mp starts
    obtain before | ⟨b', -, -, -, -, -, started⟩ := h w
    · rw [before] at fitted resting wanted
      refine .inr ⟨b, (same.bar w).trans bar, fitted, resting, wanted, ?_, ?_⟩
      · exact (same.occupant (by rw [zone_judgeBlast_self, judgedZone_fitted])).trans empty
      · rw [zone_judgeBlast_self, judgedZone_of_starts t bar starts, before, same.now]
    · rw [started] at resting
      cases resting

theorem Judging.judgeBlasts {s t : State} (h : Judging s t) : Judging s t.judgeBlasts := (h.judge .z0).judge .z1

theorem Judging.load {s t : State} (h : Judging s t) (z : Zone) : (t.zone z).load = (s.zone z).load := by
  obtain same | ⟨b, -, -, -, -, -, started⟩ := h z
  · rw [same]
  · rw [started]; rfl

theorem Judging.fitted {s t : State} (h : Judging s t) (z : Zone) : (t.zone z).fitted = (s.zone z).fitted := by
  obtain same | ⟨b, -, -, -, -, -, started⟩ := h z
  · rw [same]
  · rw [started]; rfl

theorem Judging.unfitted {s t : State} (h : Judging s t) {z : Zone} (unfitted : (s.zone z).fitted = false) : t.zone z = s.zone z := by
  obtain same | ⟨b, -, fitted, -⟩ := h z
  · exact same
  · rw [unfitted] at fitted; cases fitted

/-- No blast is left to start. -/
def Settled (t : State) : Prop := ∀ z, t.bar z = none ∨ t.blastStarts z = false

theorem judgeBlasts_settled : Settled s.judgeBlasts := by
  intro z
  have same := judgeBlasts_same s
  rw [same.bar]
  cases bar : s.bar z with
  | none => exact .inl rfl
  | some b =>
    refine .inr (Bool.eq_false_iff.mpr fun starts => ?_)
    obtain ⟨fitted, resting, empty, wanted⟩ := (blastStarts_iff _ z).mp starts
    rw [zone_judgeBlasts] at fitted resting wanted
    rw [occupant_judgeBlasts] at empty
    by_cases before : s.blastStarts z = true
    · rw [judgedZone_of_starts s bar before] at resting
      cases resting
    · rw [judgedZone_of_not_starts s (.inr (Bool.eq_false_iff.mpr before))] at fitted resting wanted
      exact before ((blastStarts_iff s z).mpr ⟨fitted, resting, empty, wanted⟩)

/-- Blasts judged as often as one likes while the zones clear, until none is left to start, are judged on where the loaves then are. -/
theorem Judging.judged {r s t : State} {dropped : Bool} (h : Judging s t) (settled : Settled t)
    (kept : ∀ z, s.zone z = { r.zone z with load := (s.zone z).load, purgeOwed := (r.zone z).purgeOwed && !dropped }) :
    BlastsJudged r t dropped := by
  intro z before wanted
  have isBefore : s.zone z = before := (kept z).trans (by rw [← h.load z])
  clear_value before
  subst isBefore
  obtain same | ⟨b, bar, fitted, resting, wants, empty, started⟩ := h z
  · refine ⟨fun b bar fitted resting wants empty => ?_, fun _ => same⟩
    obtain none | stays := settled z
    · rw [none] at bar; cases bar
    · rw [(blastStarts_iff t z).mpr ⟨same ▸ fitted, same ▸ resting, empty, same ▸ (wanted_iff _).mpr wants⟩] at stays
      cases stays
  · refine ⟨fun b' bar' _ _ _ _ => ?_, fun why => ?_⟩
    · obtain rfl : b = b' := Option.some.inj (bar.symm.trans bar')
      exact started
    · obtain none | unfitted | blasting | unwanted | occupied := why
      · rw [none] at bar; cases bar
      · rw [unfitted] at fitted; cases fitted
      · exact absurd resting blasting
      · exact absurd ((wanted_iff _).mp wants) unwanted
      · exact absurd empty occupied

/-! ## A charge (R130, R132) -/

/-- A charge to a zone before anything is judged. -/
def State.loadRaised (s : State) (z : Zone) (c : Nat) : State :=
  if (s.zone z).fitted then s.setZone z { s.zone z with load := min ((s.zone z).load + c) loadLimit } else s

theorem charge_judging (z : Zone) (c : Nat) : Judging (s.loadRaised z c) (s.charge z c) := by
  unfold State.charge State.loadRaised
  split
  · exact ((Judging.refl _).clearing (.of_frame (judgeFull_frame _ z) (by decide))).judge z
  · exact .refl s

theorem zone_loadRaised_self {z : Zone} (fitted : (s.zone z).fitted = true) (c : Nat) :
    (s.loadRaised z c).zone z = { s.zone z with load := min ((s.zone z).load + c) loadLimit } := by
  rw [State.loadRaised, if_pos fitted, zone_setZone_self]

theorem loadRaised_unfitted {z : Zone} (unfitted : (s.zone z).fitted = false) (c : Nat) : s.loadRaised z c = s := by
  rw [State.loadRaised, if_neg (by rw [unfitted]; decide)]

theorem zone_loadRaised_of_ne {z w : Zone} (ne : w ≠ z) (c : Nat) : (s.loadRaised z c).zone w = s.zone w := by
  unfold State.loadRaised
  split
  · exact zone_setZone_of_ne s z w _ ne
  · rfl

theorem zone_loadRaised (z w : Zone) (c : Nat) :
    (s.loadRaised z c).zone w = { s.zone w with load := ((s.loadRaised z c).zone w).load } := by
  by_cases same : w = z
  · subst same
    cases fitted : (s.zone w).fitted with
    | false => rw [loadRaised_unfitted s fitted]
    | true => rw [zone_loadRaised_self s fitted]
  · rw [zone_loadRaised_of_ne s same]

/-- CRUMB_FULL after a charge is judged on the load raised. -/
theorem held_charge {z : Zone} (fitted : (s.zone z).fitted = true) (c : Nat) (r : HoldReason) :
    (s.charge z c).held r = ((s.loadRaised z c).judgeFull z).held r := by
  have charge : s.charge z c = ((s.loadRaised z c).judgeFull z).judgeBlast z := by
    rw [State.charge, if_pos fitted, State.loadRaised, if_pos fitted]
  rw [charge, (judgeBlast_frame _ z).held (by decide)]

/-- What a charge leaves, judged on and off while the zones clear, with the CRUMB_FULL reasons standing. -/
theorem charged_of_judging {u v t : State} {z : Zone} {c : Nat} (crumb : v.crumb = u.crumb) (line : v.line = u.line)
    (judging : Judging (v.loadRaised z c) t) (holds : t.held (fullReason z) = (v.charge z c).held (fullReason z)) : Charged u t z c := by
  have zone (w : Zone) : v.zone w = u.zone w := zone_of_crumb crumb w
  have before : v.held (fullReason z) = u.held (fullReason z) := by rw [State.held, line]; rfl
  refine ⟨fun w ne => ?_, fun unfitted => ?_, fun fitted => ?_⟩
  · rw [judging.load, zone_loadRaised_of_ne v ne, zone]
  · rw [← zone] at unfitted
    have raised := loadRaised_unfitted v unfitted c
    rw [raised] at judging
    rw [judging.unfitted unfitted, zone]
  · rw [← zone] at fitted
    have raised := zone_loadRaised_self v fitted c
    have load : (t.zone z).load = ((v.loadRaised z c).zone z).load := judging.load z
    have hard : ((v.loadRaised z c).zone z).hard = (u.zone z).hard := by rw [raised, zone]
    have soft : ((v.loadRaised z c).zone z).soft = (u.zone z).soft := by rw [raised, zone]
    have stands : (v.loadRaised z c).held (fullReason z) = v.held (fullReason z) := by
      rw [State.loadRaised, if_pos fitted]; rfl
    rw [holds, held_charge v fitted, load, ← hard, ← soft]
    refine ⟨?_, held_judgeFull_full _, held_judgeFull_below _, fun notFull between => ?_⟩
    · rw [raised, zone]; rfl
    · rw [held_judgeFull_between _ notFull between, stands, before]

/-- A charge, then steps that leave the zones to be judged once more on fewer loaves. -/
theorem charged_then_judged {u v x : State} {z : Zone} {c : Nat} (crumb : v.crumb = u.crumb) (line : v.line = u.line)
    (clearing : Clearing (v.charge z c) x) (holds : x.held (fullReason z) = (v.charge z c).held (fullReason z)) :
    Charged u x.judgeBlasts z c ∧ BlastsJudged u x.judgeBlasts false := by
  have judging : Judging (v.loadRaised z c) x.judgeBlasts := ((charge_judging v z c).clearing clearing).judgeBlasts
  refine ⟨charged_of_judging crumb line judging ?_, judging.judged (judgeBlasts_settled x) fun w => ?_⟩
  · rw [(judgeBlasts_frame x).held (by decide), holds]
  · rw [← zone_of_crumb crumb, Bool.not_false, Bool.and_true]
    exact zone_loadRaised v z w c

/-! ## A match (R70) -/

/-- The edge of a downstream eye within the tolerance of its oldest candidate is a match. -/
theorem exec_match {e : Eye} {g : Stage} {c : PendingChange} {st : EyeStation} {before after : List LoafRecord} {r : LoafRecord}
    (awaits : candidateStage e = some g) (pending : s.pos.filters.get e = ⟨.clear, some c⟩) (atH : c.atH = true)
    (station : s.eyeStation e = some st) (split : s.queue.records = before ++ r :: after) (stage : r.stage = g)
    (oldest : ∀ x ∈ before, x.stage ≠ g) (low : -(st.tolerance : Int) ≤ edgeDeviation r st c.captured)
    (high : edgeDeviation r st c.captured ≤ (st.tolerance : Int)) :
    exec (.eyeFilterExpiry e) s = .next ((s.edgeReached e .dark c).matchAt e (r.rebase c.captured st) c.captured) := by
  have downstream := candidateStage_downstream awaits
  have frame := edgeReached_frame s e .dark c
  have queue : (s.edgeReached e .dark c).queue = s.queue := frame .queue (by decide)
  have stationThen : (s.edgeReached e .dark c).eyeStation e = some st := by
    rw [← station, State.eyeStation, frame .chain (by decide)]; rfl
  have leading : exec (.eyeFilterExpiry e) s = .next ((s.edgeReached e .dark c).downstreamLeading e c.captured) :=
    (exec_edge s pending atH).trans (congrArg Host.Outcome.next (takeEdge_leading _ downstream c.captured))
  rw [leading, downstreamLeading_of_station _ c.captured stationThen,
    candidates_split (s.edgeReached e .dark c) awaits (queue ▸ split) stage oldest, tryCandidates_match _ _ low high]

theorem changeRecord_twice {tag : Nat} {r d : LoafRecord} (same : r.tag = tag) (rs : List LoafRecord) :
    changeRecord tag (fun _ => d) (changeRecord tag (fun _ => r) rs) = changeRecord tag (fun _ => d) rs := by
  refine (List.map_map ..).trans (List.map_congr_left fun x _ => ?_)
  by_cases h : x.tag = tag <;> simp [h, same]

theorem dropRecord_changeRecord {tag : Nat} {f : LoafRecord → LoafRecord} (keeps : ∀ x, x.tag = tag → (f x).tag = tag)
    (rs : List LoafRecord) : dropRecord tag (changeRecord tag f rs) = dropRecord tag rs := by
  induction rs with
  | nil => rfl
  | cons x rs ih =>
    unfold dropRecord changeRecord at ih ⊢
    by_cases h : x.tag = tag <;> simpa [h, keeps] using ih

/-- A record put back twice: once re-based, once with what the match makes of it. -/
theorem queue_putRecord_twice {v b : State} {m d : LoafRecord} (tag : d.tag = m.tag) (queue : b.queue = (v.putRecord m).queue) :
    (b.putRecord d).queue = { v.queue with records := replaced m.tag d v.queue.records } := by
  show ({ b.queue with records := changeRecord d.tag (fun _ => d) b.queue.records } : TrackingQueue) = _
  rw [queue, tag]
  exact congrArg (fun rs => ({ v.queue with records := rs } : TrackingQueue)) (changeRecord_twice rfl _)

theorem mem_putRecord {m x : LoafRecord} {v : State} (h : x ∈ (v.putRecord m).queue.records) (tag : x.tag = m.tag) : x = m := by
  obtain ⟨y, -, rfl⟩ := List.mem_map.mp h
  split
  · rfl
  · rw [if_neg ‹_›] at tag
    exact absurd tag ‹_›

/-- What a match makes of a re-based record moves no loaf. -/
theorem covers_putRecord {v b : State} {m d : LoafRecord} (tag : d.tag = m.tag) (queue : b.queue = (v.putRecord m).queue)
    (reference : d.reference = m.reference) (plan : d.plan = m.plan) : Covers b.queue.records (b.putRecord d).queue.records := by
  refine .changeRecord fun x h same => ?_
  rw [queue] at h
  obtain rfl := mem_putRecord h (same.trans tag)
  exact ⟨reference.symm, plan.symm⟩

/-- The charge of a matched record to a zone. -/
def State.matchCharged (v : State) (m : LoafRecord) (z : Zone) (c : Nat) : State := (v.putRecord m).charge z c

theorem matchCharged_frame (v : State) (m : LoafRecord) (z : Zone) (c : Nat) :
    OnlyTouches [.queue, .crumb, .line, .ports] v (v.matchCharged m z c) :=
  ((putRecord_frame v m).within rfl).andThen (charge_frame _ z c) rfl

theorem matchCharged_queue (v : State) (m : LoafRecord) (z : Zone) (c : Nat) : (v.matchCharged m z c).queue = (v.putRecord m).queue :=
  charge_frame _ z c .queue (by decide)

/-- A match that charges a zone and leaves its record in the queue. -/
theorem match_charges {u v x : State} {m d : LoafRecord} {z : Zone} {c : Nat} (crumb : v.crumb = u.crumb) (line : v.line = u.line)
    (tag : d.tag = m.tag) (reference : d.reference = m.reference) (plan : d.plan = m.plan)
    (told : OnlyTouches [.ports] ((v.matchCharged m z c).putRecord d) x) :
    x.judgeBlasts.queue = { v.queue with records := replaced m.tag d v.queue.records }
      ∧ Charged u x.judgeBlasts z c ∧ BlastsJudged u x.judgeBlasts false ∧ OnlyTouches [.queue, .crumb, .line, .ports] v x.judgeBlasts := by
  have queue := matchCharged_queue v m z c
  have put : Clearing (v.matchCharged m z c) ((v.matchCharged m z c).putRecord d) :=
    .of_records (putRecord_frame _ d) (by decide) (covers_putRecord tag queue reference plan)
  have clearing : Clearing (v.matchCharged m z c) x := put.trans (.of_frame told (by decide))
  have holds : x.held (fullReason z) = (v.matchCharged m z c).held (fullReason z) := by
    rw [told.held (by decide), (putRecord_frame _ d).held (by decide)]
  have judged := charged_then_judged (u := u) (v := v.putRecord m) crumb line clearing holds
  refine ⟨?_, judged.1, judged.2, ?_⟩
  · rw [judgeBlasts_frame x .queue (by decide), told .queue (by decide), queue_putRecord_twice tag queue]
  · exact (((matchCharged_frame v m z c).andThen (putRecord_frame _ d) rfl).andThen told rfl).andThen (judgeBlasts_frame x) rfl

end Sys2Proof.Machine
end

section
/-! SUPPORT. The gates' actions as leaves, and the matches at E1 and E2. -/

namespace Sys2Proof.Machine

variable (s : State)

/-! ## A leave, and the gate before it -/

theorem removeRecord_queue (tag : Nat) :
    (s.removeRecord tag).queue = { s.queue with records := dropRecord tag s.queue.records } := by
  unfold State.removeRecord
  dsimp only
  split
  · exact releaseHold_frame _ _ .queue (by decide)
  · rfl

theorem leave_queue (r : LoafRecord) (o : LeaveOutcome) :
    (s.leave r o).queue = { s.queue with records := without r.tag s.queue.records } := by
  rw [leave_eq, judgeBlasts_frame _ .queue (by decide), withdrawTie_frame _ _ .queue (by decide), removeRecord_queue,
    handedOn_frame s r o .queue (by decide)]
  rfl

/-- The notices a leave may set. -/
def leaveNotices : List NoticeKind := [.entryClosed, .recipeFreed, .holdChanged]

theorem counted_tells (r : LoafRecord) (o : LeaveOutcome) : Tells [.entryClosed] s (s.counted r o) := by
  have leaves : Tells [.entryClosed] s (s.countLeave r o) := (countLeave_frame s r o).tells (by decide)
  refine leaves.trans ?_
  show Tells _ _ ((s.countLeave r o).countInEntry r o)
  unfold State.countInEntry
  cases r.entry with
  | none => exact .refl _ _
  | some id =>
    have counts (f : Entry → Entry) : Tells [.entryClosed] (s.countLeave r o) ((s.countLeave r o).updateEntry id f) :=
      (updateEntry_frame _ _ _).tells (by decide)
    exact (counts _).trans (closeEntry_tells _ id)

theorem leave_tells (r : LoafRecord) (o : LeaveOutcome) : Tells leaveNotices s (s.leave r o) :=
  (((counted_tells s r o).within (by decide)).trans ((lowerInFlight_tells _ _).within (by decide))).trans
    ((leave_tells_after_handedOn s r o).within (by decide))

theorem held_left_full (r : LoafRecord) (o : LeaveOutcome) (z : Zone) : (s.left r o).held (fullReason z) = s.held (fullReason z) := by
  have judged : (s.leave r o).held (fullReason z) = (s.left r o).held (fullReason z) := (judgeBlasts_frame (s.left r o)).held (by decide) _
  rw [← judged, held_leave, if_neg]
  rintro ⟨-, full⟩
  cases z <;> cases full

theorem left_clearing (r : LoafRecord) (o : LeaveOutcome) : Clearing s (s.left r o) := by
  refine .of_records (left_frame s r o) (by decide) ?_
  have queue : (s.left r o).queue.records = dropRecord r.tag s.queue.records := by
    rw [← leave_records]
    exact congrArg TrackingQueue.records (judgeBlasts_frame (s.left r o) .queue (by decide)).symm
  rw [queue]
  exact .dropRecord _ _

theorem driveGate_clearing (g : Gate) : Clearing s (s.driveGate g) := by
  refine .of_records (driveGate_frame s g) (by decide) ?_
  rw [driveGate_records]
  exact .refl _

theorem driveGate_of_station {g : Gate} {st : GateStation} (gate : s.gateStation g = some st) :
    s.driveGate g = s.setGate g (.driven (s.now + st.pulse)) := by
  rw [State.driveGate, gate]

theorem rejectFire_queue {g : GateStation} (gate : s.gateStation .reject = some g) (r : LoafRecord) :
    (s.rejectFire r).queue =
      { s.queue with records := without r.tag s.queue.records, rejectGate := .driven (s.now + g.pulse) } := by
  rw [State.rejectFire, leave_queue, driveGate_of_station s gate]; rfl

theorem leave_totals_eq (r : LoafRecord) (o : LeaveOutcome) :
    (s.leave r o).totals = { s.totals with
      openShift := s.totals.openShift.countLeave ((s.slot r.slot).product.map Product.code) r o } := leave_totals s r o

theorem rejectFire_totals (r : LoafRecord) : (s.rejectFire r).totals = { s.totals with
    openShift := s.totals.openShift.countLeave ((s.slot r.slot).product.map Product.code) r .diverted } := by
  rw [State.rejectFire, leave_totals_eq, driveGate_frame s _ .totals (by decide), (driveGate_frame s _).slot (by decide)]

theorem rejectFire_tells (r : LoafRecord) : Tells leaveNotices s (s.rejectFire r) :=
  Tells.trans ((driveGate_frame s .reject).tells (by decide)) (leave_tells _ r .diverted)

theorem ProductEntry.countLeave_congr (e : ProductEntry) {r d : LoafRecord} (o : LeaveOutcome) (plan : d.plan = r.plan)
    (late : d.late = r.late) (blind : d.blind = r.blind) : e.countLeave d o = e.countLeave r o := by
  unfold ProductEntry.countLeave
  rw [plan, late, blind]

/-- The shift counts a leave by the record's plan, LATE and BLIND. -/
theorem ShiftRecord.countLeave_congr (x : ShiftRecord) (code : Option Nat) {r d : LoafRecord} (o : LeaveOutcome) (plan : d.plan = r.plan)
    (late : d.late = r.late) (blind : d.blind = r.blind) : x.countLeave code d o = x.countLeave code r o := by
  unfold ShiftRecord.countLeave
  simp only [ProductEntry.countLeave_congr _ o plan late blind]

/-! ## The matches at E1 and E2 (R75, R76, R77) -/

theorem charge_of_plan (r : LoafRecord) : r.plan.elim 0 Plan.crumb = (r.plan.map Plan.crumb).getD 0 := by
  cases r.plan <;> rfl

/-- A DIVERTING record of an E1 match: its gate position, and LATE where H has reached it. -/
def LoafRecord.diverted (r : LoafRecord) (q h : Pos) : LoafRecord :=
  { r with stage := .diverting, gateFire := some q, late := r.late || reached q h }

section
variable {v u : State} {m : LoafRecord} {p q : Pos} (crumb : v.crumb = u.crumb) (line : v.line = u.line)

theorem matchE1_clean (clean : ¬ m.reasons.any = true) :
    v.matchE1 m p = ((v.matchCharged m .z0 (m.plan.elim 0 Plan.crumb)).putRecord { m with stage := .toBag }).judgeBlasts := if_neg clean

theorem matchE1_diverting (any : m.reasons.any = true)
    (position : (v.matchCharged m .z0 (m.plan.elim 0 Plan.crumb)).rejectPosition p = some q) :
    v.matchE1 m p =
      let t := v.matchCharged m .z0 (m.plan.elim 0 Plan.crumb)
      let w := (t.putRecord (m.diverted q t.pos.h)).judgeWithdrawn m
      if reached q t.pos.h then w.rejectFire (m.diverted q t.pos.h) else w.judgeBlasts := by
  unfold State.matchE1
  refine (if_pos any).trans ?_
  unfold State.matchCharged at position ⊢
  rw [position]
  rfl

theorem rejectPosition_of_stations {s : State} {g : GateStation} {e : EyeStation} (gate : s.gateStation .reject = some g)
    (eye : s.eyeStation .e1 = some e) (p : Pos) :
    s.rejectPosition p = some (firePosition p (g.distance - e.distance) (lead s.pos.v g.latency)) := by
  rw [State.rejectPosition, gate, eye]

theorem OnlyTouches.gateStation {s t : State} {ps : List Part} (h : OnlyTouches ps s t) (apart : Part.chain ∉ ps) (g : Gate) :
    t.gateStation g = s.gateStation g := by rw [State.gateStation, h .chain apart]; rfl

theorem OnlyTouches.eyeStation {s t : State} {ps : List Part} (h : OnlyTouches ps s t) (apart : Part.chain ∉ ps) (e : Eye) :
    t.eyeStation e = s.eyeStation e := by rw [State.eyeStation, h .chain apart]; rfl

include crumb line in
/-- A match at E1 whose gate position is late: the gate acts at once. -/
theorem lateDivert {c : Nat} {d : LoafRecord} {g : GateStation} (tag : d.tag = m.tag) (reference : d.reference = m.reference)
    (plan : d.plan = m.plan) (gate : v.gateStation .reject = some g) :
    let t := (((v.matchCharged m .z0 c).putRecord d).judgeWithdrawn m).rejectFire d
    t.queue = { v.queue with records := without m.tag v.queue.records, rejectGate := .driven (v.now + g.pulse) }
      ∧ t.totals = { v.totals with
          openShift := v.totals.openShift.countLeave ((v.slot d.slot).product.map Product.code) d .diverted }
      ∧ Charged u t .z0 c ∧ BlastsJudged u t false ∧ OnlyTouches queueParts v t := by
  intro t
  let b := v.matchCharged m .z0 c
  have told : OnlyTouches [.ports] (b.putRecord d) ((b.putRecord d).judgeWithdrawn m) := judgeWithdrawn_frame _ m
  have frame : OnlyTouches [.queue, .crumb, .line, .ports] v ((b.putRecord d).judgeWithdrawn m) :=
    ((matchCharged_frame v m .z0 c).andThen (putRecord_frame _ d) rfl).andThen told rfl
  have driven := driveGate_frame ((b.putRecord d).judgeWithdrawn m) .reject
  have queue : ((b.putRecord d).judgeWithdrawn m).queue = { v.queue with records := replaced m.tag d v.queue.records } := by
    rw [told .queue (by decide)]
    exact queue_putRecord_twice tag (matchCharged_queue v m .z0 c)
  have put : Clearing b (b.putRecord d) :=
    .of_records (putRecord_frame _ d) (by decide) (covers_putRecord tag (matchCharged_queue v m .z0 c) reference plan)
  have clearing := ((put.trans (.of_frame told (by decide))).trans (driveGate_clearing _ .reject)).trans (left_clearing _ d .diverted)
  have holds : ((((b.putRecord d).judgeWithdrawn m).driveGate .reject).left d .diverted).held (fullReason .z0) =
      b.held (fullReason .z0) := by
    rw [held_left_full, driven.held (by decide), told.held (by decide), (putRecord_frame _ d).held (by decide)]
  obtain ⟨charged, judged⟩ := charged_then_judged (u := u) (v := v.putRecord m) crumb line clearing holds
  refine ⟨?_, ?_, charged, judged, (frame.within rfl).andThen (rejectFire_frame _ d) rfl⟩
  · rw [rejectFire_queue _ ((frame.gateStation (by decide) _).trans gate), queue, frame .now (by decide), tag]
    exact congrArg (fun rs => ({ v.queue with records := rs, rejectGate := .driven (v.now + g.pulse) } : TrackingQueue))
      (dropRecord_changeRecord (fun _ _ => tag) _)
  · rw [rejectFire_totals, frame .totals (by decide), frame.slot (by decide)]

end

/-- The state a downstream edge finds, against the one the time has come to. -/
theorem edgeReached_from_reach {e : Eye} (downstream : e ≠ .e0) (l : Level) (c : PendingChange) :
    OnlyTouches [.pos] (s.reach c.expiry) (s.edgeReached e l c) := by
  rw [edgeReached_downstream s downstream]
  exact setPos_frame _ _

theorem edgeReached_motion (e : Eye) (l : Level) (c : PendingChange) :
    (s.edgeReached e l c).pos.h = s.pos.h ∧ (s.edgeReached e l c).pos.v = s.pos.v := by
  rw [edgeReached_pos]
  exact ⟨rfl, rfl⟩

/-- Settles O28: the charge, the record re-based with what the match makes of it, and the blasts judged on the charged load. -/
theorem matchesAtE1AndE2 : Obligations.MatchesAtE1AndE2 := by
  intro s e c st before after r pending atH station split oldest low high u m charge
  have moved (downstream : e ≠ .e0) := edgeReached_from_reach s downstream .dark c
  have frame := edgeReached_frame s e .dark c
  have queue : (s.edgeReached e .dark c).queue = s.queue := frame .queue (by decide)
  obtain ⟨motionH, motionV⟩ := edgeReached_motion s e .dark c
  constructor
  · rintro rfl stage
    have moved := moved (by decide)
    have crumb : (s.edgeReached .e1 .dark c).crumb = u.crumb := moved .crumb (by decide)
    have line : (s.edgeReached .e1 .dark c).line = u.line := moved .line (by decide)
    have run := exec_match s rfl pending atH station split stage (by rw [← stage]; exact oldest) low high
    constructor
    · intro clean
      have clean : ¬ r.reasons.any = true := by rw [Reasons.any_iff]; exact not_not.mpr clean
      obtain ⟨records, charged, judged, touched⟩ := match_charges (v := s.edgeReached .e1 .dark c) (u := u) (m := m)
        (d := { m with stage := .toBag }) (z := .z0) (c := charge) crumb line rfl rfl rfl (.refl _ _)
      rw [queue] at records
      refine ⟨_, run.trans (congrArg Host.Outcome.next (matchE1_clean clean)), ?_⟩
      rw [show (r.rebase c.captured st).plan.elim 0 Plan.crumb = charge from charge_of_plan r]
      exact ⟨records, charged, judged, (moved.within rfl).andThen touched rfl⟩
    · intro g any gate q
      have any : r.reasons.any = true := (Reasons.any_iff _).mpr any
      have charging := matchCharged_frame (s.edgeReached .e1 .dark c) m .z0 charge
      have toCharged := (frame.within (ps := [.now, .totals, .pos, .line, .crumb, .queue, .ports]) rfl).andThen charging rfl
      have posThen : ((s.edgeReached .e1 .dark c).matchCharged m .z0 charge).pos = (s.edgeReached .e1 .dark c).pos :=
        charging .pos (by decide)
      have position : ((s.edgeReached .e1 .dark c).matchCharged m .z0 charge).rejectPosition c.captured = some q := by
        rw [rejectPosition_of_stations ((toCharged.gateStation (by decide) _).trans gate)
          ((toCharged.eyeStation (by decide) _).trans station), posThen, motionV]
      have taken := matchE1_diverting (v := s.edgeReached .e1 .dark c) (m := m) (p := c.captured) (q := q) any
        (by rw [show m.plan.elim 0 Plan.crumb = charge from charge_of_plan r]; exact position)
      rw [show m.plan.elim 0 Plan.crumb = charge from charge_of_plan r] at taken
      dsimp only at taken
      rw [posThen, motionH] at taken
      have withdrawn (stands : r.fetched = true) := judgeWithdrawn_noticed (r := m)
        (((s.edgeReached .e1 .dark c).matchCharged m .z0 charge).putRecord (m.diverted q s.pos.h)) stands (.inl stage)
      refine ⟨fun ahead => ?_, fun late => ?_⟩
      · have notReached : ¬ reached q s.pos.h = true := by rw [reached_iff]; omega
        rw [if_neg notReached] at taken
        obtain ⟨records, charged, judged, touched⟩ := match_charges (v := s.edgeReached .e1 .dark c) (u := u) (m := m)
          (d := m.diverted q s.pos.h) (z := .z0) (c := charge) crumb line rfl rfl rfl (judgeWithdrawn_frame _ m)
        have made : m.diverted q s.pos.h = { m with stage := .diverting, gateFire := some q } := by
          rw [LoafRecord.diverted, Bool.eq_false_iff.mpr notReached, Bool.or_false]
        refine ⟨_, run.trans (congrArg Host.Outcome.next taken), ?_, fun fetched => ?_, charged, judged,
          (moved.within rfl).andThen touched rfl⟩
        · rw [records, queue, made]
        · exact Tells.stands (ks := []) ((judgeBlasts_frame _).tells (by decide)) (withdrawn fetched)
      · have isReached : reached q s.pos.h = true := (reached_iff _ _).mpr late
        rw [if_pos isReached] at taken
        obtain ⟨records, totals, charged, judged, touched⟩ := lateDivert (v := s.edgeReached .e1 .dark c) (u := u) (m := m) (c := charge)
          (d := m.diverted q s.pos.h) crumb line rfl rfl rfl ((frame.gateStation (by decide) _).trans gate)
        refine ⟨_, run.trans (congrArg Host.Outcome.next taken), ?_, ?_, fun fetched => ?_, charged, judged,
          (moved.within rfl).andThen touched rfl⟩
        · rw [records, queue, moved .now (by decide)]
        · rw [totals, moved .totals (by decide), frame.slot (by decide)]
          have counted := ShiftRecord.countLeave_congr u.totals.openShift ((s.slot r.slot).product.map Product.code)
            (r := { r with late := true }) (d := m.diverted q s.pos.h) .diverted rfl
            (by show (r.late || reached q s.pos.h) = true; rw [isReached, Bool.or_true]) rfl
          exact congrArg (fun x => { u.totals with openShift := x }) counted
        · exact (rejectFire_tells _ _).stands (withdrawn fetched)
  · rintro rfl stage
    have moved := moved (by decide)
    have crumb : (s.edgeReached .e2 .dark c).crumb = u.crumb := moved .crumb (by decide)
    have line : (s.edgeReached .e2 .dark c).line = u.line := moved .line (by decide)
    have run := exec_match s rfl pending atH station split stage (by rw [← stage]; exact oldest) low high
    let t := ((s.edgeReached .e2 .dark c).matchCharged m .z1 (bagZoneCharge charge)).putRecord
      { m with stage := .bagging, blind := r.blind || !r.fetched }
    let told := if r.fetched then t else t.notify .bagger .bagBlind
    have taken : (s.edgeReached .e2 .dark c).matchE2 m c.captured = told.judgeBlasts := by
      unfold State.matchE2
      rw [show m.plan.elim 0 Plan.crumb = charge from charge_of_plan r]; rfl
    have ports : OnlyTouches [.ports] t told := .ite (.refl _ t) (notify_frame t _ _)
    obtain ⟨records, charged, judged, touched⟩ := match_charges (v := s.edgeReached .e2 .dark c) (u := u) (m := m)
      (d := { m with stage := .bagging, blind := r.blind || !r.fetched }) (z := .z1) (c := bagZoneCharge charge) crumb line rfl rfl rfl
      ports
    rw [queue] at records
    refine ⟨_, run.trans (congrArg Host.Outcome.next taken), records, fun blind => ?_, charged, judged,
      (moved.within rfl).andThen touched rfl⟩
    have noticed : Noticed told .bagger .bagBlind := by
      show Noticed (if r.fetched then t else t.notify .bagger .bagBlind) _ _
      rw [blind]
      exact noticed_notify_self _ rfl
    exact Tells.stands (ks := []) ((judgeBlasts_frame _).tells (by decide)) noticed

end Sys2Proof.Machine
end

section
/-! SUPPORT. The fire of a tie taken, the entering of a pending tie, and the matches at E3 and E4. -/

namespace Sys2Proof.Machine

variable (s : State)

section
variable {s t : State} {ps : List Part}

theorem OnlyTouches.sameQueue (h : OnlyTouches ps s t) (apart : Part.queue ∉ ps) : t.queue = s.queue := h .queue apart

theorem OnlyTouches.sameBag (h : OnlyTouches ps s t) (apart : Part.bag ∉ ps) : t.bag = s.bag := h .bag apart

theorem OnlyTouches.sameTotals (h : OnlyTouches ps s t) (apart : Part.totals ∉ ps) : t.totals = s.totals := h .totals apart

theorem OnlyTouches.sameCrumb (h : OnlyTouches ps s t) (apart : Part.crumb ∉ ps) : t.crumb = s.crumb := h .crumb apart

end

/-! ## A match that charges nothing -/

theorem changeRecord_changeRecord {tag : Nat} {f g : LoafRecord → LoafRecord} (keeps : ∀ x, x.tag = tag → (f x).tag = tag)
    (rs : List LoafRecord) : changeRecord tag g (changeRecord tag f rs) = changeRecord tag (fun x => g (f x)) rs := by
  refine (List.map_map ..).trans (List.map_congr_left fun x _ => ?_)
  by_cases h : x.tag = tag <;> simp [h, keeps]

/-- Blasts judged where no zone has changed yet. -/
theorem judgeBlasts_of_crumb {u x : State} (crumb : x.crumb = u.crumb) :
    SameLoads u x.judgeBlasts ∧ BlastsJudged u x.judgeBlasts false := by
  refine ⟨fun z => ?_, blastsJudged_judgeBlasts fun z => ?_⟩
  · rw [judgeBlasts_load, zone_of_crumb crumb]
  · rw [zone_of_crumb crumb]
    exact zoneState_kept _

theorem SameLoads.of_crumb {u v t : State} (crumb : v.crumb = u.crumb) (h : SameLoads v t) : SameLoads u t := fun z => by
  rw [h, zone_of_crumb crumb]

theorem BlastsJudged.of_crumb {u v t : State} {dropped : Bool} (crumb : v.crumb = u.crumb) (h : BlastsJudged v t dropped) :
    BlastsJudged u t dropped := by
  intro z
  rw [← zone_of_crumb crumb]
  exact h z

/-! ## The fire of a tie taken (R122) -/

theorem takeTieFire_fires {s : State} (ready : s.bag.tyer = .ready) (clips : 0 < s.bag.magazine) (tag : Nat) :
    s.takeTieFire tag = s.fireTyer tag := by
  rw [State.takeTieFire, ready]
  exact if_neg (by omega)

theorem takeTieFire_misses {s : State} {cause : MissCause}
    (why : (s.bag.tyer = .ready ∧ s.bag.magazine = 0 ∧ cause = .clipEmpty) ∨ (s.bag.tyer = .firing ∧ cause = .tyerBusy)
      ∨ (s.bag.tyer = .fault ∧ cause = .tyerFault)) (tag : Nat) : s.takeTieFire tag = s.missTie tag cause := by
  obtain ⟨tyer, clips, rfl⟩ | ⟨tyer, rfl⟩ | ⟨tyer, rfl⟩ := why <;> rw [State.takeTieFire, tyer]
  exact if_pos clips

/-- The bag unit once a tie has been fired at the present time. -/
theorem fireTyer_bag (tag : Nat) :
    (s.fireTyer tag).bag = { s.bag with
      fireLine := .driven (s.now + 10)
      tyer := .firing
      tieInFlight := some ⟨tag, true, s.now + s.bag.tieTimeout⟩
      magazine := s.bag.magazine - 1 } := judgeClips_frame _ _ .bag (by decide)

theorem setMagazine_queue (count threshold : Nat) : (s.setMagazine count threshold).queue = s.queue :=
  setMagazine_frame s count threshold .queue (by decide)

theorem fireTyer_queue (tag : Nat) :
    (s.fireTyer tag).queue = { s.queue with records := changeRecord tag (fun r => { r with tie := .inFlight }) s.queue.records } := by
  show ({ (State.setMagazine _ _ _).queue with records := changeRecord _ _ (State.setMagazine _ _ _).queue.records } : TrackingQueue) = _
  rw [setMagazine_queue]; rfl

theorem fireTyer_totals (tag : Nat) :
    (s.fireTyer tag).totals = { s.totals with
      openShift := { s.totals.openShift with clipsUsed := raise s.totals.openShift.clipsUsed } } := by
  have kept (t : State) (m l : Nat) : (t.setMagazine m l).totals = t.totals := setMagazine_frame t m l .totals (by decide)
  show ({ (State.setMagazine _ _ _).totals with openShift := { (State.setMagazine _ _ _).totals.openShift with
    clipsUsed := raise (State.setMagazine _ _ _).totals.openShift.clipsUsed } } : TotalsUnit) = _
  rw [kept]; rfl

/-! ## The pending ties (R121) -/

theorem tagsBehind_split {tag : Nat} {before after : List LoafRecord} {r : LoafRecord} (at' : r.tag = tag)
    (first : ∀ x ∈ before, x.tag ≠ tag) : tagsBehind tag (before ++ r :: after) = after.map LoafRecord.tag := by
  have all : ∀ x ∈ before, decide (x.tag ≠ tag) = true := fun x hx => decide_eq_true (first x hx)
  unfold tagsBehind
  rw [List.dropWhile_append_of_pos all, List.dropWhile_cons_of_neg (by simp [at'])]
  rfl

/-- A tie stands before the first tie of a record behind its own. -/
theorem insertTie_split (behind : List Nat) (t : PendingTie) (ties : List PendingTie) :
    ∃ ahead later, ties = ahead ++ later ∧ insertTie behind t ties = ahead ++ t :: later
      ∧ (∀ x ∈ ahead, x.tag ∉ behind) ∧ ∀ x, later.head? = some x → x.tag ∈ behind := by
  refine ⟨ties.takeWhile fun x => !behind.contains x.tag, ties.dropWhile fun x => !behind.contains x.tag,
    List.takeWhile_append_dropWhile.symm, rfl, fun x hx => ?_, fun x hx => ?_⟩
  · simpa using List.mem_takeWhile_imp hx
  · have stops := List.head?_dropWhile_not (fun x : PendingTie => !behind.contains x.tag) ties
    rw [hx] at stops
    simpa using stops

theorem replaced_split {tag : Nat} {d r : LoafRecord} {before after : List LoafRecord} (at' : r.tag = tag)
    (others : ∀ x ∈ before ++ after, x.tag ≠ tag) :
    changeRecord tag (fun _ => d) (before ++ r :: after) = before ++ d :: after := by
  have keeps (l : List LoafRecord) (sub : ∀ x ∈ l, x ∈ before ++ after) : changeRecord tag (fun _ => d) l = l :=
    (List.map_congr_left fun x hx => if_neg (others x (sub x hx))).trans (List.map_id _)
  unfold changeRecord at keeps ⊢
  rw [List.map_append, List.map_cons, if_pos at', keeps before fun x => List.mem_append_left _,
    keeps after fun x => List.mem_append_right _]

/-- Around a record of a queue whose tags are distinct stand records of other tags. -/
theorem others_of_split {rs before after : List LoafRecord} {r : LoafRecord} (split : rs = before ++ r :: after)
    (tags : (rs.map LoafRecord.tag).Nodup) : ∀ x ∈ before ++ after, x.tag ≠ r.tag := by
  rw [split, List.map_append, List.map_cons, List.nodup_middle, List.nodup_cons, ← List.map_append] at tags
  intro x hx same
  exact tags.1 (same ▸ List.mem_map_of_mem hx)

/-! ## The matches at E3 (R78, R121) -/

section
variable {v : State} {m : LoafRecord} {p q : Pos}

theorem matchE3_failed (fail : m.result = some .fail) : v.matchE3 m p = (v.putRecord { m with stage := .tying }).judgeBlasts := if_pos fail

/-- A TYING record of an E3 match: its tie fire position, and LATE where H has reached it. -/
def LoafRecord.tying (r : LoafRecord) (q h : Pos) : LoafRecord :=
  { r with stage := .tying, tieFire := some q, late := r.late || reached q h }

theorem matchE3_tying (result : m.result ≠ some .fail) (position : v.tiePosition p (m.plan.elim 0 Plan.lc) = some q) :
    v.matchE3 m p =
      (if reached q v.pos.h then (v.putRecord (m.tying q v.pos.h)).takeTieFire m.tag
       else (v.putRecord (m.tying q v.pos.h)).enterTie m.tag q).judgeBlasts := by
  unfold State.matchE3
  refine (if_neg result).trans ?_
  rw [position]
  rfl

/-- A tie fired at once: the record IN_FLIGHT, and the bag unit as R122 has it. -/
theorem matchE3_fires (result : m.result ≠ some .fail) (position : v.tiePosition p (m.plan.elim 0 Plan.lc) = some q)
    (late : reached q v.pos.h = true) (ready : v.bag.tyer = .ready) (clips : 0 < v.bag.magazine) :
    v.matchE3 m p = ((v.putRecord (m.tying q v.pos.h)).fireTyer m.tag).judgeBlasts := by
  rw [matchE3_tying result position, if_pos late,
    takeTieFire_fires (s := v.putRecord (m.tying q v.pos.h)) ready clips]

theorem matchE3_misses {cause : MissCause} (result : m.result ≠ some .fail)
    (position : v.tiePosition p (m.plan.elim 0 Plan.lc) = some q) (late : reached q v.pos.h = true)
    (why : (v.bag.tyer = .ready ∧ v.bag.magazine = 0 ∧ cause = .clipEmpty) ∨ (v.bag.tyer = .firing ∧ cause = .tyerBusy)
      ∨ (v.bag.tyer = .fault ∧ cause = .tyerFault)) :
    v.matchE3 m p = ((v.putRecord (m.tying q v.pos.h)).missTie m.tag cause).judgeBlasts := by
  rw [matchE3_tying result position, if_pos late, takeTieFire_misses (s := v.putRecord (m.tying q v.pos.h)) why]

theorem matchE3_enters (result : m.result ≠ some .fail) (position : v.tiePosition p (m.plan.elim 0 Plan.lc) = some q)
    (ahead : ¬ reached q v.pos.h = true) :
    v.matchE3 m p = ((v.putRecord { m with stage := .tying, tieFire := some q }).enterTie m.tag q).judgeBlasts := by
  have made : m.tying q v.pos.h = { m with stage := .tying, tieFire := some q } := by
    rw [LoafRecord.tying, Bool.eq_false_iff.mpr ahead, Bool.or_false]
  rw [matchE3_tying result position, if_neg ahead, made]

theorem tying_late (late : reached q v.pos.h = true) :
    m.tying q v.pos.h = { m with stage := .tying, tieFire := some q, late := true } := by
  rw [LoafRecord.tying, late, Bool.or_true]

/-! ## The matches at E4 (R79, R80) -/

theorem matchE4_unfitted (none : v.exitPosition p = none) : v.matchE4 m p = (v.putRecord m).leave m m.exitOutcome := by
  rw [State.matchE4, none]

/-- An EXITING record of an E4 match: its gate position, and LATE where H has reached it. -/
def LoafRecord.exiting (r : LoafRecord) (q h : Pos) : LoafRecord :=
  { r with stage := .exiting, gateFire := some q, late := r.late || reached q h }

theorem matchE4_exiting (position : v.exitPosition p = some q) :
    v.matchE4 m p =
      if reached q v.pos.h then (v.putRecord (m.exiting q v.pos.h)).exitFire (m.exiting q v.pos.h)
      else (v.putRecord (m.exiting q v.pos.h)).judgeBlasts := by
  rw [State.matchE4, position]
  rfl

end

theorem exitPosition_of_none {s : State} (gate : s.gateStation .exit = none) (p : Pos) : s.exitPosition p = none := by
  rw [State.exitPosition, gate]

theorem exitPosition_of_stations {s : State} {g : GateStation} {e : EyeStation} (gate : s.gateStation .exit = some g)
    (eye : s.eyeStation .e4 = some e) (p : Pos) :
    s.exitPosition p = some (firePosition p (g.distance - e.distance) (lead s.pos.v g.latency)) := by
  rw [State.exitPosition, gate, eye]

theorem tiePosition_of_station {s : State} {y : TyerStation} (tyer : s.tyerStation = some y) (p : Pos) (lc : Nat) :
    s.tiePosition p lc = some (firePosition p (y.offset + lc + y.neck) (lead s.pos.v y.latency)) := by
  rw [State.tiePosition, tyer]

/-- The exit gate of a record that leaves at the exit: driven unless it is GOOD (R80). -/
def State.exitGated (s : State) (r : LoafRecord) : State := if r.exitOutcome = .good then s else s.driveGate .exit

theorem exitGated_frame (r : LoafRecord) : OnlyTouches [.queue] s (s.exitGated r) := .ite (.refl _ s) (driveGate_frame s .exit)

theorem exitGated_queue {g : GateStation} (gate : s.gateStation .exit = some g) (r : LoafRecord) :
    (s.exitGated r).queue =
      { s.queue with exitGate := if r.exitOutcome = .good then s.queue.exitGate else .driven (s.now + g.pulse) } := by
  unfold State.exitGated
  by_cases good : r.exitOutcome = .good
  · rw [if_pos good, if_pos good]
  · rw [if_neg good, if_neg good, driveGate_of_station s gate]; rfl

theorem exitFire_eq (r : LoafRecord) : s.exitFire r = (s.exitGated r).leave r r.exitOutcome := rfl

theorem exitFire_queue {g : GateStation} (gate : s.gateStation .exit = some g) (r : LoafRecord) :
    (s.exitFire r).queue =
      { s.queue with
        records := without r.tag s.queue.records
        exitGate := if r.exitOutcome = .good then s.queue.exitGate else .driven (s.now + g.pulse) } := by
  rw [exitFire_eq, leave_queue, exitGated_queue s gate]

theorem exitFire_totals (r : LoafRecord) : (s.exitFire r).totals = { s.totals with
    openShift := s.totals.openShift.countLeave ((s.slot r.slot).product.map Product.code) r r.exitOutcome } := by
  rw [exitFire_eq, leave_totals_eq, exitGated_frame s _ .totals (by decide), (exitGated_frame s _).slot (by decide)]

theorem exitFire_loads (r : LoafRecord) : SameLoads s (s.exitFire r) :=
  (leave_sameLoads _ r r.exitOutcome).of_crumb (exitGated_frame s r .crumb (by decide))

theorem exitFire_blastsJudged (r : LoafRecord) : BlastsJudged s (s.exitFire r) false :=
  (leave_blastsJudged _ r r.exitOutcome).of_crumb (exitGated_frame s r .crumb (by decide))

/-! ## The obligation -/

/-- Where a record matched at E3 or E4 is left in the queue. -/
theorem put_judged_queue {v x : State} {d : LoafRecord} {ps : List Part} (h : OnlyTouches ps (v.putRecord d) x) (apart : Part.queue ∉ ps) :
    x.judgeBlasts.queue = { v.queue with records := replaced d.tag d v.queue.records } := by
  rw [judgeBlasts_frame x .queue (by decide), h .queue apart]; rfl

theorem replaced_then_tie {v : State} {d : LoafRecord} (tie : TieStatus) :
    changeRecord d.tag (fun r => { r with tie := tie }) (v.putRecord d).queue.records =
      replaced d.tag { d with tie := tie } v.queue.records :=
  changeRecord_changeRecord (fun _ _ => rfl) _

theorem fires_judged {u v : State} {d : LoafRecord} (crumb : v.crumb = u.crumb) :
    let t := ((v.putRecord d).fireTyer d.tag).judgeBlasts
    t.queue = { v.queue with records := replaced d.tag { d with tie := .inFlight } v.queue.records }
      ∧ t.bag = { v.bag with
          fireLine := .driven (v.now + 10)
          tyer := .firing
          tieInFlight := some ⟨d.tag, true, v.now + v.bag.tieTimeout⟩
          magazine := v.bag.magazine - 1 }
      ∧ t.totals = { v.totals with openShift := { v.totals.openShift with clipsUsed := raise v.totals.openShift.clipsUsed } }
      ∧ SameLoads u t ∧ BlastsJudged u t false ∧ OnlyTouches [.queue, .bag, .totals, .crumb, .line, .ports] v t := by
  intro t
  have judge := judgeBlasts_frame ((v.putRecord d).fireTyer d.tag)
  have frame : OnlyTouches [.queue, .bag, .totals, .line, .ports] v ((v.putRecord d).fireTyer d.tag) :=
    ((putRecord_frame v d).within rfl).andThen (fireTyer_frame _ _) rfl
  obtain ⟨loads, judged⟩ := judgeBlasts_of_crumb ((frame.sameCrumb (by decide)).trans crumb)
  refine ⟨?_, (judge.sameBag (by decide)).trans (fireTyer_bag _ _), (judge.sameTotals (by decide)).trans (fireTyer_totals _ _),
    loads, judged,
    (frame.within rfl).andThen judge rfl⟩
  have queue : t.queue = ((v.putRecord d).fireTyer d.tag).queue := judge .queue (by decide)
  rw [queue, fireTyer_queue, replaced_then_tie]; rfl

theorem misses_judged {u v : State} {d : LoafRecord} (crumb : v.crumb = u.crumb) (cause : MissCause) :
    let t := ((v.putRecord d).missTie d.tag cause).judgeBlasts
    t.queue = { v.queue with records := replaced d.tag { d with tie := .missed } v.queue.records }
      ∧ t.bag = { v.bag with lastMiss := some (d.tag, cause) }
      ∧ SameLoads u t ∧ BlastsJudged u t false ∧ OnlyTouches [.queue, .bag, .crumb] v t := by
  intro t
  have judge := judgeBlasts_frame ((v.putRecord d).missTie d.tag cause)
  have frame : OnlyTouches [.queue, .bag] v ((v.putRecord d).missTie d.tag cause) :=
    ((putRecord_frame v d).within rfl).andThen (missTie_frame _ _ _) rfl
  obtain ⟨loads, judged⟩ := judgeBlasts_of_crumb ((frame.sameCrumb (by decide)).trans crumb)
  refine ⟨?_, judge .bag (by decide), loads, judged, (frame.within rfl).andThen judge rfl⟩
  have queue : t.queue = ((v.putRecord d).missTie d.tag cause).queue := judge .queue (by decide)
  have missed : ((v.putRecord d).missTie d.tag cause).queue =
      { v.queue with records := changeRecord d.tag (fun r => { r with tie := .missed }) (v.putRecord d).queue.records } := rfl
  rw [queue, missed, replaced_then_tie]

/-- A tie that is not due joins the pending ties before the first tie of a record behind its own. -/
theorem enters_judged {u v : State} {d r : LoafRecord} {before after : List LoafRecord} (crumb : v.crumb = u.crumb) (q : Pos)
    (split : v.queue.records = before ++ r :: after) (tags : (v.queue.records.map LoafRecord.tag).Nodup) (tag : r.tag = d.tag) :
    let t := ((v.putRecord d).enterTie d.tag q).judgeBlasts
    ∃ ahead later, v.bag.pendingTies = ahead ++ later
      ∧ t.bag = { v.bag with pendingTies := ahead ++ ⟨d.tag, q⟩ :: later }
      ∧ (∀ x ∈ ahead, ∀ y ∈ after, x.tag ≠ y.tag) ∧ (∀ x, later.head? = some x → ∃ y ∈ after, y.tag = x.tag)
      ∧ t.queue = { v.queue with records := replaced d.tag d v.queue.records }
      ∧ SameLoads u t ∧ BlastsJudged u t false ∧ OnlyTouches [.queue, .bag, .crumb] v t := by
  intro t
  have judge := judgeBlasts_frame ((v.putRecord d).enterTie d.tag q)
  have frame : OnlyTouches [.queue, .bag] v ((v.putRecord d).enterTie d.tag q) :=
    ((putRecord_frame v d).within rfl).andThen (enterTie_frame _ _ _) rfl
  obtain ⟨loads, judged⟩ := judgeBlasts_of_crumb ((frame.sameCrumb (by decide)).trans crumb)
  have others := others_of_split split tags
  rw [tag] at others
  have put : (v.putRecord d).queue.records = before ++ d :: after := by
    show changeRecord d.tag (fun _ => d) v.queue.records = _
    rw [split, replaced_split tag others]
  have behind : tagsBehind d.tag (v.putRecord d).queue.records = after.map LoafRecord.tag := by
    rw [put, tagsBehind_split rfl fun x hx => others x (List.mem_append_left _ hx)]
  obtain ⟨ahead, later, ties, inserted, notBehind, first⟩ := insertTie_split (after.map LoafRecord.tag) ⟨d.tag, q⟩ v.bag.pendingTies
  refine ⟨ahead, later, ties, ?_, fun x hx y hy same => ?_, fun x hx => List.mem_map.mp (first x hx),
    put_judged_queue (enterTie_frame _ _ _) (by decide), loads, judged, (frame.within rfl).andThen judge rfl⟩
  · have bag : t.bag = { v.bag with
        pendingTies := insertTie (tagsBehind d.tag (v.putRecord d).queue.records) ⟨d.tag, q⟩ v.bag.pendingTies } :=
      judge .bag (by decide)
    rw [bag, behind, inserted]
  · exact notBehind x hx (same ▸ List.mem_map_of_mem hy)

theorem totals_countLeave_congr (x : TotalsUnit) (code : Option Nat) {r d : LoafRecord} (o : LeaveOutcome) (plan : d.plan = r.plan)
    (late : d.late = r.late) (blind : d.blind = r.blind) :
    ({ x with openShift := x.openShift.countLeave code d o } : TotalsUnit) = { x with openShift := x.openShift.countLeave code r o } := by
  rw [ShiftRecord.countLeave_congr _ _ o plan late blind]

theorem lc_of_plan (r : LoafRecord) : r.plan.elim 0 Plan.lc = (r.plan.map Plan.lc).getD 0 := by
  cases r.plan <;> rfl

/-- Settles O29: what R78 and R79 make of the re-based record, its tie or its gate at once where H has reached the position. -/
theorem matchesAtE3AndE4 : Obligations.MatchesAtE3AndE4 := by
  intro s e c st before after r pending atH station split tags oldest low high u m
  have moved (downstream : e ≠ .e0) := edgeReached_from_reach s downstream .dark c
  have frame := edgeReached_frame s e .dark c
  have queue : (s.edgeReached e .dark c).queue = s.queue := frame .queue (by decide)
  have bag : (s.edgeReached e .dark c).bag = s.bag := frame .bag (by decide)
  obtain ⟨motionH, motionV⟩ := edgeReached_motion s e .dark c
  constructor
  · rintro rfl stage
    have moved := moved (by decide)
    let v := s.edgeReached .e3 .dark c
    have crumb : v.crumb = u.crumb := moved .crumb (by decide)
    have now : v.now = u.now := moved .now (by decide)
    have run := exec_match s rfl pending atH station split stage (by rw [← stage]; exact oldest) low high
    constructor
    · intro fail
      obtain ⟨loads, judged⟩ := judgeBlasts_of_crumb (u := u) (x := v.putRecord { m with stage := .tying }) crumb
      refine ⟨_, run.trans (congrArg Host.Outcome.next (matchE3_failed fail)), ?_, loads, judged, ?_⟩
      · exact ((judgeBlasts_frame _).sameQueue (by decide)).trans (congrArg
          (fun x : TrackingQueue => { x with records := replaced r.tag { m with stage := .tying } x.records }) queue)
      · exact ((moved.within rfl).andThen (putRecord_frame _ _) rfl).andThen (judgeBlasts_frame _) rfl
    · intro y result tyer q
      have position : v.tiePosition c.captured (m.plan.elim 0 Plan.lc) = some q := by
        have tyerThen : v.tyerStation = some y := by
          rw [← tyer, State.tyerStation, frame .chain (by decide)]; rfl
        rw [tiePosition_of_station tyerThen, motionV, lc_of_plan]
      constructor
      · intro ahead'
        have notReached : ¬ reached q v.pos.h = true := by rw [motionH, reached_iff]; omega
        obtain ⟨ahead, later, ties, bagThen, aheadOf, first, queueThen, loads, judged, touched⟩ :=
          enters_judged (u := u) (v := v) (r := r) (d := { m with stage := .tying, tieFire := some q }) crumb q (queue ▸ split)
            (queue ▸ tags) rfl
        rw [queue] at queueThen
        rw [bag] at ties bagThen
        exact ⟨_, ahead, later, run.trans (congrArg Host.Outcome.next (matchE3_enters result position notReached)), queueThen, ties,
          bagThen,
          aheadOf, first, loads, judged, (moved.within rfl).andThen touched rfl⟩
      · intro late
        have isReached : reached q v.pos.h = true := by rw [motionH]; exact (reached_iff _ _).mpr late
        constructor
        · intro ready clips
          rw [← bag] at ready clips
          have taken := matchE3_fires (m := m) result position isReached ready clips
          rw [tying_late isReached] at taken
          obtain ⟨queueThen, bagThen, totals, loads, judged, touched⟩ := fires_judged (u := u) (v := v)
            (d := { m with stage := .tying, tieFire := some q, late := true }) crumb
          rw [queue] at queueThen
          rw [bag, now] at bagThen
          refine ⟨_, run.trans (congrArg Host.Outcome.next taken), queueThen, bagThen, ?_, loads, judged,
            (moved.within rfl).andThen touched rfl⟩
          have used : v.totals.openShift.clipsUsed = s.totals.openShift.clipsUsed := by
            rw [moved .totals (by decide)]
            exact reach_keeps s ShiftRecord.clipsUsed (fun _ _ a => by cases a <;> rfl) _
          exact (congrArg (fun x : TotalsUnit => x.openShift.clipsUsed) totals).trans (congrArg raise used)
        · intro cause why
          rw [← bag] at why
          have taken := matchE3_misses (m := m) result position isReached why
          rw [tying_late isReached] at taken
          obtain ⟨queueThen, bagThen, loads, judged, touched⟩ := misses_judged (u := u) (v := v)
            (d := { m with stage := .tying, tieFire := some q, late := true }) crumb cause
          rw [queue] at queueThen
          rw [bag] at bagThen
          exact ⟨_, run.trans (congrArg Host.Outcome.next taken), queueThen, bagThen, loads, judged,
            (moved.within rfl).andThen touched rfl⟩
  · rintro rfl stage
    have moved := moved (by decide)
    let v := s.edgeReached .e4 .dark c
    have crumb : v.crumb = u.crumb := moved .crumb (by decide)
    have put (d : LoafRecord) : (v.putRecord d).crumb = u.crumb := crumb
    have totals : v.totals = u.totals := moved .totals (by decide)
    have slot : v.slot r.slot = s.slot r.slot := frame.slot (by decide) _
    have run := exec_match s rfl pending atH station split stage (by rw [← stage]; exact oldest) low high
    have gates (g : Gate) : v.gateStation g = s.gateStation g := frame.gateStation (by decide) g
    have dropped (d : LoafRecord) (tag : d.tag = r.tag) : without r.tag (v.putRecord d).queue.records = without r.tag s.queue.records := by
      rw [← tag, ← queue]
      exact dropRecord_changeRecord (fun _ _ => rfl) _
    constructor
    · intro gate
      have taken := matchE4_unfitted (v := v) (m := m) (exitPosition_of_none ((gates .exit).trans gate) c.captured)
      have left : OnlyTouches queueParts v ((v.putRecord m).leave m m.exitOutcome) :=
        ((putRecord_frame v m).within rfl).andThen (leave_frame _ _ _) rfl
      refine ⟨_, run.trans (congrArg Host.Outcome.next taken), ?_, ?_, (leave_sameLoads _ _ _).of_crumb (put m),
        (leave_blastsJudged _ _ _).of_crumb (put m), (moved.within rfl).andThen left rfl⟩
      · rw [leave_queue, ← queue]
        exact congrArg (fun rs => ({ v.queue with records := rs } : TrackingQueue)) ((dropped m rfl).trans (by rw [queue]))
      · rw [leave_totals_eq, ← totals, ← slot]
        exact totals_countLeave_congr v.totals _ (r := r) (d := m) r.exitOutcome rfl rfl rfl
    · intro g gate q
      have position : v.exitPosition c.captured = some q := by
        have eye : v.eyeStation .e4 = some st := (frame.eyeStation (by decide) _).trans station
        rw [exitPosition_of_stations ((gates .exit).trans gate) eye, motionV]
      have taken := matchE4_exiting (m := m) position
      constructor
      · intro ahead
        have notReached : ¬ reached q v.pos.h = true := by rw [motionH, reached_iff]; omega
        have made : m.exiting q v.pos.h = { m with stage := .exiting, gateFire := some q } := by
          rw [LoafRecord.exiting, Bool.eq_false_iff.mpr notReached, Bool.or_false]
        rw [if_neg notReached, made] at taken
        obtain ⟨loads, judged⟩ := judgeBlasts_of_crumb (u := u) (x := v.putRecord { m with stage := .exiting, gateFire := some q }) crumb
        refine ⟨_, run.trans (congrArg Host.Outcome.next taken), ?_, loads, judged, ?_⟩
        · exact ((judgeBlasts_frame _).sameQueue (by decide)).trans (congrArg
            (fun x : TrackingQueue =>
              { x with records := replaced r.tag { m with stage := .exiting, gateFire := some q } x.records }) queue)
        · exact ((moved.within rfl).andThen (putRecord_frame _ _) rfl).andThen (judgeBlasts_frame _) rfl
      · intro late
        have isReached : reached q v.pos.h = true := by rw [motionH]; exact (reached_iff _ _).mpr late
        have made : m.exiting q v.pos.h = { m with stage := .exiting, gateFire := some q, late := true } := by
          rw [LoafRecord.exiting, isReached, Bool.or_true]
        rw [if_pos isReached, made] at taken
        let d : LoafRecord := { m with stage := .exiting, gateFire := some q, late := true }
        have fired : OnlyTouches queueParts v ((v.putRecord d).exitFire d) :=
          ((putRecord_frame v d).within rfl).andThen (exitFire_frame _ _) rfl
        have outcome : d.exitOutcome = r.exitOutcome := rfl
        refine ⟨_, run.trans (congrArg Host.Outcome.next taken), ?_, ?_, (exitFire_loads _ _).of_crumb (put d),
          (exitFire_blastsJudged _ _).of_crumb (put d), (moved.within rfl).andThen fired rfl⟩
        · have fireQueue := exitFire_queue (v.putRecord d) ((gates .exit).trans gate) d
          rw [outcome] at fireQueue
          refine fireQueue.trans ?_
          have now : (v.putRecord d).now = u.now := moved .now (by decide)
          rw [now, show without d.tag (v.putRecord d).queue.records = without r.tag s.queue.records from dropped d rfl, ← queue]
          rfl
        · rw [exitFire_totals, outcome, ← totals, ← slot]
          exact totals_countLeave_congr v.totals _ (r := { r with late := true }) (d := d) r.exitOutcome rfl rfl rfl

end Sys2Proof.Machine
end

section
/-! SUPPORT. Occupancy, the blasts of an advance of H, and the requests CRUMB_CONFIG and CRUMB_CLEAR. -/

namespace Sys2Proof.Machine

variable (s : State)

/-! ## Occupancy (R133, R134) -/

theorem occupies_iff (h : Pos) (v : Nat) (b : Bar) (r : LoafRecord) :
    occupies h v b r = true ↔
      (b.distance : Int) - b.halfSpan - roundNat (v * b.blastTime) 256 ≤ (h - r.reference).toInt
        ∧ (match r.plan with | some pl => (h - r.reference).toInt - (pl.lc : Int) | none => 0) ≤ (b.distance : Int) + b.halfSpan := by
  unfold occupies
  rw [Bool.and_eq_true, decide_eq_true_iff, decide_eq_true_iff]
  exact Iff.rfl

theorem occupant_unfitted {z : Zone} (unfitted : (s.zone z).fitted = false) : s.occupant z = none := by
  rw [State.occupant, unfitted]; rfl

theorem occupant_of_bar {z : Zone} {b : Bar} (fitted : (s.zone z).fitted = true) (bar : s.bar z = some b) :
    s.occupant z = s.queue.records.find? (occupies s.pos.h s.pos.v b) := by
  rw [State.occupant, if_pos fitted, bar]

/-! ## The start of blasts through an advance (R135, R136) -/

theorem Judging.leave {r : State} (h : Judging r s) (x : LoafRecord) (o : LeaveOutcome) : Judging r (s.leave x o) :=
  (h.clearing (left_clearing s x o)).judgeBlasts

theorem Judging.lose {r : State} (h : Judging r s) (x : LoafRecord) : Judging r (s.lose x) :=
  (h.leave s x .lost).clearing (.of_frame (lose_after_leave s x) (by decide))

theorem Judging.rejectFire {r : State} (h : Judging r s) (x : LoafRecord) : Judging r (s.rejectFire x) :=
  Judging.leave _ (h.clearing (driveGate_clearing s .reject)) x .diverted

theorem exitGated_clearing (r : LoafRecord) : Clearing s (s.exitGated r) := by
  unfold State.exitGated
  split
  · exact .of_frame (.refl [] s) (by decide)
  · exact driveGate_clearing s .exit

theorem Judging.exitFire {r : State} (h : Judging r s) (x : LoafRecord) : Judging r (s.exitFire x) :=
  Judging.leave _ (h.clearing (exitGated_clearing s x)) x x.exitOutcome

theorem Judging.takeDue {r : State} (h : Judging r s) (tag : Nat) : Judging r (s.takeDue tag) := by
  unfold State.takeDue
  cases s.record? tag with
  | none => exact h
  | some x =>
    dsimp only
    cases s.due x with
    | nothing => exact h
    | loss => exact h.lose s x
    | reject => exact h.rejectFire s x
    | exit => exact h.exitFire s x

theorem Judging.watchRecords {r : State} (h : Judging r s) : Judging r s.watchRecords := by
  have fold (tags : List Nat) : ∀ s, Judging r s → Judging r (tags.foldl State.takeDue s) := by
    induction tags with
    | nil => exact fun _ h => h
    | cons tag tags ih => exact fun s h => ih _ (h.takeDue s tag)
  exact fold _ s h

/-- The fire of a tie writes the tie status of its record, and nothing else of the queue. -/
theorem takeTieFire_queue (tag : Nat) :
    ∃ tie : TieStatus, tie ≠ .tied
      ∧ (s.takeTieFire tag).queue =
        { s.queue with records := changeRecord tag (fun r => { r with tie := tie }) s.queue.records } := by
  unfold State.takeTieFire
  cases s.bag.tyer with
  | ready =>
    dsimp only
    split
    · exact ⟨.missed, by decide, rfl⟩
    · exact ⟨.inFlight, by decide, fireTyer_queue s tag⟩
  | firing | fault => exact ⟨.missed, by decide, rfl⟩

theorem takeTieFire_clearing (tag : Nat) : Clearing s (s.takeTieFire tag) := by
  obtain ⟨tie, -, queue⟩ := takeTieFire_queue s tag
  refine .of_records (takeTieFire_frame s tag) (by decide) ?_
  rw [queue]
  exact .changeRecord fun _ _ _ => ⟨rfl, rfl⟩

/-- A pending tie taken off the list, and its fire. -/
def State.tieTaken (s : State) (x : PendingTie) : State :=
  (s.setBag { s.bag with pendingTies := dropTies x.tag s.bag.pendingTies }).takeTieFire x.tag

theorem tieTaken_clearing (x : PendingTie) : Clearing s (s.tieTaken x) :=
  (Clearing.of_frame (setBag_frame s _) (by decide)).trans (takeTieFire_clearing _ x.tag)

/-- What H makes of a pending tie it reaches. -/
theorem watchTie_reached {x : PendingTie} (here : reached x.position s.pos.h = true) :
    s.watchTie x =
      if s.leavesNow x.tag then
        if Config.leaveBeforeTie s.choices then s.setChoices (s.choices + 1) else (s.setChoices (s.choices + 1)).tieTaken x
      else s.tieTaken x := if_pos here

theorem watchTie_ahead {x : PendingTie} (ahead : ¬ reached x.position s.pos.h = true) : s.watchTie x = s := if_neg ahead

theorem watchTie_clearing (x : PendingTie) : Clearing s (s.watchTie x) := by
  have choice : Clearing s (s.setChoices (s.choices + 1)) := .of_frame (setChoices_frame s _) (by decide)
  by_cases here : reached x.position s.pos.h = true
  · rw [watchTie_reached s here]
    split
    · split
      · exact choice
      · exact choice.trans (tieTaken_clearing _ x)
    · exact tieTaken_clearing s x
  · rw [watchTie_ahead s here]
    exact .of_frame (.refl [] s) (by decide)

theorem watchTies_clearing : Clearing s s.watchTies := by
  have fold (ties : List PendingTie) : ∀ s, Clearing s (ties.foldl State.watchTie s) := by
    induction ties with
    | nil => exact fun s => .of_frame (.refl [] s) (by decide)
    | cons x ties ih => exact fun s => (watchTie_clearing s x).trans (ih _)
  exact fold _ s

/-- The state to which H has advanced, before its watchers are told. -/
def State.forward (s : State) (q : Quad) : State :=
  s.setPos { s.pos with lines := q, p := s.pos.p + 1, h := s.pos.p + 1 }

theorem exec_advance {q : Quad} (step : q = nextQuad s.pos.lines) (x : s.pos.x = 0) :
    exec (.encoderStep q) s = .next (s.forward q).advanced := by
  have forward : s.encoder q = (s.takeLines q).stepForward := if_pos step
  have advances : (s.takeLines q).stepForward = (s.forward q).advanced := if_pos x
  exact congrArg Host.Outcome.next (forward.trans advances)

theorem nextQuad_twice_ne (q : Quad) : q ≠ nextQuad (nextQuad q) := by cases q <;> decide

theorem exec_reverse {q : Quad} (step : nextQuad q = s.pos.lines) : exec (.encoderStep q) s = .next (s.takeLines q).stepReverse := by
  have notForward : q ≠ nextQuad s.pos.lines := by
    rw [← step]
    exact nextQuad_twice_ne q
  have reverse : s.encoder q = (s.takeLines q).stepReverse := (if_neg notForward).trans (if_pos step.symm)
  exact congrArg Host.Outcome.next reverse

theorem advanced_judging : Judging s.activity s.advanced := by
  have ties : Judging s.activity s.activity.watchTies := (Judging.refl _).clearing (watchTies_clearing _)
  have records := ties.watchRecords
  have gap : Judging s.activity s.activity.watchTies.watchRecords.watchGap :=
    records.clearing (.of_frame (watchGap_frame _) (by decide))
  exact gap.judgeBlasts

/-- An advance judges the blasts on where the loaves then are, and changes no load. -/
theorem advanced_blastsJudged :
    BlastsJudged s s.advanced (decide (s.line.state = .idle)) ∧ SameLoads s s.advanced := by
  refine ⟨(advanced_judging s).judged (judgeBlasts_settled _) fun z => ?_, fun z => ?_⟩
  · rw [zone_activity]
  · rw [(advanced_judging s).load, zone_activity]

/-! ## CRUMB_CONFIG (R131, R132, R135) -/

theorem thresholdsOk_iff (soft hard : Nat) : thresholdsOk soft hard = true ↔ 1 ≤ soft ∧ soft < hard ∧ hard ≤ 65535 := by
  unfold thresholdsOk
  rw [Bool.and_eq_true, Bool.and_eq_true, decide_eq_true_iff, decide_eq_true_iff, decide_eq_true_iff]
  omega

theorem zone?_zoneCode (z : Zone) : zone? (zoneCode z) = some z := by cases z <;> rfl

theorem zone?_none {n : Nat} (large : 1 < n) : zone? n = none := by
  unfold zone?
  split
  · omega
  · omega
  · rfl

theorem crumbConfigReply_ok {z : Zone} {soft hard : Nat} (ok : thresholdsOk soft hard = true) :
    crumbConfigReply (zoneCode z) soft hard s =
      { state := s.setThresholds z soft hard, result := .ok, body := (s.setThresholds z soft hard).zoneView z } := by
  rw [crumbConfigReply, zone?_zoneCode, ok]; rfl

theorem crumbConfigReply_refused {zone soft hard : Nat} (out : 1 < zone ∨ ¬ thresholdsOk soft hard = true) :
    ∃ body, crumbConfigReply zone soft hard s = { state := s, result := .outOfRange, body := body } := by
  unfold crumbConfigReply
  cases place : zone? zone with
  | none => exact ⟨_, rfl⟩
  | some z =>
    have wrong : ¬ thresholdsOk soft hard = true := by
      refine out.resolve_left fun large => ?_
      rw [zone?_none large] at place; cases place
    exact ⟨_, if_neg wrong⟩

section
variable (z : Zone) (soft hard : Nat)

/-- Thresholds replaced, and nothing judged yet. -/
def State.withThresholds (s : State) (z : Zone) (soft hard : Nat) : State := s.setZone z { s.zone z with soft := soft, hard := hard }

theorem setThresholds_eq : s.setThresholds z soft hard = ((s.withThresholds z soft hard).judgeFull z).judgeBlast z := rfl

theorem setThresholds_frame : OnlyTouches [.crumb, .line, .ports] s (s.setThresholds z soft hard) :=
  (((setZone_frame s z _).within rfl).andThen (judgeFull_frame _ z) rfl).andThen (judgeBlast_frame _ z) rfl

theorem zone_withThresholds : (s.withThresholds z soft hard).zone z = { s.zone z with soft := soft, hard := hard } :=
  zone_setZone_self s z _

theorem held_withThresholds (r : HoldReason) : (s.withThresholds z soft hard).held r = s.held r := (setZone_frame s z _).held (by decide) r

/-- CRUMB_FULL is judged on the new thresholds. -/
theorem held_setThresholds (r : HoldReason) :
    (s.setThresholds z soft hard).held r = ((s.withThresholds z soft hard).judgeFull z).held r :=
  (judgeBlast_frame _ z).held (by decide) r

theorem occupant_withThresholds : (s.withThresholds z soft hard).occupant z = s.occupant z :=
  occupant_eq_of (by rw [zone_withThresholds]) rfl rfl rfl

/-- The zone is judged as it stands with the new thresholds. -/
theorem zone_setThresholds_self : (s.setThresholds z soft hard).zone z = (s.withThresholds z soft hard).judgedZone z := by
  have frame := judgeFull_frame (s.withThresholds z soft hard) z
  have same : SameForBlasts (s.withThresholds z soft hard) ((s.withThresholds z soft hard).judgeFull z) :=
    ⟨frame .chain (by decide), frame .queue (by decide), frame .pos (by decide), frame .now (by decide)⟩
  rw [setThresholds_eq, zone_judgeBlast_self, same.judgedZone (frame.zone (by decide) z)]

theorem zone_setThresholds_of_ne {w : Zone} (ne : w ≠ z) : (s.setThresholds z soft hard).zone w = s.zone w := by
  rw [setThresholds_eq, zone_judgeBlast_of_ne _ ne, (judgeFull_frame _ z).zone (by decide)]
  exact zone_setZone_of_ne s z w _ ne

end

/-- What the judging of a zone keeps of it. -/
theorem judgedZone_keeps (z : Zone) :
    (s.judgedZone z).soft = (s.zone z).soft ∧ (s.judgedZone z).hard = (s.zone z).hard
      ∧ (s.judgedZone z).manualClear = (s.zone z).manualClear
      ∧ ((s.zone z).blastEnd ≠ none → (s.judgedZone z).blastEnd = (s.zone z).blastEnd) := by
  unfold State.judgedZone
  split
  · split
    · refine ⟨rfl, rfl, rfl, fun blasting => absurd ?_ blasting⟩
      exact ((blastStarts_iff s z).mp ‹_›).2.1
    · exact ⟨rfl, rfl, rfl, fun _ => rfl⟩
  · exact ⟨rfl, rfl, rfl, fun _ => rfl⟩

theorem judgedZone_of_wanted {z : Zone} {b : Bar} (fitted : (s.zone z).fitted = true) (resting : (s.zone z).blastEnd = none)
    (bar : s.bar z = some b) (wanted : (s.zone z).wanted = true) (empty : s.occupant z = none) :
    s.judgedZone z = (s.zone z).startBlast s.now b :=
  judgedZone_of_starts s bar ((blastStarts_iff s z).mpr ⟨fitted, resting, empty, wanted⟩)

theorem judgedZone_of_unwanted {z : Zone} (why : ¬ (s.zone z).wanted = true ∨ s.occupant z ≠ none) : s.judgedZone z = s.zone z := by
  refine judgedZone_of_not_starts s (.inr (Bool.eq_false_iff.mpr fun starts => ?_))
  obtain ⟨-, -, empty, wanted⟩ := (blastStarts_iff s z).mp starts
  exact why.elim (fun no => no wanted) fun taken => taken empty

theorem zoneValues_respond (z : Zone) (p : Port) (kind seq : Byte) (result : ResultCode) (body : List Byte) :
    (s.respond p kind seq result body).zoneValues z = s.zoneValues z := by
  have frame := respond_frame s p kind seq result body
  have occupant : (s.respond p kind seq result body).occupant z = s.occupant z :=
    occupant_eq_of (by rw [frame.zone (by decide)]) (frame .chain (by decide)) (frame .queue (by decide)) (frame .pos (by decide))
  unfold State.zoneValues
  rw [occupant, frame.zone (by decide), frame.bar (by decide), frame.held (by decide), frame .pos (by decide), frame .now (by decide)]

/-! ## CRUMB_CLEAR (R139) -/

/-- A clear pends in a zone, and nothing is judged yet. -/
def State.asked (s : State) (z : Zone) : State := s.setZone z { s.zone z with manualClear := true }

theorem zone_asked (z : Zone) : (s.asked z).zone z = { s.zone z with manualClear := true } := zone_setZone_self s z _

theorem occupant_asked (z : Zone) : (s.asked z).occupant z = s.occupant z := occupant_eq_of (by rw [zone_asked]) rfl rfl rfl

theorem wanted_asked (z : Zone) : ((s.asked z).zone z).wanted = true := by
  rw [zone_asked, wanted_iff]
  exact .inr (.inl rfl)

/-- A clear asked of a zone that has none pending. -/
theorem askClear_new {z : Zone} (none' : (s.zone z).manualClear = false) :
    s.askClear z = (s.asked z).judgeBlast z := by
  rw [State.askClear, if_neg (by rw [none']; decide), State.asked]

theorem askClear_again {z : Zone} (again : (s.zone z).manualClear = true) : s.askClear z = s := if_pos again

theorem askClear_frame (z : Zone) : OnlyTouches [.crumb] s (s.askClear z) :=
  .ite (.refl _ s) ((setZone_frame s z _).trans (judgeBlast_frame _ z))

theorem zone_askClear_new {z : Zone} (none' : (s.zone z).manualClear = false) :
    (s.askClear z).zone z = (s.asked z).judgedZone z := by
  rw [askClear_new s none', zone_judgeBlast_self]

theorem zone_askClear_of_ne {z w : Zone} (ne : w ≠ z) : (s.askClear z).zone w = s.zone w := by
  unfold State.askClear
  split
  · rfl
  · rw [zone_judgeBlast_of_ne _ ne, zone_setZone_of_ne s z w _ ne]

/-- A clear pends, and the load and the thresholds stay. -/
theorem askClear_keeps (z : Zone) :
    ((s.askClear z).zone z).manualClear = true ∧ ((s.askClear z).zone z).load = (s.zone z).load
      ∧ ((s.askClear z).zone z).soft = (s.zone z).soft ∧ ((s.askClear z).zone z).hard = (s.zone z).hard := by
  cases pending : (s.zone z).manualClear with
  | true => rw [askClear_again s pending]; exact ⟨pending, rfl, rfl, rfl⟩
  | false =>
    obtain ⟨soft, hard, manual, -⟩ := judgedZone_keeps (s.asked z) z
    rw [zone_askClear_new s pending, judgedZone_load, soft, hard, manual, zone_asked]
    exact ⟨rfl, rfl, rfl, rfl⟩

theorem crumbClearReply_ok {z : Zone} (fitted : (s.zone z).fitted = true) :
    crumbClearReply (zoneCode z) s = { state := s.askClear z, result := .ok, body := (s.askClear z).zoneValues z } := by
  rw [crumbClearReply, zone?_zoneCode, ← zoneView_eq_values]
  exact if_pos fitted

theorem crumbClearReply_unfitted {z : Zone} (unfitted : (s.zone z).fitted = false) :
    crumbClearReply (zoneCode z) s = { state := s, result := .notFound, body := s.zoneView z } := by
  rw [crumbClearReply, zone?_zoneCode]
  exact if_neg (by rw [unfitted]; decide)

theorem permitted_baggerOffice {k : RequestKind} {p : Port} (senders : k.senders = .baggerOffice) (h : p ≠ .slicer) :
    k.permitted p = true := by
  rw [RequestKind.permitted, senders]
  cases p with
  | slicer => exact absurd rfl h
  | bagger | office => rfl

/-! ## The obligation -/

theorem occupancy_follows (z : Zone) {b : Bar} (fitted : (s.zone z).fitted = true) (bar : s.bar z = some b) :
    (s.occupant z = none ↔ ∀ r ∈ s.queue.records, ¬ occupies s.pos.h s.pos.v b r = true)
      ∧ ∀ before r after, s.queue.records = before ++ r :: after → occupies s.pos.h s.pos.v b r = true →
        (∀ x ∈ before, ¬ occupies s.pos.h s.pos.v b x = true) → s.occupant z = some r := by
  rw [occupant_of_bar s fitted bar]
  refine ⟨List.find?_eq_none, fun before r after split here others => ?_⟩
  rw [split, List.find?_append, List.find?_eq_none.mpr others, List.find?_cons_of_pos here]
  rfl

/-- Settles O44: occupancy is a find over the records; an advance judges the zones as they clear; the requests judge the one zone they
change. -/
theorem occupancyBlastsAndCrumbRequests : Obligations.OccupancyBlastsAndCrumbRequests := by
  refine ⟨fun s z => ⟨occupant_unfitted s, fun b fitted bar => ?_⟩, fun s q step x => ?_, fun s q step x => ?_,
    fun s seq z soft hard low order high => ?_, fun s seq zone soft hard out => ?_, fun s p seq other => ⟨fun z => ⟨?_, ?_, ?_⟩, ?_⟩⟩
  · have follows := occupancy_follows s z fitted bar
    simp only [occupies_iff] at follows
    exact follows
  · obtain ⟨judged, loads⟩ := advanced_blastsJudged (s.forward q)
    exact ⟨_, exec_advance s step x, judged, loads⟩
  · have lines : OnlyTouches [.pos] s (s.takeLines q) := setPos_frame s _
    exact ⟨_, exec_reverse s step, lines.trans (.ite (setPos_frame _ _) (setPos_frame _ _))⟩
  · have reply := crumbConfigReply_ok s (z := z) ((thresholdsOk_iff soft hard).mpr ⟨low, order, high⟩)
    rw [zoneView_eq_values] at reply
    let u := s.withThresholds z soft hard
    have zone : u.zone z = { s.zone z with soft := soft, hard := hard } := zone_withThresholds s z soft hard
    obtain ⟨softKept, hardKept, manual, blasting⟩ := judgedZone_keeps u z
    refine ⟨_, next_answer s seq rfl reply, ?_⟩
    have frame := respond_frame (s.setThresholds z soft hard) .office (BitVec.ofNat 8 RequestKind.crumbConfig.code) seq .ok
      ((s.setThresholds z soft hard).zoneValues z)
    have after (r : HoldReason) := (frame.held (by decide) r).trans (held_setThresholds s z soft hard r)
    have judged := (frame.zone (by decide) z).trans (zone_setThresholds_self s z soft hard)
    rw [judged, zoneValues_respond]
    have occupant : u.occupant z = s.occupant z := occupant_withThresholds s z soft hard
    refine ⟨?_, ?_, ?_, ?_, ?_, fun w ne => ?_, fun full => ?_, fun below => ?_, fun between notFull => ?_, fun r ne => ?_,
      fun blasts => ?_,
      fun b fitted resting bar => ?_, respond_answers _ .office .crumbConfig seq .ok _,
      (setThresholds_frame s z soft hard).andThen frame rfl⟩
    · rw [softKept, zone]
    · rw [hardKept, zone]
    · rw [judgedZone_load, zone]
    · rw [judgedZone_fitted, zone]
    · rw [manual, zone]
    · exact (frame.zone (by decide) w).trans (zone_setThresholds_of_ne s z soft hard ne)
    · exact (after _).trans (held_judgeFull_full u (by rw [zone]; exact full))
    · exact (after _).trans (held_judgeFull_below u (by rw [zone]; exact Nat.lt_trans below order) (by rw [zone]; exact below))
    · exact ((after _).trans (held_judgeFull_between u (by rw [zone]; exact notFull) (by rw [zone]; exact between))).trans
        (held_withThresholds s z soft hard _)
    · exact ((after r).trans (held_judgeFull_of_ne u ne)).trans (held_withThresholds s z soft hard r)
    · rw [blasting (by rw [zone]; exact blasts), zone]
    · intro wanted
      have wantedThen : (u.zone z).wanted = true ↔ wanted := by rw [zone, wanted_iff]
      refine ⟨fun wants empty => ?_, fun why => ?_⟩
      · rw [judgedZone_of_wanted u (by rw [zone]; exact fitted) (by rw [zone]; exact resting) bar (wantedThen.mpr wants)
          (occupant.trans empty)]
        exact ⟨rfl, rfl, rfl⟩
      · rw [judgedZone_of_unwanted u (why.imp (fun no yes => no (wantedThen.mp yes)) fun taken => by rw [occupant]; exact taken), zone]
        exact ⟨resting, rfl⟩
  · have refused : 1 < zone ∨ ¬ thresholdsOk soft hard = true := by
      rw [thresholdsOk_iff]; omega
    obtain ⟨body, reply⟩ := crumbConfigReply_refused s refused
    exact ⟨body, next_answer s seq rfl reply⟩
  · intro fitted again
    have reply := crumbClearReply_ok s fitted
    rw [askClear_again s again] at reply
    exact next_answer s seq (permitted_baggerOffice rfl other) reply
  · intro fitted
    refine ⟨_, next_answer s seq (permitted_baggerOffice rfl other) (crumbClearReply_ok s fitted), ?_⟩
    have frame := respond_frame (s.askClear z) p (BitVec.ofNat 8 RequestKind.crumbClear.code) seq .ok ((s.askClear z).zoneValues z)
    obtain ⟨manual, load, soft, hard⟩ := askClear_keeps s z
    rw [frame.zone (by decide) z, zoneValues_respond]
    refine ⟨manual, fun w ne => (frame.zone (by decide) w).trans (zone_askClear_of_ne s ne), load, soft, hard,
      fun new resting empty b bar => ?_, fun why => ?_, respond_answers _ p .crumbClear seq .ok _,
      ((askClear_frame s z).within rfl).andThen frame rfl⟩
    · rw [zone_askClear_new s new, judgedZone_of_wanted (s.asked z) (by rw [zone_asked]; exact fitted)
        (by rw [zone_asked]; exact resting) bar (wanted_asked s z) ((occupant_asked s z).trans empty)]
      exact ⟨rfl, rfl⟩
    · cases new : (s.zone z).manualClear with
      | true => rw [askClear_again s new]
      | false =>
        obtain ⟨-, -, -, blasting⟩ := judgedZone_keeps (s.asked z) z
        rw [zone_askClear_new s new]
        obtain blasts | taken := why
        · rw [blasting (by rw [zone_asked]; exact blasts), zone_asked]
        · rw [judgedZone_of_unwanted (s.asked z) (.inr (by rw [occupant_asked]; exact taken)), zone_asked]
  · intro unfitted
    exact ⟨_, next_answer s seq (permitted_baggerOffice rfl other) (crumbClearReply_unfitted s unfitted)⟩
  · intro zone large
    refine ⟨[], next_answer s seq (permitted_baggerOffice rfl other) ?_⟩
    rw [crumbClearReply, zone?_none large]

end Sys2Proof.Machine
end

section
/-! SUPPORT. What is due at an advance of H, and the ties it reaches. -/

namespace Sys2Proof.Machine

variable (s : State)

/-! ## What is due (R72, R76, R80) -/

/-- The outcome with which what is due takes a record. -/
def Due.outcome (r : LoafRecord) : Due → Option LeaveOutcome
  | .nothing => none
  | .loss => some .lost
  | .reject => some .diverted
  | .exit => some r.exitOutcome

theorem deadline_eq (r : LoafRecord) :
    s.deadline r = (r.stage.awaited.bind s.eyeStation).map fun e => r.reference + BitVec.ofNat 32 (e.distance + e.tolerance) := by
  unfold State.deadline
  cases r.stage.awaited with
  | none => rfl
  | some e =>
    rw [Option.bind_some]
    dsimp only
    cases s.eyeStation e <;> rfl

/-- What is due of a record that awaits an eye: a loss once its deadline is behind H. -/
def lossDue (h : Pos) (deadline : Option Pos) : Due := if deadline.any (ahead h) then .loss else .nothing

theorem due_of_awaiting {r : LoafRecord} (diverting : r.stage ≠ .diverting) (exiting : r.stage ≠ .exiting) :
    s.due r = lossDue s.pos.h (s.deadline r) := by
  unfold State.due lossDue
  cases stage : r.stage with
  | diverting => exact absurd stage diverting
  | exiting => exact absurd stage exiting
  | measuring | toSlicer | toBag | bagging | tying => cases s.deadline r <;> rfl

theorem outcomeAt_of_awaiting {r : LoafRecord} (h : Pos) (diverting : r.stage ≠ .diverting) (exiting : r.stage ≠ .exiting) :
    s.outcomeAt h r = (r.stage.awaited.bind s.eyeStation).bind fun e =>
      if 0 < (h - (r.reference + BitVec.ofNat 32 (e.distance + e.tolerance))).toInt then some .lost else none := by
  unfold State.outcomeAt
  cases stage : r.stage with
  | diverting => exact absurd stage diverting
  | exiting => exact absurd stage exiting
  | measuring | toSlicer | toBag | bagging | tying =>
    generalize Option.bind _ s.eyeStation = station
    cases station <;> rfl

/-- The outcome at H as it stands is that of what is due. -/
theorem outcomeAt_eq (r : LoafRecord) : s.outcomeAt s.pos.h r = (s.due r).outcome r := by
  by_cases diverting : r.stage = .diverting
  · unfold State.outcomeAt State.due
    rw [diverting]
    cases r.gateFire with
    | none => rfl
    | some q =>
      dsimp only
      simp only [← reached_iff]
      split <;> rfl
  · by_cases exiting : r.stage = .exiting
    · unfold State.outcomeAt State.due
      rw [exiting]
      cases r.gateFire with
      | none => rfl
      | some q =>
        dsimp only
        simp only [← reached_iff]
        split <;> rfl
    · rw [outcomeAt_of_awaiting s _ diverting exiting, due_of_awaiting s diverting exiting, deadline_eq]
      cases r.stage.awaited.bind s.eyeStation with
      | none => rfl
      | some e =>
        simp only [Option.bind_some, Option.map_some, lossDue, Option.any_some, ← ahead_iff]
        split <;> rfl

theorem due_eq_nothing_iff (r : LoafRecord) : s.due r = .nothing ↔ s.outcomeAt s.pos.h r = none := by
  rw [outcomeAt_eq]
  cases s.due r <;> simp [Due.outcome]

/-- What is due is read from the chain and H. -/
theorem OnlyTouches.due {s t : State} {ps : List Part} (h : OnlyTouches ps s t) (chain : Part.chain ∉ ps) (pos : Part.pos ∉ ps)
    (r : LoafRecord) : t.due r = s.due r := by
  have deadline : t.deadline r = s.deadline r := by
    unfold State.deadline
    simp only [h.eyeStation chain]
  unfold State.due
  rw [deadline, h .pos pos]

theorem OnlyTouches.outcomeAt {s t : State} {ps : List Part} (h : OnlyTouches ps s t) (chain : Part.chain ∉ ps) (p : Pos)
    (r : LoafRecord) : t.outcomeAt p r = s.outcomeAt p r := by
  have station : t.eyeStation = s.eyeStation := funext fun e => h.eyeStation chain e
  unfold State.outcomeAt
  rw [station]

/-- The tie status has no part in what is due. -/
theorem due_tie (r : LoafRecord) (tie : TieStatus) : s.due { r with tie := tie } = s.due r := rfl

/-! ## An advance that makes no record leave -/

/-- No record leaves at the present H. -/
def NoneDue (s : State) : Prop := ∀ r ∈ s.queue.records, s.due r = .nothing

theorem leavesNow_of_noneDue {s : State} (h : NoneDue s) (tag : Nat) : s.leavesNow tag = false := by
  unfold State.leavesNow
  cases found : s.record? tag with
  | none => rfl
  | some r => exact decide_eq_false fun ne => ne (h r (record?_mem s found))

theorem takeDue_of_noneDue {s : State} (h : NoneDue s) (tag : Nat) : s.takeDue tag = s := by
  unfold State.takeDue
  cases found : s.record? tag with
  | none => rfl
  | some r => dsimp only; rw [h r (record?_mem s found)]

theorem watchRecords_of_noneDue {s : State} (h : NoneDue s) : s.watchRecords = s := by
  have fold (tags : List Nat) : tags.foldl State.takeDue s = s := by
    induction tags with
    | nil => rfl
    | cons tag tags ih => rw [List.foldl_cons, takeDue_of_noneDue h, ih]
  exact fold _

theorem tieTaken_frame (x : PendingTie) : OnlyTouches [.bag, .queue, .totals, .line, .ports] s (s.tieTaken x) :=
  ((setBag_frame s _).within rfl).andThen (takeTieFire_frame _ x.tag) rfl

theorem tieTaken_queue (x : PendingTie) :
    ∃ tie : TieStatus, tie ≠ .tied
      ∧ (s.tieTaken x).queue =
        { s.queue with records := changeRecord x.tag (fun r => { r with tie := tie }) s.queue.records } :=
  takeTieFire_queue (s.setBag { s.bag with pendingTies := dropTies x.tag s.bag.pendingTies }) x.tag

theorem NoneDue.tieTaken {s : State} (h : NoneDue s) (x : PendingTie) : NoneDue (s.tieTaken x) := by
  obtain ⟨tie, -, queue⟩ := tieTaken_queue s x
  intro y hy
  rw [queue] at hy
  obtain ⟨r, hr, rfl⟩ := List.mem_map.mp hy
  rw [(tieTaken_frame s x).due (by decide) (by decide)]
  split
  · exact (due_tie s r tie).trans (h r hr)
  · exact h r hr

/-- Where no record leaves, the fire of a tie that H reaches is taken. -/
theorem watchTie_of_noneDue {s : State} (h : NoneDue s) {x : PendingTie} (here : reached x.position s.pos.h = true) :
    s.watchTie x = s.tieTaken x := by
  rw [watchTie_reached s here, if_neg (by rw [leavesNow_of_noneDue h]; decide)]

theorem NoneDue.watchTie {s : State} (h : NoneDue s) (x : PendingTie) : NoneDue (s.watchTie x) := by
  by_cases here : reached x.position s.pos.h = true
  · rw [watchTie_of_noneDue h here]
    exact h.tieTaken x
  · rwa [watchTie_ahead s here]

theorem NoneDue.foldl_watchTie {s : State} (h : NoneDue s) (ties : List PendingTie) : NoneDue (ties.foldl State.watchTie s) := by
  induction ties generalizing s with
  | nil => exact h
  | cons x ties ih => exact ih (h.watchTie x)

/-- Ties that H has not reached stand. -/
theorem foldl_watchTie_ahead {ties : List PendingTie} (aheads : ∀ x ∈ ties, ¬ reached x.position s.pos.h = true) :
    ties.foldl State.watchTie s = s := by
  induction ties with
  | nil => rfl
  | cons x ties ih =>
    rw [List.foldl_cons, watchTie_ahead s (aheads x (List.mem_cons_self ..))]
    exact ih fun y hy => aheads y (List.mem_cons_of_mem x hy)

theorem takeTieFire_pendingTies (tag : Nat) : (s.takeTieFire tag).bag.pendingTies = s.bag.pendingTies := by
  unfold State.takeTieFire
  cases s.bag.tyer with
  | ready =>
    dsimp only
    split
    · rfl
    · rw [fireTyer_bag]
  | firing | fault => rfl

theorem watchTie_h (x : PendingTie) : (s.watchTie x).pos.h = s.pos.h := by
  rw [watchTie_frame s x .pos (by decide)]

/-- The pending ties after those of a list that H reaches have been taken. -/
theorem foldl_watchTie_pendingTies {s : State} (h : NoneDue s) (ties : List PendingTie) :
    (ties.foldl State.watchTie s).bag.pendingTies =
      s.bag.pendingTies.filter fun y => decide (∀ x ∈ ties, reached x.position s.pos.h = true → x.tag ≠ y.tag) := by
  induction ties generalizing s with
  | nil => simp
  | cons x ties ih =>
    rw [List.foldl_cons, ih (h.watchTie x), watchTie_h]
    by_cases here : reached x.position s.pos.h = true
    · have taken : (s.watchTie x).bag.pendingTies = dropTies x.tag s.bag.pendingTies := by
        rw [watchTie_of_noneDue h here]
        exact takeTieFire_pendingTies _ x.tag
      rw [taken, dropTies, List.filter_filter]
      refine List.filter_congr fun y _ => ?_
      have first : (∀ z ∈ x :: ties, reached z.position s.pos.h = true → z.tag ≠ y.tag) ↔
          y.tag ≠ x.tag ∧ ∀ z ∈ ties, reached z.position s.pos.h = true → z.tag ≠ y.tag := by
        rw [List.forall_mem_cons]
        exact and_congr_left fun _ => ⟨fun h => (h here).symm, fun h _ => h.symm⟩
      rw [← Bool.decide_and]
      exact decide_eq_decide.mpr (by rw [first, and_comm])
    · rw [watchTie_ahead s here]
      refine List.filter_congr fun y _ => ?_
      simp [here]

theorem watchTies_pendingTies {s : State} (h : NoneDue s) (tags : (s.bag.pendingTies.map PendingTie.tag).Nodup) :
    s.watchTies.bag.pendingTies = s.bag.pendingTies.filter fun x => decide (0 < (x.position - s.pos.h).toInt) := by
  refine (foldl_watchTie_pendingTies h _).trans (List.filter_congr fun y hy => decide_eq_decide.mpr ⟨fun stays => ?_,
    fun ahead x hx here same => ?_⟩)
  · have notReached : ¬ reached y.position s.pos.h = true := fun here => stays y hy here rfl
    rw [reached_iff] at notReached
    omega
  · obtain rfl := List.inj_on_of_nodup_map tags hx hy same
    rw [reached_iff] at here
    omega

/-- Of the pending ties H reaches one: its fire is taken. -/
theorem watchTies_one {s : State} (h : NoneDue s) {before after : List PendingTie} {x : PendingTie}
    (split : s.bag.pendingTies = before ++ x :: after) (here : reached x.position s.pos.h = true)
    (others : ∀ y ∈ before ++ after, ¬ reached y.position s.pos.h = true) : s.watchTies = s.tieTaken x := by
  have pos : (s.tieTaken x).pos = s.pos := tieTaken_frame s x .pos (by decide)
  rw [State.watchTies, split, List.foldl_append, foldl_watchTie_ahead s fun y hy => others y (List.mem_append_left _ hy),
    List.foldl_cons, watchTie_of_noneDue h here]
  exact foldl_watchTie_ahead _ fun y hy => by rw [pos]; exact others y (List.mem_append_right _ hy)

/-- The watchers of the records, of the gap and of the zones, where no record leaves. -/
theorem advanced_of_noneDue {s : State} (h : NoneDue s.activity) :
    OnlyTouches [.schedule, .line, .ports, .crumb] s.activity.watchTies s.advanced := by
  unfold State.advanced
  have none : NoneDue s.activity.watchTies := h.foldl_watchTie _
  rw [watchRecords_of_noneDue none]
  exact ((watchGap_frame _).within rfl).andThen (judgeBlasts_frame _) rfl

/-! ## The obligation -/

theorem held_fireTyer (tag : Nat) (r : HoldReason) :
    (s.fireTyer tag).held r = if .clipEmpty = r then decide (s.bag.magazine - 1 = 0) else s.held r :=
  held_setMagazine _ (s.bag.magazine - 1) s.bag.lowThreshold r

/-- The fire of a tie taken off the list, by the tyer state and the magazine count. -/
theorem tieTaken_follows {x : PendingTie} {before after : List PendingTie} (split : s.bag.pendingTies = before ++ x :: after)
    (tags : (s.bag.pendingTies.map PendingTie.tag).Nodup) :
    (s.bag.tyer = .ready → 0 < s.bag.magazine →
        (s.tieTaken x).bag = { s.bag with
            pendingTies := before ++ after
            fireLine := .driven (s.now + 10)
            tyer := .firing
            tieInFlight := some ⟨x.tag, true, s.now + s.bag.tieTimeout⟩
            magazine := s.bag.magazine - 1 }
          ∧ (s.tieTaken x).totals.openShift.clipsUsed = min (s.totals.openShift.clipsUsed + 1) 4294967295
          ∧ (s.tieTaken x).queue = { s.queue with
              records := s.queue.records.map fun r => if r.tag = x.tag then { r with tie := .inFlight } else r })
      ∧ ∀ cause,
        (s.bag.tyer = .ready ∧ s.bag.magazine = 0 ∧ cause = .clipEmpty) ∨ (s.bag.tyer = .firing ∧ cause = .tyerBusy)
          ∨ (s.bag.tyer = .fault ∧ cause = .tyerFault) →
        (s.tieTaken x).bag = { s.bag with pendingTies := before ++ after, lastMiss := some (x.tag, cause) }
          ∧ (s.tieTaken x).queue = { s.queue with
              records := s.queue.records.map fun r => if r.tag = x.tag then { r with tie := .missed } else r } := by
  have others : ∀ y ∈ before ++ after, y.tag ≠ x.tag := by
    rw [split, List.map_append, List.map_cons, List.nodup_middle, List.nodup_cons, ← List.map_append] at tags
    intro y hy same
    exact tags.1 (same ▸ List.mem_map_of_mem hy)
  have keeps (l : List PendingTie) (sub : ∀ y ∈ l, y ∈ before ++ after) : dropTies x.tag l = l :=
    List.filter_eq_self.mpr fun y hy => decide_eq_true (others y (sub y hy))
  have dropped : dropTies x.tag s.bag.pendingTies = before ++ after := by
    rw [split, dropTies, List.filter_append, List.filter_cons_of_neg (by simp)]
    exact congrArg₂ (· ++ ·) (keeps before fun y => List.mem_append_left _) (keeps after fun y => List.mem_append_right _)
  have taken : s.tieTaken x = (s.setBag { s.bag with pendingTies := before ++ after }).takeTieFire x.tag := by
    rw [State.tieTaken, dropped]
  refine ⟨fun ready clips => ?_, fun cause why => ?_⟩
  · rw [taken, takeTieFire_fires (s := s.setBag { s.bag with pendingTies := before ++ after }) ready clips]
    exact ⟨fireTyer_bag _ _, congrArg (fun t : TotalsUnit => t.openShift.clipsUsed) (fireTyer_totals _ _), fireTyer_queue _ _⟩
  · rw [taken, takeTieFire_misses (s := s.setBag { s.bag with pendingTies := before ++ after }) why]
    exact ⟨rfl, rfl⟩

theorem not_reached_iff (a b : Pos) : ¬ reached a b = true ↔ 0 < (a - b).toInt := by
  rw [reached_iff]; omega

/-- Settles O42: R122's cases of a fire; at an advance that makes no record leave, the ties H reaches are taken off in turn. -/
theorem tieFiresFollowR122 : Obligations.TieFiresFollowR122 := by
  refine ⟨fun s tag => ⟨fun ready clips => ?_, fun cause why => ?_⟩, fun s q step x tags stay => ?_⟩
  · rw [takeTieFire_fires ready clips]
    refine ⟨fireTyer_bag s tag, congrArg (fun t : TotalsUnit => t.openShift.clipsUsed) (fireTyer_totals s tag), ?_, fireTyer_queue s tag⟩
    rw [held_fireTyer, if_pos rfl, decide_eq_true_iff]
    omega
  · rw [takeTieFire_misses why]; rfl
  · let u := (s.forward q).activity
    have active : OnlyTouches [.line, .crumb] (s.forward q) u := activity_frame _
    have pos : u.pos = (s.forward q).pos := active .pos (by decide)
    have h : u.pos.h = s.pos.p + 1 := congrArg PositionUnit.h pos
    have queue : u.queue = s.queue := active .queue (by decide)
    have bag : u.bag = s.bag := active .bag (by decide)
    have now : u.now = s.now := active .now (by decide)
    have totals : u.totals = s.totals := active .totals (by decide)
    have toNow : OnlyTouches [.pos, .line, .crumb] s u := ((setPos_frame s _).within rfl).andThen active rfl
    have none : NoneDue u := fun r hr => by
      rw [due_eq_nothing_iff, h, toNow.outcomeAt (by decide)]
      exact stay r (queue ▸ hr)
    have rest := advanced_of_noneDue (s := s.forward q) none
    have bagThen := rest.sameBag (by decide)
    have queueThen := rest.sameQueue (by decide)
    have totalsThen := rest.sameTotals (by decide)
    refine ⟨_, exec_advance s step x, ?_, fun aheads => ?_, fun before x after split here others => ?_⟩
    · have pending := watchTies_pendingTies none (by rw [bag]; exact tags)
      rw [bagThen, pending, bag, h]
    · have same : u.watchTies = u := foldl_watchTie_ahead u fun y hy => by
        rw [h, not_reached_iff]
        exact aheads y (bag ▸ hy)
      rw [bagThen, queueThen, same]
      exact ⟨bag, queue⟩
    · have one : u.watchTies = u.tieTaken x := watchTies_one none (by rw [bag]; exact split)
        (by rw [h, reached_iff]; exact here) fun y hy => by rw [h, not_reached_iff]; exact others y hy
      have follows := tieTaken_follows u (x := x) (by rw [bag]; exact split) (by rw [bag]; exact tags)
      rw [← one, ← bagThen, ← queueThen, ← totalsThen, bag, queue, now, totals] at follows
      exact follows

end Sys2Proof.Machine
end

section
/-! SUPPORT. The watchers of an advance of H: the ties, the records that leave, and the gap. -/

namespace Sys2Proof.Machine

variable (s : State)

/-! ## What the ties make of the records -/

/-- A record whose tie status may have been written at an advance, for one of the tags listed. -/
def Retied (tags : List Nat) (x y : LoafRecord) : Prop := y = x ∨ x.tag ∈ tags ∧ ∃ tie : TieStatus, tie ≠ .tied ∧ y = { x with tie := tie }

section
variable {tags : List Nat} {x y : LoafRecord}

theorem Retied.tag (h : Retied tags x y) : y.tag = x.tag := by
  obtain rfl | ⟨-, tie, -, rfl⟩ := h <;> rfl

theorem Retied.stage (h : Retied tags x y) : y.stage = x.stage := by
  obtain rfl | ⟨-, tie, -, rfl⟩ := h <;> rfl

theorem Retied.due (h : Retied tags x y) : s.due y = s.due x := by
  obtain rfl | ⟨-, tie, -, rfl⟩ := h <;> rfl

theorem Retied.eq_with_tie (h : Retied tags x y) : y = { x with tie := y.tie } := by
  obtain rfl | ⟨-, tie, -, rfl⟩ := h <;> rfl

theorem Retied.eq_of_not_mem (h : Retied tags x y) (none : x.tag ∉ tags) : y = x := by
  obtain rfl | ⟨mem, -⟩ := h
  · rfl
  · exact absurd mem none

/-- A record written cannot have become GOOD. -/
theorem Retied.not_good (h : Retied tags x y) (bad : x.exitOutcome ≠ .good) : y.exitOutcome ≠ .good := by
  obtain rfl | ⟨-, tie, ne, rfl⟩ := h
  · exact bad
  · unfold LoafRecord.exitOutcome
    dsimp only
    split
    · decide
    · decide

theorem Retied.trans {others : List Nat} {z : LoafRecord} (h : Retied tags x y) (k : Retied others y z) : Retied (tags ++ others) x z := by
  have tag := h.tag
  obtain rfl | ⟨mem, tie, ne, rfl⟩ := k
  · obtain rfl | ⟨mem, rest⟩ := h
    · exact .inl rfl
    · exact .inr ⟨List.mem_append_left _ mem, rest⟩
  · refine .inr ⟨List.mem_append_right _ (tag ▸ mem), tie, ne, ?_⟩
    rw [h.eq_with_tie]

end

/-- What the watch of a tie makes of the queue. -/
theorem watchTie_queue (x : PendingTie) :
    ∃ f : LoafRecord → LoafRecord, (∀ r, Retied [x.tag] r (f r))
      ∧ (s.watchTie x).queue = { s.queue with records := s.queue.records.map f } := by
  have unchanged (t : State) (same : t.queue = s.queue) : ∃ f : LoafRecord → LoafRecord, (∀ r, Retied [x.tag] r (f r))
      ∧ t.queue = { s.queue with records := s.queue.records.map f } :=
    ⟨id, fun r => .inl rfl, by rw [same, List.map_id]⟩
  have taken (t : State) (same : t.queue = s.queue) : ∃ f : LoafRecord → LoafRecord, (∀ r, Retied [x.tag] r (f r))
      ∧ (t.tieTaken x).queue = { s.queue with records := s.queue.records.map f } := by
    obtain ⟨tie, ne, queue⟩ := tieTaken_queue t x
    rw [same] at queue
    refine ⟨_, fun r => ?_, queue⟩
    dsimp only
    split
    · exact .inr ⟨List.mem_singleton.mpr ‹_›, tie, ne, rfl⟩
    · exact .inl rfl
  by_cases here : reached x.position s.pos.h = true
  · rw [watchTie_reached s here]
    split
    · split
      · exact unchanged _ rfl
      · exact taken _ rfl
    · exact taken _ rfl
  · rw [watchTie_ahead s here]
    exact unchanged _ rfl

theorem foldl_watchTie_queue (ties : List PendingTie) :
    ∃ f : LoafRecord → LoafRecord, (∀ r, Retied (ties.map PendingTie.tag) r (f r))
      ∧ (ties.foldl State.watchTie s).queue = { s.queue with records := s.queue.records.map f } := by
  induction ties generalizing s with
  | nil => exact ⟨id, fun r => .inl rfl, by rw [List.map_id]; rfl⟩
  | cons x ties ih =>
    obtain ⟨f, first, queue⟩ := watchTie_queue s x
    obtain ⟨g, later, queue'⟩ := ih (s.watchTie x)
    refine ⟨g ∘ f, fun r => (first r).trans (later (f r)), ?_⟩
    rw [List.foldl_cons, queue', queue, List.map_map]

/-- The parts that the ties reach. -/
def tieParts : List Part := [.choices, .bag, .queue, .totals, .line, .ports]

theorem watchTie_tieParts (x : PendingTie) : OnlyTouches tieParts s (s.watchTie x) := by
  have choice : OnlyTouches tieParts s (s.setChoices (s.choices + 1)) := (setChoices_frame s _).within rfl
  by_cases here : reached x.position s.pos.h = true
  · rw [watchTie_reached s here]
    split
    · split
      · exact choice
      · exact choice.andThen (tieTaken_frame _ x) rfl
    · exact (tieTaken_frame s x).within rfl
  · rw [watchTie_ahead s here]
    exact .refl _ s

theorem watchTies_tieParts : OnlyTouches tieParts s s.watchTies := .foldl _ watchTie_tieParts _ s

/-- A tie fired or missed reaches no hold but CLIP_EMPTY. -/
theorem held_takeTieFire (tag : Nat) {r : HoldReason} (ne : r ≠ .clipEmpty) : (s.takeTieFire tag).held r = s.held r := by
  unfold State.takeTieFire
  cases s.bag.tyer with
  | ready =>
    dsimp only
    split
    · rfl
    · rw [held_fireTyer, if_neg (Ne.symm ne)]
  | firing | fault => rfl

theorem held_watchTie (x : PendingTie) {r : HoldReason} (ne : r ≠ .clipEmpty) : (s.watchTie x).held r = s.held r := by
  have taken (t : State) : (t.tieTaken x).held r = t.held r := held_takeTieFire _ x.tag ne
  by_cases here : reached x.position s.pos.h = true
  · rw [watchTie_reached s here]
    split
    · split
      · rfl
      · exact taken _
    · exact taken s
  · rw [watchTie_ahead s here]

theorem held_watchTies {r : HoldReason} (ne : r ≠ .clipEmpty) : s.watchTies.held r = s.held r := by
  have fold (ties : List PendingTie) : ∀ s : State, (ties.foldl State.watchTie s).held r = s.held r := by
    induction ties with
    | nil => exact fun _ => rfl
    | cons x ties ih => exact fun s => (ih _).trans (held_watchTie s x ne)
  exact fold _ s

/-! ## A record that leaves -/

/-- What is due for a record, taken. -/
def State.dueTaken (s : State) (r : LoafRecord) : State :=
  match s.due r with
  | .nothing => s
  | .loss => s.lose r
  | .reject => s.rejectFire r
  | .exit => s.exitFire r

theorem takeDue_of_found {tag : Nat} {r : LoafRecord} (found : s.record? tag = some r) : s.takeDue tag = s.dueTaken r := by
  unfold State.takeDue State.dueTaken
  cases due : s.due r <;> simp only [found, due]

section
variable {r : LoafRecord}

theorem dueTaken_nothing (due : s.due r = .nothing) : s.dueTaken r = s := by rw [State.dueTaken, due]

theorem dueTaken_loss (due : s.due r = .loss) : s.dueTaken r = s.lose r := by rw [State.dueTaken, due]

theorem dueTaken_reject (due : s.due r = .reject) : s.dueTaken r = s.rejectFire r := by rw [State.dueTaken, due]

theorem dueTaken_exit (due : s.due r = .exit) : s.dueTaken r = s.exitFire r := by rw [State.dueTaken, due]

variable (r)

theorem dueTaken_frame : OnlyTouches queueParts s (s.dueTaken r) := by
  cases due : s.due r with
  | nothing => rw [dueTaken_nothing s due]; exact .refl _ s
  | loss => rw [dueTaken_loss s due]; exact lose_frame s r
  | reject => rw [dueTaken_reject s due]; exact rejectFire_frame s r
  | exit => rw [dueTaken_exit s due]; exact exitFire_frame s r

theorem lose_queue : (s.lose r).queue = { s.queue with records := without r.tag s.queue.records } := by
  rw [(lose_after_leave s r).sameQueue (by decide), leave_queue]

theorem exitGated_records : (s.exitGated r).queue.records = s.queue.records := by
  unfold State.exitGated
  split
  · rfl
  · exact driveGate_records s .exit

/-- A record for which something is due leaves. -/
theorem dueTaken_records :
    (s.dueTaken r).queue.records = if s.due r = .nothing then s.queue.records else without r.tag s.queue.records := by
  cases due : s.due r with
  | nothing => rw [dueTaken_nothing s due]; rfl
  | loss => rw [dueTaken_loss s due, lose_queue]; rfl
  | reject =>
    rw [dueTaken_reject s due, State.rejectFire, leave_queue]
    exact congrArg (without r.tag) (driveGate_records s .reject)
  | exit =>
    rw [dueTaken_exit s due, exitFire_eq, leave_queue]
    exact congrArg (without r.tag) (exitGated_records s r)

theorem leave_rejectGate (o : LeaveOutcome) : (s.leave r o).queue.rejectGate = s.queue.rejectGate := by rw [leave_queue]

theorem leave_exitGate (o : LeaveOutcome) : (s.leave r o).queue.exitGate = s.queue.exitGate := by rw [leave_queue]

theorem driveGate_other {g g' : Gate} (ne : g' ≠ g) : (s.driveGate g).queue.gate g' = s.queue.gate g' := by
  unfold State.driveGate
  split
  · exact gate_setGate_of_ne s ne _
  · rfl

theorem exitGated_rejectGate : (s.exitGated r).queue.rejectGate = s.queue.rejectGate := by
  unfold State.exitGated
  split
  · rfl
  · exact driveGate_other s (g := .exit) (g' := .reject) (by decide)

/-- The reject gate acts for a DIVERTING record only. -/
theorem dueTaken_rejectGate (other : s.due r ≠ .reject) : (s.dueTaken r).queue.rejectGate = s.queue.rejectGate := by
  cases due : s.due r with
  | nothing => rw [dueTaken_nothing s due]
  | loss => rw [dueTaken_loss s due, lose_queue]
  | reject => exact absurd due other
  | exit => rw [dueTaken_exit s due, exitFire_eq, leave_rejectGate, exitGated_rejectGate]

/-- The exit gate acts for an EXITING record that is not GOOD only. -/
theorem dueTaken_exitGate (other : s.due r = .exit → r.exitOutcome = .good) :
    (s.dueTaken r).queue.exitGate = s.queue.exitGate := by
  cases due : s.due r with
  | nothing => rw [dueTaken_nothing s due]
  | loss => rw [dueTaken_loss s due, lose_queue]
  | reject =>
    rw [dueTaken_reject s due, State.rejectFire, leave_exitGate]
    exact driveGate_other s (g := .reject) (g' := .exit) (by decide)
  | exit => rw [dueTaken_exit s due, exitFire_eq, leave_exitGate, State.exitGated, if_pos (other due)]

/-- What an advance that makes a record leave hands on of it. -/
theorem dueTaken_totals {o : LeaveOutcome} (outcome : (s.due r).outcome r = some o) :
    (s.dueTaken r).totals = { s.totals with
      openShift := s.totals.openShift.countLeave ((s.slot r.slot).product.map Product.code) r o } := by
  cases due : s.due r with
  | nothing => rw [due] at outcome; cases outcome
  | loss =>
    rw [due] at outcome
    cases outcome
    rw [dueTaken_loss s due, (lose_after_leave s r).sameTotals (by decide), leave_totals_eq]
  | reject =>
    rw [due] at outcome
    cases outcome
    rw [dueTaken_reject s due, rejectFire_totals]
  | exit =>
    rw [due] at outcome
    cases outcome
    rw [dueTaken_exit s due, exitFire_totals]

theorem held_leave_records (t : State) (o : LeaveOutcome) (x : HoldReason) :
    (t.leave r o).held x = if (without r.tag t.queue.records).length = 40 ∧ x = .queueFull then false else t.held x := by
  rw [held_leave, leave_queue]

/-- A record that leaves may release QUEUE_FULL, and reaches no other hold. -/
theorem held_dueTaken (x : HoldReason) :
    (s.dueTaken r).held x =
      if s.due r ≠ .nothing ∧ (without r.tag s.queue.records).length = 40 ∧ x = .queueFull then false else s.held x := by
  cases due : s.due r with
  | nothing => rw [dueTaken_nothing s due, if_neg fun h => h.1 rfl]
  | loss =>
    rw [dueTaken_loss s due, (lose_after_leave s r).held (by decide), held_leave_records]
    simp
  | reject =>
    rw [dueTaken_reject s due, State.rejectFire, held_leave_records, driveGate_records, (driveGate_frame s _).held (by decide)]
    simp
  | exit =>
    rw [dueTaken_exit s due, exitFire_eq, held_leave_records, exitGated_records, (exitGated_frame s r).held (by decide)]
    simp

end

/-! ### The gap release position -/

theorem closeEntry_gapRelease (id : Nat) : (s.closeEntry id).schedule.gapRelease = s.schedule.gapRelease := by
  unfold State.closeEntry
  cases s.entry? id with
  | none => rfl
  | some e =>
    dsimp only
    split <;> rfl

theorem leave_gapRelease (r : LoafRecord) (o : LeaveOutcome) : (s.leave r o).schedule.gapRelease = s.schedule.gapRelease := by
  rw [leave_schedule]
  unfold State.countInEntry
  cases r.entry with
  | none => rfl
  | some id =>
    exact closeEntry_gapRelease
      ((s.countLeave r o).updateEntry id fun e => { e.countLeave r o with carried := e.carried - 1 }) id

theorem dueTaken_gapRelease (r : LoafRecord) : (s.dueTaken r).schedule.gapRelease = s.schedule.gapRelease := by
  cases due : s.due r with
  | nothing => rw [dueTaken_nothing s due]
  | loss => rw [dueTaken_loss s due, lose_after_leave s r .schedule (by decide), leave_gapRelease]
  | reject =>
    rw [dueTaken_reject s due, State.rejectFire, leave_gapRelease, driveGate_frame s _ .schedule (by decide)]
  | exit => rw [dueTaken_exit s due, exitFire_eq, leave_gapRelease, exitGated_frame s r .schedule (by decide)]

end Sys2Proof.Machine
end

section
/-! SUPPORT. The watch of the records in queue order, and what an advance of H makes of them. -/

namespace Sys2Proof.Machine

variable (s : State)

/-! ## The records taken in queue order -/

theorem without_split {tag : Nat} {before after : List LoafRecord} {r : LoafRecord} (at' : r.tag = tag)
    (others : ∀ x ∈ before ++ after, x.tag ≠ tag) : without tag (before ++ r :: after) = before ++ after := by
  have keeps (l : List LoafRecord) (sub : ∀ x ∈ l, x ∈ before ++ after) : l.filter (fun x => decide (x.tag ≠ tag)) = l :=
    List.filter_eq_self.mpr fun x hx => decide_eq_true (others x (sub x hx))
  rw [without, List.filter_append, List.filter_cons_of_neg (by simp [at'])]
  exact congrArg₂ (· ++ ·) (keeps before fun x => List.mem_append_left _) (keeps after fun x => List.mem_append_right _)

theorem dueTaken_due (r x : LoafRecord) : (s.dueTaken r).due x = s.due x := (dueTaken_frame s r).due (by decide) (by decide) x

/-- The watch of the records visits each once, and those for which nothing is due stay in order. -/
theorem foldl_takeDue (rs : List LoafRecord) : ∀ (v : State) (done : List LoafRecord), v.queue.records = done ++ rs →
    ((done ++ rs).map LoafRecord.tag).Nodup →
    (rs.map LoafRecord.tag).foldl State.takeDue v = rs.foldl State.dueTaken v
      ∧ (rs.foldl State.dueTaken v).queue.records = done ++ rs.filter fun r => decide (v.due r = .nothing) := by
  induction rs with
  | nil => exact fun v done split _ => ⟨rfl, split⟩
  | cons r rs ih =>
    intro v done split tags
    have found : v.record? r.tag = some r := record?_of_mem (by rw [split]; exact tags) (by rw [split]; simp)
    have records := dueTaken_records v r
    rw [List.map_cons, List.foldl_cons, List.foldl_cons, takeDue_of_found v found]
    by_cases due : v.due r = .nothing
    · rw [if_pos due, split, List.append_cons] at records
      obtain ⟨visits, kept⟩ := ih (v.dueTaken r) (done ++ [r]) (by rw [records]) (by rwa [List.append_cons] at tags)
      refine ⟨visits, kept.trans ?_⟩
      simp [dueTaken_due, due]
    · rw [if_neg due, split, without_split rfl (others_of_split rfl tags)] at records
      have fewer : ((done ++ rs).map LoafRecord.tag).Nodup :=
        tags.sublist (((List.sublist_cons_self r rs).append_left done).map LoafRecord.tag)
      obtain ⟨visits, kept⟩ := ih (v.dueTaken r) done records fewer
      refine ⟨visits, kept.trans ?_⟩
      rw [List.filter_cons_of_neg (by simpa using due)]
      simp only [dueTaken_due]

theorem watchRecords_eq (tags : (s.queue.records.map LoafRecord.tag).Nodup) :
    s.watchRecords = s.queue.records.foldl State.dueTaken s
      ∧ s.watchRecords.queue.records = s.queue.records.filter fun r => decide (s.due r = .nothing) := by
  obtain ⟨visits, kept⟩ := foldl_takeDue s.queue.records s [] rfl tags
  exact ⟨visits, (congrArg (fun t : State => t.queue.records) visits).trans kept⟩

theorem foldl_dueTaken_frame (rs : List LoafRecord) : OnlyTouches queueParts s (rs.foldl State.dueTaken s) :=
  .foldl _ dueTaken_frame rs s

/-- Records for which nothing is due stay as they are. -/
theorem foldl_dueTaken_nothing {rs : List LoafRecord} (none : ∀ r ∈ rs, s.due r = .nothing) : rs.foldl State.dueTaken s = s := by
  induction rs with
  | nil => rfl
  | cons r rs ih =>
    rw [List.foldl_cons, dueTaken_nothing s (none r (List.mem_cons_self ..))]
    exact ih fun x hx => none x (List.mem_cons_of_mem r hx)

/-- One record alone is due. -/
theorem foldl_dueTaken_one {before after : List LoafRecord} {r : LoafRecord} (none : ∀ x ∈ before ++ after, s.due x = .nothing) :
    (before ++ r :: after).foldl State.dueTaken s = s.dueTaken r := by
  rw [List.foldl_append, foldl_dueTaken_nothing s fun x hx => none x (List.mem_append_left _ hx), List.foldl_cons]
  exact foldl_dueTaken_nothing _ fun x hx => (dueTaken_due s r x).trans (none x (List.mem_append_right _ hx))

/-- What no record that is due reaches, the watch keeps. -/
theorem foldl_dueTaken_keeps {α : Type} (f : State → α) {rs : List LoafRecord} {spared : Due → LoafRecord → Prop}
    (keeps : ∀ v r, spared (v.due r) r → f (v.dueTaken r) = f v) (all : ∀ r ∈ rs, spared (s.due r) r) :
    f (rs.foldl State.dueTaken s) = f s := by
  induction rs generalizing s with
  | nil => rfl
  | cons r rs ih =>
    rw [List.foldl_cons, ih _ fun x hx => by rw [dueTaken_due]; exact all x (List.mem_cons_of_mem r hx)]
    exact keeps s r (all r (List.mem_cons_self ..))

theorem foldl_dueTaken_gapRelease (rs : List LoafRecord) :
    (rs.foldl State.dueTaken s).schedule.gapRelease = s.schedule.gapRelease :=
  foldl_dueTaken_keeps s (fun v => v.schedule.gapRelease) (spared := fun _ _ => True) (fun v r _ => dueTaken_gapRelease v r)
    fun _ _ => trivial

theorem held_foldl_dueTaken (rs : List LoafRecord) {x : HoldReason} (ne : x ≠ .queueFull) :
    (rs.foldl State.dueTaken s).held x = s.held x :=
  foldl_dueTaken_keeps s (fun v => v.held x) (spared := fun _ _ => True)
    (fun v r _ => by rw [held_dueTaken, if_neg fun h => ne h.2.2]) fun _ _ => trivial

/-! ## The gates -/

/-- A gate stands driven for the pulse of its descriptor from the present time. -/
def GateDriven (s : State) (g : Gate) (st : GateStation) : Prop := s.gateStation g = some st ∧ s.queue.gate g = .driven (s.now + st.pulse)

theorem dueTaken_gateStation (r : LoafRecord) (g : Gate) : (s.dueTaken r).gateStation g = s.gateStation g :=
  (dueTaken_frame s r).gateStation (by decide) g

theorem dueTaken_now (r : LoafRecord) : (s.dueTaken r).now = s.now := dueTaken_frame s r .now (by decide)

theorem GateDriven.of_kept {s : State} {g : Gate} {st : GateStation} (h : GateDriven s g st) {r : LoafRecord}
    (kept : (s.dueTaken r).queue.gate g = s.queue.gate g) : GateDriven (s.dueTaken r) g st :=
  ⟨(dueTaken_gateStation s r g).trans h.1, by rw [kept, dueTaken_now]; exact h.2⟩

/-- A DIVERTING record that H has reached drives the reject gate. -/
theorem dueTaken_drivesReject {st : GateStation} (gate : s.gateStation .reject = some st) {r : LoafRecord} (due : s.due r = .reject) :
    GateDriven (s.dueTaken r) .reject st := by
  refine ⟨(dueTaken_gateStation s r _).trans gate, ?_⟩
  rw [dueTaken_now, dueTaken_reject s due]
  exact congrArg TrackingQueue.rejectGate (rejectFire_queue s gate r)

/-- An EXITING record that H has reached drives the exit gate unless it is GOOD. -/
theorem dueTaken_drivesExit {st : GateStation} (gate : s.gateStation .exit = some st) {r : LoafRecord} (due : s.due r = .exit)
    (bad : r.exitOutcome ≠ .good) : GateDriven (s.dueTaken r) .exit st := by
  refine ⟨(dueTaken_gateStation s r _).trans gate, ?_⟩
  rw [dueTaken_now, dueTaken_exit s due]
  have queue := exitFire_queue s gate r
  rw [if_neg bad] at queue
  exact congrArg TrackingQueue.exitGate queue

/-- A gate driven once in a watch stands driven at its end, where each record either drives it or leaves it. -/
theorem foldl_gateDriven {g : Gate} {st : GateStation} {drives : Due → LoafRecord → Prop}
    (drive : ∀ (v : State) r, v.gateStation g = some st → drives (v.due r) r → GateDriven (v.dueTaken r) g st)
    (keep : ∀ (v : State) r, ¬ drives (v.due r) r → (v.dueTaken r).queue.gate g = v.queue.gate g)
    {rs : List LoafRecord} {r : LoafRecord} (mem : r ∈ rs) (due : drives (s.due r) r) (gate : s.gateStation g = some st) :
    GateDriven (rs.foldl State.dueTaken s) g st := by
  have stays (rs : List LoafRecord) : ∀ v, GateDriven v g st → GateDriven (rs.foldl State.dueTaken v) g st := by
    induction rs with
    | nil => exact fun _ h => h
    | cons x rs ih =>
      intro v h
      by_cases again : drives (v.due x) x
      · exact ih _ (drive v x h.1 again)
      · exact ih _ (h.of_kept (keep v x again))
  induction rs generalizing s with
  | nil => cases mem
  | cons x rs ih =>
    obtain rfl | mem := List.mem_cons.mp mem
    · exact stays rs _ (drive s r gate due)
    · exact ih (s.dueTaken x) mem (by rw [dueTaken_due]; exact due) ((dueTaken_gateStation s x g).trans gate)

theorem foldl_rejectGate_driven {st : GateStation} (gate : s.gateStation .reject = some st) {rs : List LoafRecord} {r : LoafRecord}
    (mem : r ∈ rs) (due : s.due r = .reject) : (rs.foldl State.dueTaken s).queue.rejectGate = .driven (s.now + st.pulse) := by
  have driven := foldl_gateDriven s (g := .reject) (drives := fun d _ => d = .reject) (fun v r gate due => dueTaken_drivesReject v gate due)
    (fun v r other => dueTaken_rejectGate v r other) mem due gate
  rw [← foldl_dueTaken_frame s rs .now (by decide)]
  exact driven.2

theorem foldl_exitGate_driven {st : GateStation} (gate : s.gateStation .exit = some st) {rs : List LoafRecord} {r : LoafRecord}
    (mem : r ∈ rs) (due : s.due r = .exit) (bad : r.exitOutcome ≠ .good) :
    (rs.foldl State.dueTaken s).queue.exitGate = .driven (s.now + st.pulse) := by
  have driven := foldl_gateDriven s (g := .exit) (drives := fun d r => d = .exit ∧ r.exitOutcome ≠ .good)
    (fun v r gate due => dueTaken_drivesExit v gate due.1 due.2)
    (fun v r other => dueTaken_exitGate v r fun due => by_contra fun bad => other ⟨due, bad⟩) mem ⟨due, bad⟩ gate
  rw [← foldl_dueTaken_frame s rs .now (by decide)]
  exact driven.2

/-- What can be due of a record, by its stage. -/
theorem due_by_stage (r : LoafRecord) :
    (r.stage = .diverting ∧ (s.due r = .reject ∨ s.due r = .nothing)) ∨ (r.stage = .exiting ∧ (s.due r = .exit ∨ s.due r = .nothing))
      ∨ ((r.stage ≠ .diverting ∧ r.stage ≠ .exiting) ∧ (s.due r = .loss ∨ s.due r = .nothing)) := by
  by_cases diverting : r.stage = .diverting
  · refine .inl ⟨diverting, ?_⟩
    unfold State.due
    rw [diverting]
    cases r.gateFire with
    | none => exact .inr rfl
    | some q => exact (ite_eq_or_eq _ _ _)
  · by_cases exiting : r.stage = .exiting
    · refine .inr (.inl ⟨exiting, ?_⟩)
      unfold State.due
      rw [exiting]
      cases r.gateFire with
      | none => exact .inr rfl
      | some q => exact (ite_eq_or_eq _ _ _)
    · refine .inr (.inr ⟨⟨diverting, exiting⟩, ?_⟩)
      rw [due_of_awaiting s diverting exiting]
      exact ite_eq_or_eq _ _ _

theorem due_eq_reject_iff (r : LoafRecord) : s.due r = .reject ↔ r.stage = .diverting ∧ s.due r ≠ .nothing := by
  obtain ⟨stage, due | due⟩ | ⟨stage, due | due⟩ | ⟨⟨stage, -⟩, due | due⟩ := due_by_stage s r <;> simp [stage, due]

theorem due_eq_exit_iff (r : LoafRecord) : s.due r = .exit ↔ r.stage = .exiting ∧ s.due r ≠ .nothing := by
  obtain ⟨stage, due | due⟩ | ⟨stage, due | due⟩ | ⟨⟨-, stage⟩, due | due⟩ := due_by_stage s r <;> simp [stage, due]

/-! ## The watch of the ties and the records -/

/-- The ties and the records watched, before the gap and the zones. -/
def State.watched (s : State) : State := s.watchTies.watchRecords

section
variable {s : State}

theorem watched_frame (s : State) : OnlyTouches (.choices :: queueParts) s s.watched :=
  ((watchTies_frame s).trans ((watchRecords_frame _).within rfl))

theorem watchTies_due (s : State) (r : LoafRecord) : s.watchTies.due r = s.due r := (watchTies_tieParts s).due (by decide) (by decide) r

theorem watchTies_records (s : State) :
    ∃ f : LoafRecord → LoafRecord, (∀ r, Retied (s.bag.pendingTies.map PendingTie.tag) r (f r))
      ∧ s.watchTies.queue = { s.queue with records := s.queue.records.map f } :=
  foldl_watchTie_queue s s.bag.pendingTies

theorem watchTies_tags (s : State) : s.watchTies.queue.records.map LoafRecord.tag = s.queue.records.map LoafRecord.tag := by
  obtain ⟨f, retied, queue⟩ := watchTies_records s
  rw [queue]
  exact (List.map_map ..).trans (List.map_congr_left fun r _ => (retied r).tag)

/-- The records after the watch: those for which nothing is due, in order. -/
theorem watched_eq (tags : (s.queue.records.map LoafRecord.tag).Nodup) :
    s.watched = s.watchTies.queue.records.foldl State.dueTaken s.watchTies
      ∧ ∃ f : LoafRecord → LoafRecord, (∀ r, Retied (s.bag.pendingTies.map PendingTie.tag) r (f r))
        ∧ s.watchTies.queue = { s.queue with records := s.queue.records.map f }
        ∧ s.watched.queue.records = (s.queue.records.map f).filter fun r => decide (s.due r = .nothing) := by
  obtain ⟨f, retied, queue⟩ := watchTies_records s
  obtain ⟨visits, kept⟩ := watchRecords_eq s.watchTies (by rw [watchTies_tags]; exact tags)
  refine ⟨visits, f, retied, queue, kept.trans ?_⟩
  rw [queue]
  simp only [watchTies_due]

/-- Nothing due is left. -/
theorem watched_noneDue (tags : (s.queue.records.map LoafRecord.tag).Nodup) {r : LoafRecord} (mem : r ∈ s.watched.queue.records) :
    s.due r = .nothing := by
  obtain ⟨-, f, -, -, records⟩ := watched_eq tags
  rw [records] at mem
  exact of_decide_eq_true (List.mem_filter.mp mem).2

/-- A record that is not due stays as it stands but for a tie status. -/
theorem watched_stays (tags : (s.queue.records.map LoafRecord.tag).Nodup) {r : LoafRecord} (mem : r ∈ s.queue.records)
    (due : s.due r = .nothing) : ∃ x ∈ s.watched.queue.records, x = { r with tie := x.tie } := by
  obtain ⟨-, f, retied, -, records⟩ := watched_eq tags
  refine ⟨f r, ?_, (retied r).eq_with_tie⟩
  rw [records]
  exact List.mem_filter.mpr ⟨List.mem_map_of_mem mem, decide_eq_true (((retied r).due s).trans due)⟩

/-- A record that is due leaves. -/
theorem watched_gone (tags : (s.queue.records.map LoafRecord.tag).Nodup) {r : LoafRecord} (mem : r ∈ s.queue.records)
    (due : s.due r ≠ .nothing) : ∀ x ∈ s.watched.queue.records, x.tag ≠ r.tag := by
  intro x hx same
  have stays := watched_noneDue tags hx
  obtain ⟨-, f, retied, -, records⟩ := watched_eq tags
  rw [records] at hx
  obtain ⟨y, hy, rfl⟩ := List.mem_map.mp (List.mem_filter.mp hx).1
  obtain rfl := List.inj_on_of_nodup_map tags hy mem ((retied y).tag.symm.trans same)
  exact due (((retied y).due s).symm.trans stays)

/-- A DIVERTING record that H has reached drives the reject gate. -/
theorem watched_rejectGate_driven (tags : (s.queue.records.map LoafRecord.tag).Nodup) {st : GateStation}
    (gate : s.gateStation .reject = some st) {r : LoafRecord} (mem : r ∈ s.queue.records) (stage : r.stage = .diverting)
    (due : s.due r ≠ .nothing) : s.watched.queue.rejectGate = .driven (s.now + st.pulse) := by
  obtain ⟨visits, f, retied, queue, -⟩ := watched_eq tags
  have frame := watchTies_tieParts s
  rw [visits, foldl_rejectGate_driven s.watchTies ((frame.gateStation (by decide) _).trans gate) (r := f r)
    (by rw [queue]; exact List.mem_map_of_mem mem)
    (by rw [watchTies_due, (retied r).due, due_eq_reject_iff]; exact ⟨stage, due⟩), frame .now (by decide)]

theorem watched_rejectGate_kept (tags : (s.queue.records.map LoafRecord.tag).Nodup)
    (none : ∀ r ∈ s.queue.records, r.stage = .diverting → s.due r = .nothing) :
    s.watched.queue.rejectGate = s.queue.rejectGate := by
  obtain ⟨visits, f, retied, queue, -⟩ := watched_eq tags
  have same : s.watchTies.queue.rejectGate = s.queue.rejectGate := by rw [queue]
  rw [visits, ← same]
  refine foldl_dueTaken_keeps s.watchTies (fun v => v.queue.rejectGate) (spared := fun d _ => d ≠ .reject)
    (fun v r other => dueTaken_rejectGate v r other) fun x hx due => ?_
  rw [queue] at hx
  obtain ⟨r, hr, rfl⟩ := List.mem_map.mp hx
  rw [watchTies_due, due_eq_reject_iff, (retied r).stage, (retied r).due] at due
  exact due.2 (none r hr due.1)

/-- An EXITING record that H has reached drives the exit gate unless it is GOOD. -/
theorem watched_exitGate_driven (tags : (s.queue.records.map LoafRecord.tag).Nodup) {st : GateStation}
    (gate : s.gateStation .exit = some st) {r : LoafRecord} (mem : r ∈ s.queue.records) (stage : r.stage = .exiting)
    (due : s.due r ≠ .nothing) (bad : r.exitOutcome ≠ .good) : s.watched.queue.exitGate = .driven (s.now + st.pulse) := by
  obtain ⟨visits, f, retied, queue, -⟩ := watched_eq tags
  have frame := watchTies_tieParts s
  rw [visits, foldl_exitGate_driven s.watchTies ((frame.gateStation (by decide) _).trans gate) (r := f r)
    (by rw [queue]; exact List.mem_map_of_mem mem)
    (by rw [watchTies_due, (retied r).due, due_eq_exit_iff]; exact ⟨stage, due⟩) ((retied r).not_good bad), frame .now (by decide)]

theorem watched_exitGate_kept (tags : (s.queue.records.map LoafRecord.tag).Nodup)
    (none : ∀ r ∈ s.queue.records, r.stage = .exiting →
      s.due r = .nothing ∨ r.exitOutcome = .good ∧ ∀ x ∈ s.bag.pendingTies, x.tag ≠ r.tag) :
    s.watched.queue.exitGate = s.queue.exitGate := by
  obtain ⟨visits, f, retied, queue, -⟩ := watched_eq tags
  have same : s.watchTies.queue.exitGate = s.queue.exitGate := by rw [queue]
  rw [visits, ← same]
  refine foldl_dueTaken_keeps s.watchTies (fun v => v.queue.exitGate) (spared := fun d r => d = .exit → r.exitOutcome = .good)
    (fun v r other => dueTaken_exitGate v r other) fun x hx due => ?_
  rw [queue] at hx
  obtain ⟨r, hr, rfl⟩ := List.mem_map.mp hx
  rw [watchTies_due, due_eq_exit_iff, (retied r).stage, (retied r).due] at due
  obtain ⟨good, untied⟩ := (none r hr due.1).resolve_left due.2
  have unchanged : f r = r := (retied r).eq_of_not_mem fun mem => by
    obtain ⟨x, hx, same⟩ := List.mem_map.mp mem
    exact untied x hx same
  rw [unchanged]
  exact good

theorem watched_gapRelease (tags : (s.queue.records.map LoafRecord.tag).Nodup) :
    s.watched.schedule.gapRelease = s.schedule.gapRelease := by
  obtain ⟨visits, -⟩ := watched_eq tags
  rw [visits, foldl_dueTaken_gapRelease, watchTies_tieParts s .schedule (by decide)]

theorem held_watched_scheduleGap (tags : (s.queue.records.map LoafRecord.tag).Nodup) :
    s.watched.held .scheduleGap = s.held .scheduleGap := by
  obtain ⟨visits, -⟩ := watched_eq tags
  rw [visits, held_foldl_dueTaken _ _ (by decide), held_watchTies _ (by decide)]

/-- One record alone is due, and no tie is. -/
theorem watched_one (tags : (s.queue.records.map LoafRecord.tag).Nodup) {before after : List LoafRecord} {r : LoafRecord}
    (split : s.queue.records = before ++ r :: after) (others : ∀ x ∈ before ++ after, s.due x = .nothing)
    (ties : ∀ x ∈ s.bag.pendingTies, ¬ reached x.position s.pos.h = true) : s.watched = s.dueTaken r := by
  have untouched : s.watchTies = s := foldl_watchTie_ahead s ties
  obtain ⟨visits, -⟩ := watched_eq tags
  rw [visits, untouched, split, foldl_dueTaken_one s others]

end

end Sys2Proof.Machine
end

section
/-! SUPPORT. An advance of H takes what is due. -/

namespace Sys2Proof.Machine

variable (s : State)

/-! ## The gap (R101) -/

theorem watchGap_none (none' : s.schedule.gapRelease = none) : s.watchGap = s := by rw [State.watchGap, none']

section
variable {w : Pos} (release : s.schedule.gapRelease = some w)

include release in
theorem watchGap_ahead (ahead : ¬ reached w s.pos.h = true) : s.watchGap = s := by
  rw [State.watchGap, release]
  exact if_neg ahead

include release in
theorem watchGap_reached (here : reached w s.pos.h = true) :
    s.watchGap = (s.releaseHold .scheduleGap).setSchedule { (s.releaseHold .scheduleGap).schedule with gapRelease := none } := by
  rw [State.watchGap, release]
  exact if_pos here

end

theorem held_watchGap {x : HoldReason} (ne : x ≠ .scheduleGap) : s.watchGap.held x = s.held x := by
  have released : ((s.releaseHold .scheduleGap).setSchedule { (s.releaseHold .scheduleGap).schedule with gapRelease := none }).held x =
      s.held x := by
    rw [(setSchedule_frame _ _).held (by decide), held_releaseHold, decide_eq_false (Ne.symm ne), Bool.not_false, Bool.true_and]
  unfold State.watchGap
  split
  · split
    · exact released
    · rfl
  · rfl

theorem watchGap_tells : Tells [.holdChanged] s s.watchGap := by
  have released : Tells [.holdChanged] s
      ((s.releaseHold .scheduleGap).setSchedule { (s.releaseHold .scheduleGap).schedule with gapRelease := none }) :=
    (releaseHold_tells s .scheduleGap).trans ((setSchedule_frame _ _).tells (by decide))
  unfold State.watchGap
  split
  · exact .ite released (.refl _ s)
  · exact .refl _ s

/-! ## An advance (R5) -/

theorem advanced_eq : s.advanced = s.activity.watched.watchGap.judgeBlasts := rfl

theorem advanced_after_watched : OnlyTouches [.schedule, .line, .ports, .crumb] s.activity.watched s.advanced :=
  ((watchGap_frame _).within rfl).andThen (judgeBlasts_frame _) rfl

theorem held_advanced {x : HoldReason} (ne : x ≠ .scheduleGap) : s.advanced.held x = s.activity.watched.held x := by
  rw [advanced_eq, (judgeBlasts_frame _).held (by decide), held_watchGap _ ne]

theorem held_activity (x : HoldReason) : s.activity.held x = s.held x := by
  rw [State.held, activity_holds]; rfl

/-- The state in which H has advanced and the line has been told. -/
def State.moved (s : State) (q : Quad) : State := (s.forward q).activity

theorem moved_frame (q : Quad) : OnlyTouches [.pos, .line, .crumb] s (s.moved q) :=
  ((setPos_frame s _).within rfl).andThen (activity_frame _) rfl

theorem moved_h (q : Quad) : (s.moved q).pos.h = s.pos.p + 1 := by
  rw [State.moved, activity_frame _ .pos (by decide)]; rfl

theorem moved_outcome (q : Quad) (r : LoafRecord) : ((s.moved q).due r).outcome r = s.outcomeAt (s.pos.p + 1) r := by
  rw [← outcomeAt_eq, moved_h, (moved_frame s q).outcomeAt (by decide)]

theorem moved_due (q : Quad) (r : LoafRecord) : (s.moved q).due r = .nothing ↔ s.outcomeAt (s.pos.p + 1) r = none := by
  rw [due_eq_nothing_iff, moved_h, (moved_frame s q).outcomeAt (by decide)]

theorem moved_held (q : Quad) (x : HoldReason) : (s.moved q).held x = s.held x := held_activity (s.forward q) x

/-- The gap at an advance: released when H reaches its release position, standing until then. -/
theorem advance_gap {q : Quad} (tags : (s.queue.records.map LoafRecord.tag).Nodup) :
    let t := (s.forward q).advanced
    (∀ w, s.schedule.gapRelease = some w →
        ((w - (s.pos.p + 1)).toInt ≤ 0 → t.schedule.gapRelease = none ∧ t.held .scheduleGap = false)
          ∧ (0 < (w - (s.pos.p + 1)).toInt → t.schedule.gapRelease = some w ∧ t.held .scheduleGap = s.held .scheduleGap))
      ∧ (s.schedule.gapRelease = none → t.schedule.gapRelease = none ∧ t.held .scheduleGap = s.held .scheduleGap) := by
  intro t
  have frame := moved_frame s q
  have tagsThen : ((s.moved q).queue.records.map LoafRecord.tag).Nodup := by rw [frame.sameQueue (by decide)]; exact tags
  let y := (s.moved q).watched
  have gap : y.schedule.gapRelease = s.schedule.gapRelease := by
    rw [watched_gapRelease tagsThen, frame .schedule (by decide)]
  have held : y.held .scheduleGap = s.held .scheduleGap := by
    rw [held_watched_scheduleGap tagsThen, moved_held]
  have h : y.pos.h = s.pos.p + 1 := by rw [watched_frame _ .pos (by decide), moved_h]
  have judged := judgeBlasts_frame y.watchGap
  have schedule : t.schedule = y.watchGap.schedule := judged .schedule (by decide)
  have heldThen : t.held .scheduleGap = y.watchGap.held .scheduleGap := judged.held (by decide) _
  rw [schedule, heldThen]
  refine ⟨fun w release => ⟨fun here => ?_, fun ahead => ?_⟩, fun none' => ?_⟩
  · rw [watchGap_reached y (gap.trans release) (by rw [h, reached_iff]; exact here)]
    refine ⟨rfl, ?_⟩
    rw [(setSchedule_frame _ _).held (by decide), held_releaseHold]
    rfl
  · rw [watchGap_ahead y (gap.trans release) (by rw [h, not_reached_iff]; exact ahead)]
    exact ⟨gap.trans release, held⟩
  · rw [watchGap_none y (gap.trans none')]
    exact ⟨gap.trans none', held⟩

theorem due_loss_of_outcome {r : LoafRecord} (lost : (s.due r).outcome r = some .lost) : s.due r = .loss := by
  cases due : s.due r with
  | loss => rfl
  | nothing | reject => rw [due] at lost; cases lost
  | exit =>
    rw [due] at lost
    have outcome : r.exitOutcome = .lost := Option.some.inj lost
    unfold LoafRecord.exitOutcome at outcome
    split at outcome
    · cases outcome
    · split at outcome
      · cases outcome
      · split at outcome <;> cases outcome

/-- A record that alone is due at an advance. -/
theorem advance_one {q : Quad} (tags : (s.queue.records.map LoafRecord.tag).Nodup) {before after : List LoafRecord} {r : LoafRecord}
    {o : LeaveOutcome} (split : s.queue.records = before ++ r :: after)
    (others : ∀ x ∈ before ++ after, s.outcomeAt (s.pos.p + 1) x = none) (outcome : s.outcomeAt (s.pos.p + 1) r = some o)
    (ties : ∀ x ∈ s.bag.pendingTies, 0 < (x.position - (s.pos.p + 1)).toInt) :
    let t := (s.forward q).advanced
    t.queue.records = before ++ after
      ∧ t.totals = { s.totals with
          openShift := s.totals.openShift.countLeave ((s.slot r.slot).product.map Product.code) r o }
      ∧ ((before ++ after).length = 40 → t.held .queueFull = false)
      ∧ ((before ++ after).length ≠ 40 → t.held .queueFull = s.held .queueFull)
      ∧ (o = .lost → Noticed t .office .lostLoaf
          ∧ (r.fetched = true → r.stage = .toSlicer ∨ r.stage = .toBag → Noticed t .bagger .bagWithdrawn)) := by
  intro t
  have frame := moved_frame s q
  have queue : (s.moved q).queue = s.queue := frame.sameQueue (by decide)
  have taken : (s.moved q).watched = (s.moved q).dueTaken r := watched_one (by rw [queue]; exact tags) (by rw [queue]; exact split)
    (fun x hx => (moved_due s q x).mpr (others x hx)) fun x hx => by
      rw [moved_h, not_reached_iff]
      exact ties x (frame.sameBag (by decide) ▸ hx)
  have rest : OnlyTouches [.schedule, .line, .ports, .crumb] ((s.moved q).dueTaken r) t := taken ▸ advanced_after_watched (s.forward q)
  have due := (moved_outcome s q r).trans outcome
  have isDue : (s.moved q).due r ≠ .nothing := fun no => by rw [no] at due; cases due
  have left : without r.tag (s.moved q).queue.records = before ++ after := by
    rw [queue, split, without_split rfl (others_of_split split tags)]
  have full : t.held .queueFull = ((s.moved q).dueTaken r).held .queueFull := by
    rw [← taken]
    exact held_advanced (s.forward q) (by decide)
  have told : Tells [.holdChanged] ((s.moved q).dueTaken r) t :=
    taken ▸ (watchGap_tells (s.moved q).watched).trans ((judgeBlasts_frame _).tells (by decide))
  refine ⟨?_, ?_, fun falls => ?_, fun stays => ?_, fun lost => ?_⟩
  · rw [rest.sameQueue (by decide), dueTaken_records, if_neg isDue, left]
  · rw [rest.sameTotals (by decide), dueTaken_totals _ _ due, frame.sameTotals (by decide), frame.slot (by decide)]
  · rw [full, held_dueTaken, left, if_pos ⟨isDue, falls, rfl⟩]
  · rw [full, held_dueTaken, left, if_neg fun h => stays h.2.1, moved_held]
  · have loss := due_loss_of_outcome (s.moved q) (lost ▸ due)
    have isLost := dueTaken_loss (s.moved q) loss
    rw [isLost] at told
    exact ⟨told.stands (lose_lostLoaf _ r), fun fetched stage => told.stands (judgeWithdrawn_noticed _ fetched stage)⟩

/-- Settles O31: the ties write tie statuses alone; of the records each leaves for which something is due, and drives its gate. -/
theorem advanceTakesWhatIsDue : Obligations.AdvanceTakesWhatIsDue := by
  intro s q tags step x h
  have frame := moved_frame s q
  have queue : (s.moved q).queue = s.queue := frame.sameQueue (by decide)
  have tagsThen : ((s.moved q).queue.records.map LoafRecord.tag).Nodup := by rw [queue]; exact tags
  have rest := advanced_after_watched (s.forward q)
  have queueThen : (s.forward q).advanced.queue = (s.moved q).watched.queue := rest.sameQueue (by decide)
  have gates (g : Gate) : (s.moved q).gateStation g = s.gateStation g := frame.gateStation (by decide) g
  have isDue {r : LoafRecord} (due : s.outcomeAt h r ≠ none) : (s.moved q).due r ≠ .nothing := mt (moved_due s q r).mp due
  have toEnd : OnlyTouches (.pos :: .choices :: queueParts) s (s.forward q).advanced :=
    ((frame.within rfl).andThen (watched_frame _) rfl).andThen rest rfl
  obtain ⟨gapStands, gapNone⟩ := advance_gap s (q := q) tags
  refine ⟨_, exec_advance s step x, gapStands, gapNone, fun r hr => ?_, fun r hr stays => ?_, fun r hr due => ?_,
    fun g gate r hr stage due => ?_, fun none' => ?_, fun g gate r hr stage due bad => ?_, fun none' => ?_,
    fun before r after o split others outcome ties => advance_one s tags split others outcome ties⟩
  · rw [queueThen] at hr
    rw [toEnd.outcomeAt (by decide)]
    exact (moved_due s q r).mp (watched_noneDue tagsThen hr)
  · rw [queueThen]
    exact watched_stays tagsThen (queue ▸ hr) ((moved_due s q r).mpr stays)
  · rw [queueThen]
    exact watched_gone tagsThen (queue ▸ hr) (isDue due)
  · rw [queueThen, watched_rejectGate_driven tagsThen ((gates .reject).trans gate) (queue ▸ hr) stage (isDue due), frame .now (by decide)]
  · rw [queueThen, watched_rejectGate_kept tagsThen fun r hr stage => (moved_due s q r).mpr (none' r (queue ▸ hr) stage), queue]
  · rw [queueThen, watched_exitGate_driven tagsThen ((gates .exit).trans gate) (queue ▸ hr) stage (isDue due) bad, frame .now (by decide)]
  · rw [queueThen, watched_exitGate_kept tagsThen, queue]
    intro r hr stage
    refine (none' r (queue ▸ hr) stage).imp (moved_due s q r).mpr fun ⟨good, untied⟩ => ⟨good, fun x hx => untied x ?_⟩
    exact frame.sameBag (by decide) ▸ hx

end Sys2Proof.Machine
end

section
/-! SUPPORT. The line's state and timer through the operations that place holds and judge blasts, and the idle timer. -/

namespace Sys2Proof.Machine

variable (s : State)

/-! ## What leaves the line's state -/

/-- From s to t the line's state and timer stay, a released permit of a STOPPED line stays so, and no purge becomes owed. -/
structure Steady (s t : State) : Prop where
  state : t.line.state = s.line.state
  timer : t.line.idleTimer = s.line.idleTimer
  permit : s.line.state = .stopped → s.line.permit = .released → t.line.permit = .released
  purges : ∀ z, (t.zone z).purgeOwed = true → (s.zone z).purgeOwed = true

section
variable {s t u : State}

theorem Steady.refl (s : State) : Steady s s := ⟨rfl, rfl, fun _ h => h, fun _ h => h⟩

theorem Steady.trans (h : Steady s t) (k : Steady t u) : Steady s u where
  state := k.state.trans h.state
  timer := k.timer.trans h.timer
  permit stopped released := k.permit (h.state.trans stopped) (h.permit stopped released)
  purges z owed := h.purges z (k.purges z owed)

theorem Steady.ite {c : Prop} [Decidable c] (h : Steady s t) (k : Steady s u) : Steady s (if c then t else u) := by
  split
  · exact h
  · exact k

theorem Steady.foldl {α : Type} (f : State → α → State) (h : ∀ s a, Steady s (f s a)) (l : List α) (s : State) :
    Steady s (l.foldl f s) := by
  induction l generalizing s with
  | nil => exact .refl s
  | cons a l ih => exact (h s a).trans (ih (f s a))

theorem OnlyTouches.steady {ps : List Part} (h : OnlyTouches ps s t) (apart : ∀ x ∈ [Part.line, .crumb], x ∉ ps) : Steady s t := by
  have line : t.line = s.line := h .line (apart .line (by decide))
  refine ⟨by rw [line], by rw [line], fun _ released => by rw [line]; exact released, fun z owed => ?_⟩
  rwa [h.zone (apart .crumb (by decide))] at owed

end

theorem changeHolds_steady (w : Set16) : Steady s (s.changeHolds w) := by
  refine Steady.trans (t := s.setLine { s.line with holds := w, permit := permitOf s.line.state w }) ?_
    ((notifyHoldChanged_frame _).steady (by decide))
  refine ⟨rfl, rfl, fun stopped _ => ?_, fun _ owed => owed⟩
  show permitOf s.line.state w = .released
  rw [stopped]; rfl

theorem placeHold_steady (r : HoldReason) : Steady s (s.placeHold r) := .ite (.refl s) (changeHolds_steady s _)

theorem releaseHold_steady (r : HoldReason) : Steady s (s.releaseHold r) := .ite (changeHolds_steady s _) (.refl s)

theorem judgeHold_steady (r : HoldReason) (c : Bool) : Steady s (s.judgeHold r c) := .ite (placeHold_steady s r) (releaseHold_steady s r)

/-! ### Crumb -/

theorem setZone_steady {z : Zone} {x : ZoneState} (owed : x.purgeOwed = true → (s.zone z).purgeOwed = true) : Steady s (s.setZone z x) := by
  refine ⟨rfl, rfl, fun _ released => released, fun w purge => ?_⟩
  by_cases same : w = z
  · subst same
    rw [zone_setZone_self] at purge
    exact owed purge
  · rwa [zone_setZone_of_ne s z w x same] at purge

theorem judgeBlast_steady (z : Zone) : Steady s (s.judgeBlast z) := by
  unfold State.judgeBlast
  split
  · exact .ite (setZone_steady s (fun owed => by cases owed)) (.refl s)
  · exact .refl s

theorem judgeBlasts_steady : Steady s s.judgeBlasts := (judgeBlast_steady s _).trans (judgeBlast_steady _ _)

theorem judgeFull_steady (z : Zone) : Steady s (s.judgeFull z) :=
  .ite (placeHold_steady s _) (.ite (releaseHold_steady s _) (.refl s))

theorem charge_steady (z : Zone) (c : Nat) : Steady s (s.charge z c) := by
  have raised : Steady s (s.setZone z { s.zone z with load := min ((s.zone z).load + c) loadLimit }) := setZone_steady s fun owed => owed
  exact .ite ((raised.trans (judgeFull_steady _ z)).trans (judgeBlast_steady _ z)) (.refl s)

/-! ### Recipes and the schedule -/

theorem judgeBlade_steady : Steady s s.judgeBlade := judgeHold_steady s _ _

theorem changeover_steady (i : Fin 16) : Steady s (s.changeover i) := by
  let t := ((s.unloadActive.setSlotState i .active).setSelection none).notify .slicer .changeoverTaken
  have before : OnlyTouches [.recipes, .ports] s (t.notify .office .changeoverTaken) :=
    (((((unloadActive_frame s).within rfl).andThen (setSlotState_frame _ i _) rfl).andThen (setSelection_frame _ _) rfl).andThen
      (notify_frame _ _ _) rfl).andThen (notify_frame _ _ _) rfl
  exact ((before.steady (by decide)).trans (releaseHold_steady _ _)).trans (judgeBlade_steady _)

theorem writeSelection_steady (i : Fin 16) (w : Source) : Steady s (s.writeSelection i w) := by
  have displaced : Steady s (s.notifyDisplaced w) := (notifyDisplaced_frame s w).steady (by decide)
  have selects (x : Option Selection) : Steady (s.notifyDisplaced w) ((s.notifyDisplaced w).setSelection x) :=
    (setSelection_frame _ x).steady (by decide)
  unfold State.writeSelection
  split
  · split
    · exact displaced.trans (changeover_steady _ i)
    · exact displaced.trans (selects _)
  · exact displaced.trans (selects _)
  · exact .refl s
  · exact .refl s

theorem takePending_steady : Steady s s.takePending := by
  unfold State.takePending
  split
  · exact changeover_steady s _
  · exact .refl s

theorem judgeGap_steady (p : Pos) (gap : Nat) : Steady s (s.judgeGap p gap) :=
  .ite (.refl s) (.ite (.refl s) ((placeHold_steady s _).trans ((setSchedule_frame _ _).steady (by decide))))

theorem activateNext_steady (stop : Bool) : Steady s (s.activateNext stop) := by
  unfold State.activateNext
  split
  · rename_i e _
    refine Steady.trans (t := s.updateEntry e.id fun x => { x with state := .active }) ((updateEntry_frame s _ _).steady (by decide)) ?_
    refine .ite ((placeHold_steady _ _).trans ((suspendSchedule_frame _).steady (by decide))) ?_
    exact .ite (writeSelection_steady _ _ _) (.refl _)
  · refine Steady.trans (t := s.setScheduleState .idle) ((setScheduleState_frame s _).steady (by decide)) ?_
    exact .ite (placeHold_steady _ _) (.refl _)

theorem fillByAdmission_steady (e : Entry) (p : Pos) : Steady s (s.fillByAdmission e p) := by
  have filled (f : Entry → Entry) : Steady s (s.updateEntry e.id f) := (updateEntry_frame s _ _).steady (by decide)
  exact (((filled _).trans (judgeGap_steady _ p _)).trans (activateNext_steady _ _)).trans ((closeEntry_frame _ _).steady (by decide))

theorem judgeAdmission_steady (r : LoafRecord) (x : Reasons) (p : Pos) : Steady s (s.judgeAdmission r x p) := by
  unfold State.judgeAdmission
  split
  · exact .refl s
  · refine .ite (.refl s) ?_
    split
    · exact .refl s
    · rename_i id _ _ e _
      refine .ite ?_ ?_
      · refine Steady.trans (t := s.updateEntry id fun x => { x with admitted := x.admitted + 1 })
          ((updateEntry_frame s _ _).steady (by decide)) ?_
        exact .ite (fillByAdmission_steady _ _ p) (.refl _)
      · have uncarried : OnlyTouches [.queue, .schedule, .ports] s
            (((s.updateRecord r.tag fun r => { r with entry := none }).updateEntry id
              fun e => { e with carried := e.carried - 1 }).closeEntry
              id) :=
          (((updateRecord_frame s _ _).within rfl).andThen (updateEntry_frame _ _ _) rfl).andThen (closeEntry_frame _ _) rfl
        exact uncarried.steady (by decide)

theorem watchGap_steady : Steady s s.watchGap := by
  unfold State.watchGap
  split
  · exact .ite ((releaseHold_steady s _).trans ((setSchedule_frame _ _).steady (by decide))) (.refl s)
  · exact .refl s

/-! ### Ties -/

theorem setMagazine_steady (count threshold : Nat) : Steady s (s.setMagazine count threshold) := by
  let t := s.setBag { s.bag with magazine := count, lowThreshold := threshold }
  have bag : Steady s t := (setBag_frame s _).steady (by decide)
  refine bag.trans ?_
  refine Steady.trans (t := t.judgeHold .clipEmpty (decide (t.bag.magazine = 0))) (judgeHold_steady t _ _) ?_
  exact .ite ((notify_frame _ _ _).steady (by decide)) (.refl _)

theorem fireTyer_steady (tag : Nat) : Steady s (s.fireTyer tag) := by
  refine Steady.trans ?_ ((setTieStatus_frame _ tag .inFlight).steady (by decide))
  refine Steady.trans ?_ ((setShift_frame _ _).steady (by decide))
  exact Steady.trans ((setBag_frame s _).steady (by decide)) (setMagazine_steady _ _ _)

theorem takeTieFire_steady (tag : Nat) : Steady s (s.takeTieFire tag) := by
  have missed (c : MissCause) : Steady s (s.missTie tag c) := (missTie_frame s tag c).steady (by decide)
  unfold State.takeTieFire
  split
  · exact .ite (missed _) (fireTyer_steady s tag)
  · exact missed _
  · exact missed _

/-! ### The queue -/

theorem removeRecord_steady (tag : Nat) : Steady s (s.removeRecord tag) := by
  refine Steady.trans (t := s.setQueue { s.queue with records := dropRecord tag s.queue.records })
    ((setQueue_frame s _).steady (by decide)) ?_
  exact .ite (releaseHold_steady _ _) (.refl _)

theorem leave_steady (r : LoafRecord) (o : LeaveOutcome) : Steady s (s.leave r o) :=
  ((((handedOn_frame s r o).steady (by decide)).trans (removeRecord_steady _ _)).trans
    ((withdrawTie_frame _ _).steady (by decide))).trans (judgeBlasts_steady _)

theorem lose_steady (r : LoafRecord) : Steady s (s.lose r) := (leave_steady s r _).trans ((lose_after_leave s r).steady (by decide))

theorem rejectFire_steady (r : LoafRecord) : Steady s (s.rejectFire r) :=
  Steady.trans ((driveGate_frame s _).steady (by decide)) (leave_steady _ r _)

theorem exitFire_steady (r : LoafRecord) : Steady s (s.exitFire r) :=
  Steady.trans ((exitGated_frame s r).steady (by decide)) (leave_steady _ r _)

theorem joinRecord_steady (r : LoafRecord) : Steady s (s.joinRecord r) := by
  refine Steady.trans (t := s.setQueue { s.queue with records := s.queue.records ++ [r], tagCounter := after255 r.tag })
    ((setQueue_frame s _).steady (by decide)) ?_
  exact .ite (placeHold_steady _ _) (.refl _)

theorem createRecord_steady (i : Fin 16) (p : Pos) : Steady s (s.createRecord i p) := by
  have joined := joinRecord_steady s (newRecord s.nextTag i s.entryIdForRecord s.bag.date p)
  refine Steady.trans ?_ (judgeBlasts_steady _)
  refine joined.trans (OnlyTouches.steady (ps := [.recipes, .schedule, .totals]) ?_ (by decide))
  exact (((raiseInFlight_frame _ i).within rfl).andThen (raiseCarried_frame _ _) rfl).andThen (setShift_frame _ _) rfl

theorem enterLoaf_steady (p : Pos) : Steady s (s.enterLoaf p) := by
  have untracked : OnlyTouches [.totals, .ports] s (s.countUntracked.notify .office .untrackedLoaf) :=
    ((setShift_frame s _).within rfl).andThen (notify_frame _ _ _) rfl
  unfold State.enterLoaf
  split
  · exact .refl s
  · refine .ite (untracked.steady (by decide)) ?_
    split
    · exact takePending_steady s
    · exact (takePending_steady s).trans (createRecord_steady _ _ p)

theorem infeedLeading_steady (p : Pos) : Steady s (s.infeedLeading p) := by
  unfold State.infeedLeading
  split
  · exact (lose_steady s _).trans (enterLoaf_steady _ p)
  · exact enterLoaf_steady s p

theorem planRecord_steady (r : LoafRecord) (q : Product) (p : Pos) : Steady s (s.planRecord r q p) := by
  refine Steady.trans ?_ (judgeBlasts_steady _)
  refine Steady.trans ?_ ((judgeBagReady_frame _ _).steady (by decide))
  exact Steady.trans ((updateRecord_frame s _ _).steady (by decide)) (judgeAdmission_steady _ r _ p)

theorem infeedTrailing_steady (p : Pos) : Steady s (s.infeedTrailing p) := by
  unfold State.infeedTrailing
  split
  · exact .refl s
  · split
    · exact planRecord_steady s _ _ p
    · exact .refl s

theorem strayEdge_steady : Steady s s.strayEdge := (strayEdge_frame s).steady (by decide)

theorem putRecord_steady (r : LoafRecord) : Steady s (s.putRecord r) := (putRecord_frame s r).steady (by decide)

theorem matchE1_steady (r : LoafRecord) (p : Pos) : Steady s (s.matchE1 r p) := by
  unfold State.matchE1
  refine Steady.trans (t := (s.putRecord r).charge .z0 (r.plan.elim 0 Plan.crumb)) ((putRecord_steady s r).trans (charge_steady _ _ _)) ?_
  refine .ite ?_ ((putRecord_steady _ _).trans (judgeBlasts_steady _))
  split
  · exact .refl _
  · have withdrawn (t : State) (d : LoafRecord) : Steady t ((t.putRecord d).judgeWithdrawn r) :=
      (putRecord_steady t d).trans ((judgeWithdrawn_frame _ r).steady (by decide))
    exact .ite ((withdrawn _ _).trans (rejectFire_steady _ _)) ((withdrawn _ _).trans (judgeBlasts_steady _))

theorem matchE2_steady (r : LoafRecord) (p : Pos) : Steady s (s.matchE2 r p) := by
  unfold State.matchE2
  have put := ((putRecord_steady s r).trans (charge_steady _ .z1 (bagZoneCharge (r.plan.elim 0 Plan.crumb)))).trans
    (putRecord_steady _ { r with stage := .bagging, blind := r.blind || !r.fetched })
  refine Steady.trans (t := ite _ _ _) ?_ (judgeBlasts_steady _)
  exact .ite put (put.trans ((notify_frame _ _ _).steady (by decide)))

theorem matchE3_steady (r : LoafRecord) (p : Pos) : Steady s (s.matchE3 r p) := by
  unfold State.matchE3
  refine .ite ((putRecord_steady s _).trans (judgeBlasts_steady _)) ?_
  split
  · exact (putRecord_steady s _).trans (judgeBlasts_steady _)
  · refine Steady.trans (t := ite _ _ _) ?_ (judgeBlasts_steady _)
    exact .ite ((putRecord_steady s _).trans (takeTieFire_steady _ _))
      ((putRecord_steady s _).trans ((enterTie_frame _ _ _).steady (by decide)))

theorem matchE4_steady (r : LoafRecord) (p : Pos) : Steady s (s.matchE4 r p) := by
  unfold State.matchE4
  split
  · exact (putRecord_steady s r).trans (leave_steady _ r _)
  · exact .ite ((putRecord_steady s _).trans (exitFire_steady _ _)) ((putRecord_steady s _).trans (judgeBlasts_steady _))

theorem matchAt_steady (e : Eye) (r : LoafRecord) (p : Pos) : Steady s (s.matchAt e r p) := by
  cases e with
  | e0 => exact .refl s
  | e1 => exact matchE1_steady s r p
  | e2 => exact matchE2_steady s r p
  | e3 => exact matchE3_steady s r p
  | e4 => exact matchE4_steady s r p

theorem tryCandidates_steady (e : Eye) (st : EyeStation) (p : Pos) (rs : List LoafRecord) : Steady s (s.tryCandidates e st p rs) := by
  induction rs generalizing s with
  | nil => exact strayEdge_steady s
  | cons r rest ih =>
    unfold State.tryCandidates
    exact .ite (strayEdge_steady s) (.ite ((lose_steady s r).trans (ih _)) (matchAt_steady s e _ p))

theorem downstreamLeading_steady (e : Eye) (p : Pos) : Steady s (s.downstreamLeading e p) := by
  unfold State.downstreamLeading
  split
  · exact strayEdge_steady s
  · exact tryCandidates_steady s e _ p _

/-- An edge taken by the queue leaves the line's state. -/
theorem takeEdge_steady (e : Eye) (l : Level) (p : Pos) : Steady s (s.takeEdge e l p) := by
  cases e with
  | e0 =>
    cases l with
    | dark => exact infeedLeading_steady s p
    | clear => exact infeedTrailing_steady s p
  | e1 | e2 | e3 | e4 =>
    cases l with
    | dark => exact downstreamLeading_steady s _ p
    | clear => exact .refl s

/-! ### An advance -/

theorem takeDue_steady (tag : Nat) : Steady s (s.takeDue tag) := by
  unfold State.takeDue
  split
  · exact .refl s
  · split
    · exact .refl s
    · exact lose_steady s _
    · exact rejectFire_steady s _
    · exact exitFire_steady s _

theorem watchRecords_steady : Steady s s.watchRecords := .foldl _ takeDue_steady _ s

theorem tieTaken_steady (x : PendingTie) : Steady s (s.tieTaken x) :=
  Steady.trans ((setBag_frame s _).steady (by decide)) (takeTieFire_steady _ x.tag)

theorem watchTie_steady (x : PendingTie) : Steady s (s.watchTie x) := by
  have choice : Steady s (s.setChoices (s.choices + 1)) := (setChoices_frame s _).steady (by decide)
  by_cases here : reached x.position s.pos.h = true
  · rw [watchTie_reached s here]
    exact .ite (.ite choice (choice.trans (tieTaken_steady _ x))) (tieTaken_steady s x)
  · rw [watchTie_ahead s here]
    exact .refl s

theorem watchTies_steady : Steady s s.watchTies := .foldl _ watchTie_steady _ s

/-- The watchers of H leave the line as its activity has left it. -/
theorem advanced_steady : Steady s.activity s.advanced :=
  (((watchTies_steady _).trans (watchRecords_steady _)).trans (watchGap_steady _)).trans (judgeBlasts_steady _)

/-! ## Activity (R12, R146, R147, R138) -/

/-- What activity makes of the line: the timer restarts unless it is STOPPED, and an IDLE one is owed no purge any longer. -/
def Active (s t : State) (restart : Nat) : Prop :=
  (s.line.state = .stopped → t.line.state = .stopped ∧ t.line.idleTimer = s.line.idleTimer)
    ∧ (s.line.state ≠ .stopped → t.line.state = .running ∧ t.line.idleTimer = some restart)
    ∧ (s.line.state = .idle → ∀ z, (t.zone z).purgeOwed = false)

theorem activity_active : Active s s.activity s.idleExpiry := by
  refine ⟨fun stopped => ?_, fun started => ?_, fun idle z => ?_⟩
  · rw [State.activity, stopped]
    exact ⟨stopped, rfl⟩
  · unfold State.activity
    cases state : s.line.state with
    | stopped => exact absurd state started
    | running => exact ⟨state, rfl⟩
    | idle => exact ⟨rfl, rfl⟩
  · rw [zone_activity, idle]
    simp

theorem Active.steady {s t u : State} {restart : Nat} (h : Active s t restart) (k : Steady t u) : Active s u restart := by
  obtain ⟨stops, restarts, drops⟩ := h
  refine ⟨fun stopped => ?_, fun started => ?_, fun idle z => ?_⟩
  · exact ⟨k.state.trans (stops stopped).1, k.timer.trans (stops stopped).2⟩
  · exact ⟨k.state.trans (restarts started).1, k.timer.trans (restarts started).2⟩
  · by_contra owed
    have owed := k.purges z (by simpa using owed)
    rw [drops idle z] at owed
    cases owed

theorem Active.of_line {s v t : State} {restart : Nat} (line : v.line = s.line) (h : Active v t restart) : Active s t restart := by
  rwa [Active, line] at h

end Sys2Proof.Machine
end

section
/-! SUPPORT. The idle timer's expiry, and the activity that restarts it. -/

namespace Sys2Proof.Machine

variable (s : State)

/-! ## An accepted edge -/

theorem acceptEdge_eq (e : Eye) (l : Level) (c : PendingChange) :
    s.acceptEdge e l c =
      if c.atH then ((s.setFilter e { accepted := l, change := none }).edgeActivity e).takeEdge e l c.captured
      else (s.setFilter e { accepted := l, change := none }).edgeActivity e := rfl

/-- What follows the activity of an accepted edge leaves the line's state. -/
theorem acceptEdge_steady (e : Eye) (l : Level) (c : PendingChange) :
    Steady ((s.setFilter e { accepted := l, change := none }).edgeActivity e) (s.acceptEdge e l c) := by
  rw [acceptEdge_eq]
  exact .ite (takeEdge_steady _ e l c.captured) (.refl _)

/-- An edge that the E0 filter accepts is activity, delivered or discarded (R12). -/
theorem acceptEdge_active (l : Level) (c : PendingChange) :
    Active s (s.acceptEdge .e0 l c) (s.now + s.pos.config.idleTime * 1000) :=
  Active.steady (Active.of_line rfl (activity_active (s.setFilter .e0 { accepted := l, change := none }))) (acceptEdge_steady s .e0 l c)

/-- An edge of another eye is none. -/
theorem acceptEdge_downstream {e : Eye} (downstream : e ≠ .e0) (l : Level) (c : PendingChange) : Steady s (s.acceptEdge e l c) := by
  have filter : Steady s (s.setFilter e { accepted := l, change := none }) := (setPos_frame s _).steady (by decide)
  have idle : (s.setFilter e { accepted := l, change := none }).edgeActivity e = s.setFilter e { accepted := l, change := none } := by
    cases e <;> first | rfl | exact absurd rfl downstream
  exact filter.trans (idle ▸ acceptEdge_steady s e l c)

/-! ## The idle timer's expiry (R138, R146) -/

/-- The zones once an idle purge is owed, before the blasts are judged. -/
def State.purgesOwed (s : State) : State := s.setCrumb { z0 := s.crumb.z0.owePurge, z1 := s.crumb.z1.owePurge }

theorem zone_purgesOwed (z : Zone) : s.purgesOwed.zone z = (s.zone z).owePurge := by cases z <;> rfl

theorem owePurge_owed {x : ZoneState} (fitted : x.fitted = true) (load : 0 < x.load) : x.owePurge = { x with purgeOwed := true } := by
  rw [ZoneState.owePurge, fitted, decide_eq_true load]; rfl

theorem owePurge_unfitted {x : ZoneState} (unfitted : x.fitted = false) : x.owePurge = x := by
  rw [ZoneState.owePurge, unfitted]; rfl

theorem owePurge_empty {x : ZoneState} (empty : x.load = 0) : x.owePurge = x := by
  rw [ZoneState.owePurge, empty, decide_eq_false (Nat.lt_irrefl 0), Bool.and_false]; rfl

theorem owePurge_keeps (x : ZoneState) : x.owePurge.load = x.load ∧ x.owePurge.fitted = x.fitted := by
  unfold ZoneState.owePurge
  split <;> exact ⟨rfl, rfl⟩

theorem occupant_purgesOwed (z : Zone) : s.purgesOwed.occupant z = s.occupant z :=
  occupant_eq_of (by rw [zone_purgesOwed, (owePurge_keeps _).2]) rfl rfl rfl

theorem enterIdlePurge_eq : s.enterIdlePurge = s.purgesOwed.judgeBlasts := rfl

theorem zone_enterIdlePurge (z : Zone) : s.enterIdlePurge.zone z = s.purgesOwed.judgedZone z := by
  rw [enterIdlePurge_eq, zone_judgeBlasts]

theorem judgedZone_purge {z : Zone} (owed : (s.judgedZone z).purgeOwed = true) : (s.zone z).purgeOwed = true := by
  unfold State.judgedZone at owed
  split at owed
  · split at owed
    · cases owed
    · exact owed
  · exact owed

/-- The zones as the line enters IDLE: a fitted one with a load is owed a purge, or blasts at once where its bar is clear. -/
theorem enterIdlePurge_zones :
    (∀ z b, (s.zone z).fitted = true → 0 < (s.zone z).load → (s.zone z).blastEnd = none → s.occupant z = none → s.bar z = some b →
        (s.enterIdlePurge.zone z).blastEnd = some (s.now + b.blastTime) ∧ (s.enterIdlePurge.zone z).valve = .driven
          ∧ (s.enterIdlePurge.zone z).purgeOwed = false)
      ∧ (∀ z, (s.zone z).fitted = true → 0 < (s.zone z).load → (s.zone z).blastEnd ≠ none ∨ s.occupant z ≠ none →
          s.enterIdlePurge.zone z = { s.zone z with purgeOwed := true })
      ∧ (∀ z, (s.zone z).fitted = false → s.enterIdlePurge.zone z = s.zone z)
      ∧ (∀ z, (s.zone z).load = 0 → (s.enterIdlePurge.zone z).purgeOwed = true → (s.zone z).purgeOwed = true)
      ∧ ∀ z, (s.enterIdlePurge.zone z).load = (s.zone z).load := by
  refine ⟨fun z b fitted load resting empty bar => ?_, fun z fitted load why => ?_, fun z unfitted => ?_, fun z empty owed => ?_,
    fun z => ?_⟩
  · have owed := owePurge_owed fitted load
    have wanted : (s.zone z).owePurge.wanted = true := by
      rw [owed, wanted_iff]
      exact .inr (.inr rfl)
    rw [zone_enterIdlePurge, judgedZone_of_wanted s.purgesOwed (by rw [zone_purgesOwed, owed]; exact fitted)
      (by rw [zone_purgesOwed, owed]; exact resting) bar (by rw [zone_purgesOwed]; exact wanted) ((occupant_purgesOwed s z).trans empty)]
    exact ⟨rfl, rfl, rfl⟩
  · have owed := owePurge_owed fitted load
    have stays : s.purgesOwed.blastStarts z = false := by
      refine Bool.eq_false_iff.mpr fun starts => ?_
      obtain ⟨-, resting, empty, -⟩ := (blastStarts_iff s.purgesOwed z).mp starts
      rw [zone_purgesOwed, owed] at resting
      rw [occupant_purgesOwed] at empty
      exact why.elim (fun blasting => blasting resting) fun taken => taken empty
    rw [zone_enterIdlePurge, judgedZone_of_not_starts _ (.inr stays), zone_purgesOwed, owed]
  · have stays : s.purgesOwed.blastStarts z = false := by
      refine Bool.eq_false_iff.mpr fun starts => ?_
      obtain ⟨fitted, -⟩ := (blastStarts_iff s.purgesOwed z).mp starts
      rw [zone_purgesOwed, owePurge_unfitted unfitted, unfitted] at fitted
      cases fitted
    rw [zone_enterIdlePurge, judgedZone_of_not_starts _ (.inr stays), zone_purgesOwed, owePurge_unfitted unfitted]
  · rw [zone_enterIdlePurge] at owed
    have before := judgedZone_purge s.purgesOwed owed
    rwa [zone_purgesOwed, owePurge_empty empty] at before
  · rw [zone_enterIdlePurge, judgedZone_load, zone_purgesOwed, (owePurge_keeps _).1]

/-- The line as it enters IDLE, before the zones are told. -/
def State.idled (s : State) : State := (s.setLineState .idle none).notify .slicer .lineIdle

theorem idled_frame : OnlyTouches [.line, .ports] s s.idled := ((setLineState_frame s _ _).within rfl).andThen (notify_frame _ _ _) rfl

theorem idleExpired_eq {d : Nat} (running : s.line.state = .running) (timer : s.line.idleTimer = some d) :
    s.idleExpired = (s.reach d).idled.enterIdlePurge := by
  rw [State.idleExpired, running, timer]
  rfl

/-- Settles O18: the expiry by the zones it owes a purge; activity by what it makes of the line, which nothing after it changes. -/
theorem idlenessFollowsActivity : Obligations.IdlenessFollowsActivity := by
  refine ⟨fun s d running timer => ?_, fun s q step x => ?_, fun s c pending => ?_, fun s l rest differs filter => ?_,
    fun s e downstream => ?_⟩
  · let u := (s.reach d).idled
    have toIdle : OnlyTouches [.now, .totals, .line, .ports] s u := ((reach_frame s d).within rfl).andThen (idled_frame _) rfl
    have purge := enterIdlePurge_frame u
    have zone (z : Zone) : u.zone z = s.zone z := toIdle.zone (by decide) z
    have bar (z : Zone) : u.bar z = s.bar z := toIdle.bar (by decide) z
    have occupant (z : Zone) : u.occupant z = s.occupant z :=
      occupant_eq_of (by rw [zone]) (toIdle .chain (by decide)) (toIdle .queue (by decide)) (toIdle .pos (by decide))
    have zones := enterIdlePurge_zones u
    simp only [zone, bar, occupant] at zones
    rw [← purge .now (by decide)] at zones
    obtain ⟨blasts, owed, unfitted, empty, loads⟩ := zones
    refine ⟨u.enterIdlePurge, congrArg Host.Outcome.next (idleExpired_eq s running timer), ?_, ?_, blasts, owed, unfitted, empty, loads,
      (toIdle.within rfl).andThen purge rfl⟩
    · have line : u.enterIdlePurge.line = u.line := purge .line (by decide)
      have entered : u.line = { (s.reach d).line with
          state := .idle, idleTimer := none, permit := permitOf .idle (s.reach d).line.holds } := rfl
      rw [line, entered, reach_line]
      simp [permitOf]
    · have noticed : Noticed u .slicer .lineIdle := noticed_notify_self _ rfl
      exact Tells.stands (ks := []) (purge.tells (by decide)) noticed
  · have active := (Active.of_line rfl (activity_active (s.forward q))).steady (advanced_steady (s.forward q))
    obtain ⟨stops, restarts, drops⟩ := active
    exact ⟨_, exec_advance s step x, stops, restarts, drops,
      ((setPos_frame s _).within rfl).andThen (advanced_frame (s.forward q)) rfl⟩
  · have expiry := filterExpiry_of_pending s (e := .e0) pending
    let l := otherLevel (s.pos.filters.get .e0).accepted
    obtain ⟨stops, restarts, drops⟩ := Active.of_line (reach_line s c.expiry) (acceptEdge_active (s.reach c.expiry) l c)
    have now : ((s.reach c.expiry).acceptEdge .e0 l c).now = (s.reach c.expiry).now := acceptEdge_frame _ _ _ _ .now (by decide)
    rw [reach_pos, ← now] at restarts
    exact ⟨_, congrArg Host.Outcome.next expiry, stops, restarts, drops⟩
  · obtain ⟨stops, restarts, drops⟩ := acceptEdge_active s l s.openChange
    have opens := (rawLevel_opens s (e := .e0) rest differs).trans (if_pos filter)
    exact ⟨_, congrArg Host.Outcome.next opens, stops, restarts, drops⟩
  · cases change : (s.pos.filters.get e).change with
    | none =>
      refine ⟨s, congrArg Host.Outcome.next ?_, rfl, rfl⟩
      rw [State.filterExpiry, change]
    | some c =>
      have steady := acceptEdge_downstream (s.reach c.expiry) downstream (otherLevel (s.pos.filters.get e).accepted) c
      exact ⟨_, congrArg Host.Outcome.next (filterExpiry_of_pending s change), by rw [steady.state, reach_line],
        by rw [steady.timer, reach_line]⟩

end Sys2Proof.Machine
end

section
/-! SUPPORT. The flush of LINE_RESET: a leave for each record in turn, part by part. -/

namespace Sys2Proof.Machine

variable (s : State)

/-! ## The flush (R86) -/

/-- Records that leave FLUSHED, one after the other. -/
def State.flush (s : State) (rs : List LoafRecord) : State := rs.foldl (fun u r => u.leave r .flushed) s

theorem flush_nil : s.flush [] = s := rfl

theorem flush_cons (r : LoafRecord) (rs : List LoafRecord) : s.flush (r :: rs) = (s.leave r .flushed).flush rs := rfl

section
variable (rs : List LoafRecord)

theorem flush_frame : OnlyTouches queueParts s (s.flush rs) := .foldl _ (fun u r => leave_frame u r .flushed) rs s

theorem flush_steady : Steady s (s.flush rs) := .foldl _ (fun u r => leave_steady u r .flushed) rs s

theorem flush_tells : Tells leaveNotices s (s.flush rs) := .foldl _ (fun u r => leave_tells u r .flushed) rs s

theorem flush_judging {r : State} (h : Judging r s) : Judging r (s.flush rs) := by
  induction rs generalizing s with
  | nil => exact h
  | cons x rs ih => exact ih (s.leave x .flushed) (h.leave s x .flushed)

/-- After the last leave no blast is left to start. -/
theorem flush_settled (some' : rs ≠ []) : Settled (s.flush rs) := by
  induction rs generalizing s with
  | nil => exact absurd rfl some'
  | cons x rs ih =>
    rw [flush_cons]
    by_cases last : rs = []
    · subst last
      exact judgeBlasts_settled (s.left x .flushed)
    · exact ih (s.leave x .flushed) last

/-! ### The queue and the holds -/

theorem flush_queue : ∃ left, (s.flush rs).queue = { s.queue with records := left }
    ∧ ∀ x ∈ left, x ∈ s.queue.records ∧ ∀ r ∈ rs, x.tag ≠ r.tag := by
  induction rs generalizing s with
  | nil => exact ⟨s.queue.records, rfl, fun x hx => ⟨hx, by simp⟩⟩
  | cons r rs ih =>
    obtain ⟨left, queue, gone⟩ := ih (s.leave r .flushed)
    rw [leave_queue] at queue gone
    refine ⟨left, queue, fun x hx => ?_⟩
    obtain ⟨before, others⟩ := gone x hx
    obtain ⟨mem, ne⟩ := List.mem_filter.mp before
    exact ⟨mem, List.forall_mem_cons.mpr ⟨of_decide_eq_true ne, others⟩⟩

/-- The queue is empty once all its records have been flushed. -/
theorem flush_all_queue : (s.flush s.queue.records).queue = { s.queue with records := [] } := by
  obtain ⟨left, queue, gone⟩ := flush_queue s s.queue.records
  have none : left = [] := List.eq_nil_iff_forall_not_mem.mpr fun x hx => (gone x hx).2 x (gone x hx).1 rfl
  rw [queue, none]

theorem held_flush {x : HoldReason} (ne : x ≠ .queueFull) : (s.flush rs).held x = s.held x := by
  induction rs generalizing s with
  | nil => rfl
  | cons r rs ih => rw [flush_cons, ih, held_leave, if_neg fun h => ne h.2]

/-- QUEUE_FULL over the flush of the whole queue: released when the count passes 40 (R84). -/
theorem held_flush_queueFull (all : s.queue.records = rs) (tags : (rs.map LoafRecord.tag).Nodup) :
    (s.flush rs).held .queueFull = if 40 < rs.length then false else s.held .queueFull := by
  induction rs generalizing s with
  | nil => rfl
  | cons r rs ih =>
    have rest : (s.leave r .flushed).queue.records = rs := by
      rw [leave_queue, all]
      exact without_split (before := []) rfl (others_of_split (before := []) rfl tags)
    have fewer : (rs.map LoafRecord.tag).Nodup := (List.nodup_cons.mp tags).2
    rw [flush_cons, ih (s.leave r .flushed) rest fewer, held_leave, rest, List.length_cons]
    by_cases more : 40 < rs.length
    · rw [if_pos more, if_pos (by omega)]
    · rw [if_neg more]
      by_cases falls : rs.length = 40
      · rw [if_pos ⟨falls, rfl⟩, if_pos (by omega)]
      · rw [if_neg fun h => falls h.1, if_neg (by omega)]

/-! ### The recipes -/

theorem setSlot_pitch (i : Fin 16) (x : Slot) :
    (s.setSlot i x).recipes.pitch = s.recipes.pitch ∧ (s.setSlot i x).recipes.selection = s.recipes.selection := ⟨rfl, rfl⟩

theorem leave_pitch (r : LoafRecord) (o : LeaveOutcome) : (s.leave r o).recipes.pitch = s.recipes.pitch := by
  have lowered : ((s.counted r o).lowerInFlight r.slot).recipes.pitch = (s.counted r o).recipes.pitch := by
    unfold State.lowerInFlight
    dsimp only
    split <;> rfl
  rw [leave_after_handedOn s r o .recipes (by decide), ← counted_frame s r o .recipes (by decide)]
  exact lowered

theorem flush_pitch : (s.flush rs).recipes.pitch = s.recipes.pitch := by
  induction rs generalizing s with
  | nil => rfl
  | cons r rs ih => rw [flush_cons, ih, leave_pitch]

/-- The records of a list that refer to a slot. -/
def slotCount (i : Fin 16) (rs : List LoafRecord) : Nat := rs.countP fun r => decide (r.slot = i)

theorem slotCount_cons (i : Fin 16) (r : LoafRecord) (rs : List LoafRecord) :
    slotCount i (r :: rs) = slotCount i rs + if r.slot = i then 1 else 0 := by
  rw [slotCount, List.countP_cons]
  simp [slotCount]

theorem slot_leave_of_other {r : LoafRecord} {i : Fin 16} (o : LeaveOutcome) (ne : ¬ r.slot = i) : (s.leave r o).slot i = s.slot i :=
  slot_leave_of_ne s r o (Ne.symm ne)

/-- The in-flight count of a slot that is not RETIRING falls by the records that refer to it. -/
theorem slot_flush (i : Fin 16) (stands : (s.slot i).state ≠ .retiring) :
    (s.flush rs).slot i = { s.slot i with inFlight := (s.slot i).inFlight - slotCount i rs } := by
  induction rs generalizing s with
  | nil => rfl
  | cons r rs ih =>
    rw [flush_cons, slotCount_cons]
    by_cases here : r.slot = i
    · subst here
      have lowered : (s.leave r .flushed).slot r.slot = { s.slot r.slot with inFlight := (s.slot r.slot).inFlight - 1 } := by
        rw [slot_leave_self, if_neg fun h => stands h.1]
      rw [ih (s.leave r .flushed) (by rw [lowered]; exact stands), lowered, if_pos rfl, Nat.add_comm, ← Nat.sub_sub]
    · have same := slot_leave_of_other s .flushed here
      rw [ih (s.leave r .flushed) (by rw [same]; exact stands), same, if_neg here, Nat.add_zero]

/-- A RETIRING slot becomes EMPTY with the last record that refers to it (R31). -/
theorem slot_flush_retiring (i : Fin 16) (retiring : (s.slot i).state = .retiring) (count : (s.slot i).inFlight = slotCount i rs)
    (some' : 0 < slotCount i rs) :
    (s.flush rs).slot i = { state := .empty, product := none, inFlight := 0 } ∧ Noticed (s.flush rs) .office .recipeFreed := by
  induction rs generalizing s with
  | nil => exact absurd some' (Nat.lt_irrefl 0)
  | cons r rs ih =>
    rw [slotCount_cons] at count some'
    rw [flush_cons]
    by_cases here : r.slot = i
    · subst here
      rw [if_pos rfl] at count some'
      have self := slot_leave_self s r .flushed
      by_cases last : slotCount r.slot rs = 0
      · have gone : (s.slot r.slot).inFlight - 1 = 0 := by omega
        rw [if_pos ⟨retiring, gone⟩, gone] at self
        have freed := leave_freed s .flushed retiring (by omega)
        rw [slot_flush (s.leave r .flushed) rs r.slot (by rw [self]; decide), self]
        exact ⟨by rw [Nat.zero_sub], (flush_tells (s.leave r .flushed) rs).stands freed⟩
      · rw [if_neg fun h => by omega] at self
        exact ih (s.leave r .flushed) (by rw [self]; exact retiring) (by rw [self]; show _ - 1 = _; omega) (by omega)
    · have same := slot_leave_of_other s .flushed here
      rw [if_neg here] at count some'
      exact ih (s.leave r .flushed) (by rw [same]; exact retiring) (by rw [same]; exact count) some'

/-! ### The bag unit, the counts and the schedule's own fields -/

theorem flush_bag : ∃ ties flight, (s.flush rs).bag = { s.bag with pendingTies := ties, tieInFlight := flight } := by
  induction rs generalizing s with
  | nil => exact ⟨s.bag.pendingTies, s.bag.tieInFlight, rfl⟩
  | cons r rs ih =>
    obtain ⟨ties, flight, bag⟩ := ih (s.leave r .flushed)
    rw [leave_bag] at bag
    exact ⟨ties, flight, bag⟩

theorem countLeave_blasts (x : ShiftRecord) (code : Option Nat) (r : LoafRecord) (o : LeaveOutcome) :
    (x.countLeave code r o).blasts0 = x.blasts0 ∧ (x.countLeave code r o).blasts1 = x.blasts1 := by
  unfold ShiftRecord.countLeave
  cases code with
  | none => exact ⟨rfl, rfl⟩
  | some c =>
    dsimp only
    split
    · exact ⟨rfl, rfl⟩
    · split <;> exact ⟨rfl, rfl⟩

/-- A leave counts no blast. -/
theorem flush_blasts :
    (s.flush rs).totals.openShift.blasts0 = s.totals.openShift.blasts0
      ∧ (s.flush rs).totals.openShift.blasts1 = s.totals.openShift.blasts1 := by
  induction rs generalizing s with
  | nil => exact ⟨rfl, rfl⟩
  | cons r rs ih =>
    obtain ⟨b0, b1⟩ := ih (s.leave r .flushed)
    rw [leave_totals_eq] at b0 b1
    obtain ⟨k0, k1⟩ := countLeave_blasts s.totals.openShift ((s.slot r.slot).product.map Product.code) r .flushed
    exact ⟨b0.trans k0, b1.trans k1⟩

end

/-- Only the entries of the schedule are written. -/
def EntriesOnly (x y : RunSchedule) : Prop := ∃ es, y = { x with entries := es } ∧ es.map Entry.id = x.entries.map Entry.id

theorem EntriesOnly.refl (x : RunSchedule) : EntriesOnly x x := ⟨x.entries, rfl, rfl⟩

theorem EntriesOnly.trans {x y z : RunSchedule} (h : EntriesOnly x y) (k : EntriesOnly y z) : EntriesOnly x z := by
  obtain ⟨es, rfl, ids⟩ := h
  obtain ⟨fs, rfl, ids'⟩ := k
  exact ⟨fs, rfl, ids'.trans ids⟩

theorem updateEntry_entriesOnly (id : Nat) (f : Entry → Entry) (same : ∀ x, (f x).id = x.id) :
    EntriesOnly s.schedule (s.updateEntry id f).schedule :=
  ⟨_, rfl, ids_map fun x => by split <;> first | exact same x | rfl⟩

theorem closeEntry_entriesOnly (id : Nat) : EntriesOnly s.schedule (s.closeEntry id).schedule := by
  unfold State.closeEntry
  split
  · split
    · exact updateEntry_entriesOnly s id (fun e => { e with state := .closed }) fun _ => rfl
    · exact .refl _
  · exact .refl _

theorem leave_entriesOnly (r : LoafRecord) (o : LeaveOutcome) : EntriesOnly s.schedule (s.leave r o).schedule := by
  rw [leave_schedule]
  unfold State.countInEntry
  split
  · rename_i id _
    have counts := updateEntry_entriesOnly (s.countLeave r o) id (fun e => { e.countLeave r o with carried := e.carried - 1 })
      fun x => (Entry.countLeave_keeps x r o).1
    exact counts.trans (closeEntry_entriesOnly _ id)
  · exact .refl _

theorem flush_entriesOnly (rs : List LoafRecord) : EntriesOnly s.schedule (s.flush rs).schedule := by
  induction rs generalizing s with
  | nil => exact .refl _
  | cons r rs ih => exact (leave_entriesOnly s r .flushed).trans (ih (s.leave r .flushed))

/-! ### The entries (R105) -/

theorem mem_updateEntry_of_ne {id : Nat} {f : Entry → Entry} {e : Entry} (mem : e ∈ s.schedule.entries) (ne : e.id ≠ id) :
    e ∈ (s.updateEntry id f).schedule.entries := List.mem_map.mpr ⟨e, mem, if_neg ne⟩

theorem mem_closeEntry_of_ne {id : Nat} {e : Entry} (mem : e ∈ s.schedule.entries) (ne : e.id ≠ id) :
    e ∈ (s.closeEntry id).schedule.entries := by
  unfold State.closeEntry
  split
  · split
    · exact mem_updateEntry_of_ne s mem ne
    · exact mem
  · exact mem

/-- A leave under another id, or under none, leaves an entry as it is. -/
theorem leave_entry_of_ne {r : LoafRecord} {e : Entry} (o : LeaveOutcome) (mem : e ∈ s.schedule.entries) (ne : r.entry ≠ some e.id) :
    e ∈ (s.leave r o).schedule.entries := by
  rw [leave_schedule]
  unfold State.countInEntry
  split
  · rename_i id entry
    have other : e.id ≠ id := fun same => ne (by rw [entry, same])
    exact mem_closeEntry_of_ne _ (mem_updateEntry_of_ne (s.countLeave r o) mem other) other
  · exact mem

/-- A leave under an entry's id. -/
theorem leave_entry_of_eq {r : LoafRecord} {e : Entry} (o : LeaveOutcome) (mem : e ∈ s.schedule.entries) (entry : r.entry = some e.id)
    (ids : (s.schedule.entries.map Entry.id).Nodup) : e.left r o ∈ (s.leave r o).schedule.entries := by
  rw [leave_schedule, countInEntry_schedule (s := s.countLeave r o) entry mem ids]
  exact List.mem_map.mpr ⟨e, mem, if_pos rfl⟩

/-- The records of a list that carry an id. -/
def entryCount (id : Nat) (rs : List LoafRecord) : Nat := rs.countP fun r => decide (r.entry = some id)

theorem entryCount_cons (id : Nat) (r : LoafRecord) (rs : List LoafRecord) :
    entryCount id (r :: rs) = entryCount id rs + if r.entry = some id then 1 else 0 := by
  rw [entryCount, List.countP_cons]
  simp [entryCount]

/-- An entry after the flush: fewer carried, and CLOSED where it was FILLED and its records are all flushed. -/
theorem entry_flush (rs : List LoafRecord) : ∀ (s : State) (e : Entry), e ∈ s.schedule.entries →
    (s.schedule.entries.map Entry.id).Nodup →
    ∃ x ∈ (s.flush rs).schedule.entries, x.id = e.id ∧ x.carried = e.carried - entryCount e.id rs
      ∧ (e.state ≠ .filled → x.state = e.state)
      ∧ (e.state = .filled → 0 < entryCount e.id rs → e.carried ≤ entryCount e.id rs →
          x.state = .closed ∧ Noticed (s.flush rs) .office .entryClosed) := by
  induction rs with
  | nil => exact fun s e mem _ => ⟨e, mem, rfl, rfl, fun _ => rfl, fun _ some' => absurd some' (Nat.lt_irrefl 0)⟩
  | cons r rs ih =>
    intro s e mem ids
    have idsThen : ((s.leave r .flushed).schedule.entries.map Entry.id).Nodup := by
      obtain ⟨es, schedule, same⟩ := leave_entriesOnly s r .flushed
      rw [schedule, same]
      exact ids
    rw [flush_cons, entryCount_cons]
    by_cases here : r.entry = some e.id
    · rw [if_pos here]
      have left := Entry.left_eq e r .flushed
      have id : (e.left r .flushed).id = e.id := by rw [left]; exact (Entry.countLeave_keeps e r .flushed).1
      have carried : (e.left r .flushed).carried = e.carried - 1 := by rw [left]
      have state : (e.left r .flushed).state = if e.state = .filled ∧ e.carried ≤ 1 then .closed else e.state := by rw [left]
      obtain ⟨x, hx, same, count, stands, closes⟩ := ih (s.leave r .flushed) (e.left r .flushed) (leave_entry_of_eq s .flushed mem here ids)
        idsThen
      rw [id] at same count closes
      rw [carried] at count closes
      rw [state] at stands closes
      refine ⟨x, hx, same, by omega, fun other => ?_, fun filled _ all => ?_⟩
      · rw [if_neg fun h => other h.1] at stands
        exact stands other
      · by_cases last : e.carried ≤ 1
        · rw [if_pos ⟨filled, last⟩] at stands
          exact ⟨stands (by decide), (flush_tells _ rs).stands (leave_entryClosed here mem ids .flushed filled last)⟩
        · rw [if_neg fun h => last h.2] at closes
          exact closes filled (by omega) (by omega)
    · rw [if_neg here, Nat.add_zero]
      exact ih (s.leave r .flushed) e (leave_entry_of_ne s .flushed mem here) idsThen

end Sys2Proof.Machine
end

section
/-! SUPPORT. LINE_RESET: the flush beside one of the line not yet stopped, the blasts cut, and the parts of the other blocks. -/

namespace Sys2Proof.Machine

variable (s : State)

/-! ## A flush reads nothing of the line's state -/

/-- Two states agree in what a leave hands on. -/
structure SameToFlush (s t : State) : Prop where
  totals : t.totals = s.totals
  schedule : t.schedule = s.schedule
  slots : ∀ i, t.slot i = s.slot i
  records : t.queue.records = s.queue.records
  full : t.held .queueFull = s.held .queueFull

theorem entry?_of_schedule {s t : State} (same : t.schedule = s.schedule) (id : Nat) : t.entry? id = s.entry? id := by
  rw [State.entry?, same]; rfl

theorem updateEntry_schedule_congr {s t : State} (same : t.schedule = s.schedule) (id : Nat) (f : Entry → Entry) :
    (t.updateEntry id f).schedule = (s.updateEntry id f).schedule := by
  show ({ t.schedule with entries := _ } : RunSchedule) = _
  rw [same]; rfl

theorem closeEntry_schedule_congr {s t : State} (same : t.schedule = s.schedule) (id : Nat) :
    (t.closeEntry id).schedule = (s.closeEntry id).schedule := by
  unfold State.closeEntry
  rw [entry?_of_schedule same]
  cases s.entry? id with
  | none => exact same
  | some e =>
    dsimp only
    split
    · exact updateEntry_schedule_congr same id _
    · exact same

theorem countInEntry_schedule_congr {s t : State} (same : t.schedule = s.schedule) (r : LoafRecord) (o : LeaveOutcome) :
    (t.countInEntry r o).schedule = (s.countInEntry r o).schedule := by
  unfold State.countInEntry
  cases r.entry with
  | none => exact same
  | some id => exact closeEntry_schedule_congr (updateEntry_schedule_congr same id _) id

theorem SameToFlush.leave {s t : State} (h : SameToFlush s t) (r : LoafRecord) (o : LeaveOutcome) :
    SameToFlush (s.leave r o) (t.leave r o) where
  totals := by rw [leave_totals_eq, leave_totals_eq, h.totals, h.slots]
  schedule := by
    rw [leave_schedule, leave_schedule]
    exact countInEntry_schedule_congr (s := s.countLeave r o) (t := t.countLeave r o) h.schedule r o
  slots i := by
    by_cases here : r.slot = i
    · subst here
      rw [slot_leave_self, slot_leave_self, h.slots]
    · rw [slot_leave_of_other s o here, slot_leave_of_other t o here, h.slots]
  records := by rw [leave_records, leave_records, h.records]
  full := by rw [held_leave, held_leave, leave_records, leave_records, h.records, h.full]

theorem SameToFlush.flush {s t : State} (h : SameToFlush s t) (rs : List LoafRecord) : SameToFlush (s.flush rs) (t.flush rs) := by
  induction rs generalizing s t with
  | nil => exact h
  | cons r rs ih => exact ih (h.leave r .flushed)

/-! ## The blasts cut (R141) -/

/-- A zone after its running blast has been cut and a new start judged. -/
def State.cutZone (s : State) (z : Zone) : ZoneState :=
  if (s.zone z).blastEnd = none then s.zone z else (s.setZone z (s.zone z).rest).judgedZone z

theorem cutBlast_resting {z : Zone} (resting : (s.zone z).blastEnd = none) : s.cutBlast z = s := by rw [State.cutBlast, resting]

theorem cutBlast_blasting {z : Zone} (blasting : (s.zone z).blastEnd ≠ none) :
    s.cutBlast z = (s.setZone z (s.zone z).rest).judgeBlast z := by
  obtain ⟨d, running⟩ := Option.ne_none_iff_exists'.mp blasting
  rw [State.cutBlast, running]

theorem zone_cutBlast_self (z : Zone) : (s.cutBlast z).zone z = s.cutZone z := by
  unfold State.cutZone
  by_cases resting : (s.zone z).blastEnd = none
  · rw [if_pos resting, cutBlast_resting s resting]
  · rw [if_neg resting, cutBlast_blasting s resting, zone_judgeBlast_self]

theorem zone_cutBlast_of_ne {z w : Zone} (ne : w ≠ z) : (s.cutBlast z).zone w = s.zone w := by
  by_cases resting : (s.zone z).blastEnd = none
  · rw [cutBlast_resting s resting]
  · rw [cutBlast_blasting s resting, zone_judgeBlast_of_ne _ ne, zone_setZone_of_ne s z w _ ne]

theorem occupant_of_records {s t : State} {z : Zone} (fitted : (t.zone z).fitted = (s.zone z).fitted) (chain : t.chain = s.chain)
    (records : t.queue.records = s.queue.records) (pos : t.pos = s.pos) : t.occupant z = s.occupant z := by
  rw [State.occupant, fitted, bar_of_chain chain, records, pos]; rfl

/-- What the cut of a zone looks at. -/
theorem cutZone_congr {s t : State} {z : Zone} (zone : t.zone z = s.zone z) (chain : t.chain = s.chain)
    (records : t.queue.records = s.queue.records) (pos : t.pos = s.pos) (now : t.now = s.now) : t.cutZone z = s.cutZone z := by
  have occupant : (t.setZone z (s.zone z).rest).occupant z = (s.setZone z (s.zone z).rest).occupant z :=
    occupant_of_records (by rw [zone_setZone_self, zone_setZone_self]) chain records pos
  have bar : (t.setZone z (s.zone z).rest).bar z = (s.setZone z (s.zone z).rest).bar z := bar_of_chain chain z
  have judged : (t.setZone z (s.zone z).rest).judgedZone z = (s.setZone z (s.zone z).rest).judgedZone z := by
    unfold State.judgedZone State.blastStarts
    rw [bar, occupant, zone_setZone_self, zone_setZone_self, setZone_now, setZone_now, now]
  unfold State.cutZone
  rw [zone, judged]

/-- Cutting both zones cuts each. -/
theorem zone_cutBlasts (z : Zone) : ((s.cutBlast .z0).cutBlast .z1).zone z = s.cutZone z := by
  cases z with
  | z0 => rw [zone_cutBlast_of_ne _ (by decide), zone_cutBlast_self]
  | z1 =>
    have frame := cutBlast_frame s .z0
    rw [zone_cutBlast_self]
    exact cutZone_congr (zone_cutBlast_of_ne s (by decide)) (frame .chain (by decide))
      (congrArg TrackingQueue.records (frame.sameQueue (by decide))) (frame .pos (by decide)) (frame .now (by decide))

/-- The cut keeps all of a zone but its blast, and owes no purge. -/
theorem cutZone_keeps (z : Zone) :
    (s.cutZone z).load = (s.zone z).load ∧ (s.cutZone z).fitted = (s.zone z).fitted ∧ (s.cutZone z).soft = (s.zone z).soft
      ∧ (s.cutZone z).hard = (s.zone z).hard ∧ (s.cutZone z).manualClear = (s.zone z).manualClear
      ∧ ((s.cutZone z).purgeOwed = true → (s.zone z).purgeOwed = true) := by
  unfold State.cutZone
  split
  · exact ⟨rfl, rfl, rfl, rfl, rfl, id⟩
  · have rest := zone_setZone_self s z (s.zone z).rest
    obtain ⟨soft, hard, manual, -⟩ := judgedZone_keeps (s.setZone z (s.zone z).rest) z
    refine ⟨?_, ?_, ?_, ?_, ?_, fun owed => ?_⟩
    · rw [judgedZone_load, rest]; rfl
    · rw [judgedZone_fitted, rest]; rfl
    · rw [soft, rest]; rfl
    · rw [hard, rest]; rfl
    · rw [manual, rest]; rfl
    · have before := judgedZone_purge _ owed
      rw [rest] at before
      exact before

section
variable {s : State} {z : Zone} {b : Bar}

/-- With no loaf in the queue a zone is clear. -/
theorem occupant_of_empty (empty : s.queue.records = []) (z : Zone) : s.occupant z = none := by
  rw [occupant_eq_none_iff, empty]
  exact fun _ _ _ r hr => by cases hr

/-- A running blast wanted is cut and starts afresh where no loaf is left. -/
theorem cutZone_restarts (bar : s.bar z = some b) (fitted : (s.zone z).fitted = true) (blasting : (s.zone z).blastEnd ≠ none)
    (wanted : (s.zone z).wanted = true) (empty : s.queue.records = []) :
    (s.cutZone z).blastEnd = some (s.now + b.blastTime) ∧ (s.cutZone z).valve = .driven := by
  have rest := zone_setZone_self s z (s.zone z).rest
  have clear : (s.setZone z (s.zone z).rest).occupant z = none := occupant_of_empty (s := s.setZone z (s.zone z).rest) empty z
  rw [State.cutZone, if_neg blasting, judgedZone_of_wanted (s.setZone z (s.zone z).rest) (b := b) (by rw [rest]; exact fitted)
    (by rw [rest]; rfl) bar (by rw [rest]; exact wanted) clear]
  exact ⟨rfl, rfl⟩

/-- A running blast no longer wanted is cut for good. -/
theorem cutZone_rests (blasting : (s.zone z).blastEnd ≠ none) (unwanted : ¬ (s.zone z).wanted = true) :
    (s.cutZone z).blastEnd = none ∧ (s.cutZone z).valve = .released := by
  have rest := zone_setZone_self s z (s.zone z).rest
  rw [State.cutZone, if_neg blasting, judgedZone_of_unwanted (s.setZone z (s.zone z).rest) (.inl (by rw [rest]; exact unwanted)), rest]
  exact ⟨rfl, rfl⟩

theorem cutZone_resting (resting : (s.zone z).blastEnd = none) : s.cutZone z = s.zone z := if_pos resting

end

/-! ## The line stopped and the queue flushed -/

/-- The state in which the line has stopped and every record has left FLUSHED. -/
def State.stopFlushed (s : State) : State := s.stopLine.flush s.queue.records

theorem stopLine_line : s.stopLine.line = { state := .stopped, idleTimer := none, holds := s.line.holds, permit := .released } := by
  rw [stopLine_eq]; rfl

theorem zone_stopLine (z : Zone) : s.stopLine.zone z = { s.zone z with purgeOwed := false } := by
  rw [stopLine_eq]
  cases z <;> rfl

theorem stopLine_held (r : HoldReason) : s.stopLine.held r = s.held r := by
  rw [State.held, stopLine_line]; rfl

theorem stopLine_sameToFlush : SameToFlush s s.stopLine where
  totals := stopLine_frame s .totals (by decide)
  schedule := stopLine_frame s .schedule (by decide)
  slots i := (stopLine_frame s).slot (by decide) i
  records := congrArg TrackingQueue.records ((stopLine_frame s).sameQueue (by decide))
  full := stopLine_held s _

theorem stopFlushed_frame : OnlyTouches queueParts s s.stopFlushed :=
  ((stopLine_frame s).within rfl).andThen (flush_frame _ _) rfl

theorem stopFlushed_queue : s.stopFlushed.queue = { s.queue with records := [] } := by
  have queue : s.stopLine.queue = s.queue := (stopLine_frame s).sameQueue (by decide)
  have all := flush_all_queue s.stopLine
  rw [queue] at all
  exact all

theorem stopFlushed_judging : Judging s.stopLine s.stopFlushed := flush_judging s.stopLine _ (.refl _)

/-- A zone whose blast does not run once the queue has been flushed did not blast before, and none was wanted or no record left. -/
theorem stopFlushed_resting {z : Zone} {b : Bar} (bar : s.bar z = some b) (fitted : (s.zone z).fitted = true)
    (wanted : (s.stopLine.zone z).wanted = true) (some' : (s.zone z).blastEnd ≠ none ∨ s.queue.records ≠ []) :
    (s.stopFlushed.zone z).blastEnd ≠ none := by
  intro resting
  have frame := stopFlushed_frame s
  obtain same | ⟨d, -, -, -, -, -, started⟩ := stopFlushed_judging s z
  · rw [same, zone_stopLine] at resting
    have records := some'.resolve_left fun blasting => blasting resting
    obtain none | stays := flush_settled s.stopLine s.queue.records records z
    · have barThen : s.stopFlushed.bar z = s.bar z := frame.bar (by decide) z
      rw [← barThen] at bar
      exact absurd (none.symm.trans bar) (by simp)
    · have starts : s.stopFlushed.blastStarts z = true := by
        rw [blastStarts_iff, same]
        refine ⟨by rw [zone_stopLine]; exact fitted, by rw [zone_stopLine]; exact resting, ?_, wanted⟩
        exact occupant_of_empty (congrArg TrackingQueue.records (stopFlushed_queue s)) z
      exact absurd (starts.symm.trans stays) (by decide)
  · rw [started] at resting
    cases resting

/-- A zone in which no blast is wanted, or whose queue was empty, keeps its blast through the flush. -/
theorem stopFlushed_keeps {z : Zone} (why : ¬ (s.stopLine.zone z).wanted = true ∨ s.queue.records = []) :
    s.stopFlushed.zone z = s.stopLine.zone z := by
  obtain unwanted | empty := why
  · obtain same | ⟨-, -, -, -, wanted, -⟩ := stopFlushed_judging s z
    · exact same
    · exact absurd wanted unwanted
  · rw [State.stopFlushed, empty, flush_nil]

/-! ## LINE_RESET (R151) -/

/-- The queue, the pending selection, the schedule and the tyer have taken their parts; the blasts run yet. -/
def State.resetParts (s : State) : State :=
  let t := ((((s.stopFlushed).setGate .reject .released).setGate .exit .released).setSelection none).suspendSchedule
  t.setBag t.bag.lineReset

theorem resetLine_eq : s.resetLine = (s.resetParts.cutBlast .z0).cutBlast .z1 := rfl

/-- The state before the schedule is suspended. -/
def State.unselected (s : State) : State := (((s.stopFlushed).setGate .reject .released).setGate .exit .released).setSelection none

theorem resetParts_eq : s.resetParts = s.unselected.suspendSchedule.setBag s.unselected.suspendSchedule.bag.lineReset := rfl

theorem unselected_frame : OnlyTouches [.queue, .recipes] s.stopFlushed s.unselected :=
  (((setGate_frame _ _ _).within rfl).andThen (setGate_frame _ _ _) rfl).andThen (setSelection_frame _ _) rfl

theorem resetParts_frame : OnlyTouches [.queue, .recipes, .schedule, .ports, .bag] s.stopFlushed s.resetParts := by
  rw [resetParts_eq]
  exact (((unselected_frame s).within rfl).andThen (suspendSchedule_frame _) rfl).andThen (setBag_frame _ _) rfl

theorem cutBlasts_frame (t : State) : OnlyTouches [.crumb] t ((t.cutBlast .z0).cutBlast .z1) :=
  (cutBlast_frame t .z0).trans (cutBlast_frame _ .z1)

theorem resetLine_after_flush : OnlyTouches [.queue, .recipes, .schedule, .ports, .bag, .crumb] s.stopFlushed s.resetLine :=
  ((resetParts_frame s).within rfl).andThen (cutBlasts_frame s.resetParts) rfl

theorem resetLine_queue :
    s.resetLine.queue = { records := [], tagCounter := s.queue.tagCounter, rejectGate := .released, exitGate := .released } := by
  have parts : s.resetParts.queue = s.unselected.queue := by
    rw [resetParts_eq, setBag_queue, (suspendSchedule_frame _).sameQueue (by decide)]
  have gates : s.unselected.queue = { s.stopFlushed.queue with rejectGate := .released, exitGate := .released } := rfl
  rw [resetLine_eq, (cutBlasts_frame _).sameQueue (by decide), parts, gates, stopFlushed_queue]

theorem resetLine_recipes : s.resetLine.recipes = { s.stopFlushed.recipes with selection := none } := by
  have parts : s.resetParts.recipes = s.unselected.recipes := by
    rw [resetParts_eq, setBag_recipes, suspendSchedule_frame _ .recipes (by decide)]
  have cut : s.resetLine.recipes = s.resetParts.recipes := cutBlasts_frame s.resetParts .recipes (by decide)
  rw [cut, parts]; rfl

theorem resetLine_schedule : s.resetLine.schedule = { s.stopFlushed.schedule with
    state := if s.stopFlushed.schedule.state = .active then .suspended else s.stopFlushed.schedule.state } := by
  have cut : s.resetLine.schedule = s.resetParts.schedule := cutBlasts_frame s.resetParts .schedule (by decide)
  have parts : s.resetParts.schedule = s.unselected.suspendSchedule.schedule := rfl
  have before : s.unselected.schedule = s.stopFlushed.schedule := unselected_frame s .schedule (by decide)
  rw [cut, parts, suspendSchedule_schedule, before]

theorem bag_lineReset (b : BagClipUnit) : b.lineReset =
    { b with
      pendingTies := []
      tyer := if b.tyer = .firing then .ready else b.tyer
      tieInFlight := none
      fireLine := .released } := by
  unfold BagClipUnit.lineReset
  cases b.tyer <;> rfl

theorem resetLine_bag : s.resetLine.bag = { s.bag with
    pendingTies := []
    tyer := if s.bag.tyer = .firing then .ready else s.bag.tyer
    tieInFlight := none
    fireLine := .released } := by
  have cut : s.resetLine.bag = s.resetParts.bag := (cutBlasts_frame s.resetParts).sameBag (by decide)
  have parts : s.resetParts.bag = s.unselected.suspendSchedule.bag.lineReset := rfl
  have before : s.unselected.suspendSchedule.bag = s.stopFlushed.bag := by
    rw [(suspendSchedule_frame _).sameBag (by decide), (unselected_frame s).sameBag (by decide)]
  obtain ⟨ties, flight, flushed⟩ := flush_bag s.stopLine s.queue.records
  have stopped : s.stopLine.bag = s.bag := (stopLine_frame s).sameBag (by decide)
  rw [stopped] at flushed
  rw [cut, parts, before, State.stopFlushed, flushed, bag_lineReset]

theorem zone_resetLine (z : Zone) : s.resetLine.zone z = s.stopFlushed.cutZone z := by
  have frame := resetParts_frame s
  have zone : s.resetParts.zone z = s.stopFlushed.zone z := frame.zone (by decide) z
  have records : s.resetParts.queue.records = s.stopFlushed.queue.records := by
    rw [resetParts_eq, setBag_queue, (suspendSchedule_frame _).sameQueue (by decide)]; rfl
  rw [resetLine_eq, zone_cutBlasts]
  exact cutZone_congr zone (frame .chain (by decide)) records (frame .pos (by decide)) (frame .now (by decide))

theorem resetLine_steady : Steady s.stopLine s.resetLine := by
  have parts : Steady s.stopFlushed s.resetParts := (resetParts_frame s).steady (by decide)
  have flushed : Steady s.stopLine s.stopFlushed := flush_steady s.stopLine _
  have line : s.resetLine.line = s.resetParts.line := cutBlasts_frame s.resetParts .line (by decide)
  have both := flushed.trans parts
  refine ⟨by rw [line, both.state], by rw [line, both.timer], fun stopped released => by rw [line]; exact both.permit stopped released,
    fun z owed => ?_⟩
  rw [zone_resetLine] at owed
  exact flushed.purges z ((cutZone_keeps s.stopFlushed z).2.2.2.2.2 owed)

theorem resetLine_tells : Tells (.scheduleSuspended :: leaveNotices) s s.resetLine := by
  have stopped : Tells (.scheduleSuspended :: leaveNotices) s s.stopLine := (stopLine_frame s).tells (by decide)
  have flushed := (flush_tells s.stopLine s.queue.records).within (ls := .scheduleSuspended :: leaveNotices) (List.subset_cons_self ..)
  have unselected : Tells (.scheduleSuspended :: leaveNotices) s.stopFlushed s.unselected := (unselected_frame s).tells (by decide)
  have suspended := (suspendSchedule_tells s.unselected).within (ls := .scheduleSuspended :: leaveNotices) (by decide)
  have parts : Tells (.scheduleSuspended :: leaveNotices) s.unselected.suspendSchedule s.resetParts := (setBag_frame _ _).tells (by decide)
  exact ((((stopped.trans flushed).trans unselected).trans suspended).trans parts).trans ((cutBlasts_frame s.resetParts).tells (by decide))

theorem resetLine_after_flush_tells {p : Port} {k : NoticeKind} (told : Noticed s.stopFlushed p k) : Noticed s.resetLine p k := by
  have unselected : Tells [.scheduleSuspended] s.stopFlushed s.unselected := (unselected_frame s).tells (by decide)
  have parts : Tells [.scheduleSuspended] s.unselected.suspendSchedule s.resetParts := (setBag_frame _ _).tells (by decide)
  exact (((unselected.trans (suspendSchedule_tells _)).trans parts).trans ((cutBlasts_frame s.resetParts).tells (by decide))).stands told

/-- The flush of the statement, of the line as it was, and the one of the line stopped hand on the same. -/
theorem stopFlushed_same : SameToFlush (s.flush s.queue.records) s.stopFlushed := (stopLine_sameToFlush s).flush _

/-- LINE_RESET answers with the line STOPPED, the queue empty and the permit RELEASED. -/
theorem lineResetReply_eq :
    lineResetReply s =
      { state := s.resetLine, result := .ok, body := u8 0 ++ u8 0 ++ set16 s.resetLine.line.holds ++ u8 0 } := by
  have steady := resetLine_steady s
  have state : s.resetLine.line.state = .stopped := by rw [steady.state, stopLine_line]
  have permit : s.resetLine.line.permit = .released := steady.permit (by rw [stopLine_line]) (by rw [stopLine_line])
  have count : s.resetLine.queueCount = 0 := by rw [State.queueCount, resetLine_queue]; rfl
  rw [lineResetReply, state, count, State.holdReplyBytes, State.holdBytes, permit, ← List.append_assoc]
  rfl

/-- The zones after LINE_RESET keep all but their blast, and are owed no purge. -/
theorem resetLine_zone_keeps (z : Zone) :
    (s.resetLine.zone z).load = (s.zone z).load ∧ (s.resetLine.zone z).purgeOwed = false
      ∧ (s.resetLine.zone z).fitted = (s.zone z).fitted ∧ (s.resetLine.zone z).soft = (s.zone z).soft
      ∧ (s.resetLine.zone z).hard = (s.zone z).hard ∧ (s.resetLine.zone z).manualClear = (s.zone z).manualClear := by
  obtain ⟨load, fitted, soft, hard, manual, -⟩ := cutZone_keeps s.stopFlushed z
  have before : (s.stopFlushed.zone z).soft = (s.zone z).soft ∧ (s.stopFlushed.zone z).hard = (s.zone z).hard
      ∧ (s.stopFlushed.zone z).manualClear = (s.zone z).manualClear ∧ (s.stopFlushed.zone z).load = (s.zone z).load
      ∧ (s.stopFlushed.zone z).fitted = (s.zone z).fitted := by
    obtain same | ⟨d, -, -, -, -, -, started⟩ := stopFlushed_judging s z
    · rw [same, zone_stopLine]; exact ⟨rfl, rfl, rfl, rfl, rfl⟩
    · rw [started, zone_stopLine]; exact ⟨rfl, rfl, rfl, rfl, rfl⟩
  obtain ⟨soft', hard', manual', load', fitted'⟩ := before
  refine ⟨by rw [zone_resetLine, load, load'], ?_, by rw [zone_resetLine, fitted, fitted'], by rw [zone_resetLine, soft, soft'],
    by rw [zone_resetLine, hard, hard'], by rw [zone_resetLine, manual, manual']⟩
  by_contra owed
  have owed := (resetLine_steady s).purges z (by simpa using owed)
  rw [zone_stopLine] at owed
  cases owed

/-- The blast of a fitted zone after LINE_RESET (R135, R141). -/
theorem resetLine_blast {z : Zone} {b : Bar} (bar : s.bar z = some b) (fitted : (s.zone z).fitted = true) :
    let wanted := (s.zone z).soft ≤ (s.zone z).load ∨ (s.zone z).manualClear = true
    (wanted → (s.zone z).blastEnd ≠ none ∨ s.queue.records ≠ [] →
        (s.resetLine.zone z).blastEnd = some (s.now + b.blastTime) ∧ (s.resetLine.zone z).valve = .driven)
      ∧ (¬wanted → (s.zone z).blastEnd ≠ none →
        (s.resetLine.zone z).blastEnd = none ∧ (s.resetLine.zone z).valve = .released)
      ∧ ((s.zone z).blastEnd = none → ¬wanted ∨ s.queue.records = [] →
        (s.resetLine.zone z).blastEnd = none ∧ (s.resetLine.zone z).valve = (s.zone z).valve) := by
  intro wanted
  have frame := stopFlushed_frame s
  have wantedThen : (s.stopLine.zone z).wanted = true ↔ wanted := by
    rw [zone_stopLine, wanted_iff]
    simp [wanted]
  rw [zone_resetLine]
  refine ⟨fun wants some' => ?_, fun unwanted blasting => ?_, fun resting why => ?_⟩
  · have blasting := stopFlushed_resting s bar fitted (wantedThen.mpr wants) some'
    have wantsThen : (s.stopFlushed.zone z).wanted = true := by
      obtain same | ⟨d, -, -, -, -, -, started⟩ := stopFlushed_judging s z
      · rw [same]; exact wantedThen.mpr wants
      · rw [started, zone_stopLine, wanted_iff]
        exact wants.imp_right .inl
    have fittedThen : (s.stopFlushed.zone z).fitted = true := by
      rw [(stopFlushed_judging s).fitted, zone_stopLine]; exact fitted
    have barThen : s.stopFlushed.bar z = some b := (frame.bar (by decide) z).trans bar
    have restarts := cutZone_restarts barThen fittedThen blasting wantsThen (congrArg TrackingQueue.records (stopFlushed_queue s))
    rw [frame .now (by decide)] at restarts
    exact restarts
  · have keeps := stopFlushed_keeps s (.inl (mt wantedThen.mp unwanted))
    exact cutZone_rests (by rw [keeps, zone_stopLine]; exact blasting) (by rw [keeps]; exact mt wantedThen.mp unwanted)
  · have keeps := stopFlushed_keeps s (why.imp_left (mt wantedThen.mp))
    rw [cutZone_resting (by rw [keeps, zone_stopLine]; exact resting), keeps, zone_stopLine]
    exact ⟨resting, rfl⟩

/-- Settles O17: the line stopped, a leave for each record in turn, the other blocks' parts, and the blasts cut. -/
theorem lineResetFlushes : Obligations.LineResetFlushes := by
  intro s p seq other
  let t := s.resetLine
  let body := u8 0 ++ u8 0 ++ set16 t.line.holds ++ u8 0
  let u := t.respond p (BitVec.ofNat 8 RequestKind.lineReset.code) seq .ok body
  have answer : OnlyTouches [.ports] t u := respond_frame _ _ _ _ _ _
  have answers : Tells [] t u := respond_tells _ _ _ _ _ _ _
  have after := resetLine_after_flush s
  have steady := resetLine_steady s
  have flushed := stopFlushed_same s
  obtain ⟨es, schedule, -⟩ := flush_entriesOnly s.stopLine s.queue.records
  have schedule : s.stopFlushed.schedule = { s.schedule with entries := es } := by
    rw [State.stopFlushed, schedule, stopLine_frame s .schedule (by decide)]
  have slot (i : Fin 16) : t.slot i = s.stopFlushed.slot i := by
    show t.recipes.slots.get i = _
    rw [resetLine_recipes]; rfl
  have held (r : HoldReason) : t.held r = s.stopFlushed.held r := after.held (by decide) r
  have told (k : NoticeKind) (p : Port) (untold : k ∉ NoticeKind.scheduleSuspended :: leaveNotices) : Noticed u p k ↔ Noticed s p k :=
    (answers.untold p (List.not_mem_nil)).trans ((resetLine_tells s).untold p untold)
  refine ⟨u, next_answer s seq (permitted_slicerOffice rfl other) (lineResetReply_eq s), ?_⟩
  refine ⟨steady.state.trans (by rw [stopLine_line]), steady.timer.trans (by rw [stopLine_line]),
    steady.permit (by rw [stopLine_line]) (by rw [stopLine_line]), resetLine_queue s, ?_, fun counts i => ?_, fun ids e mem => ?_,
    fun tags => ?_, told .lostLoaf .office (by decide), told .bagWithdrawn .bagger (by decide), ?_, ?_, ?_, fun active => ?_, ?_, ?_,
    resetLine_bag s, resetLine_zone_keeps s, fun z b bar fitted => resetLine_blast s bar fitted, ?_, ?_, fun r ne => ?_,
    respond_answers _ p .lineReset seq .ok _, ?_⟩
  · refine ⟨?_, ?_, fun i => ?_, ?_⟩
    · rw [answer.sameTotals (by decide), after.sameTotals (by decide), flushed.totals]; rfl
    · rw [answer .schedule (by decide), resetLine_schedule, flushed.schedule]; rfl
    · rw [answer.slot (by decide), slot, flushed.slots]; rfl
    · rw [answer.held (by decide), held, flushed.full]; rfl
  · have count : slotCount i s.queue.records = (s.slot i).inFlight := (counts i).symm
    have before : s.stopLine.slot i = s.slot i := (stopLine_frame s).slot (by decide) i
    rw [answer.slot (by decide), slot]
    refine ⟨fun stands => ?_, fun retiring some' => ?_⟩
    · rw [State.stopFlushed, slot_flush s.stopLine _ i (by rw [before]; exact stands), before, count, Nat.sub_self]
    · obtain ⟨freed, noticed⟩ := slot_flush_retiring s.stopLine s.queue.records i (by rw [before]; exact retiring)
        (by rw [before, count]) (by rw [count]; exact some')
      exact ⟨freed, answers.stands (resetLine_after_flush_tells s noticed)⟩
  · have before : s.stopLine.schedule = s.schedule := stopLine_frame s .schedule (by decide)
    obtain ⟨x, hx, id, carried, stands, closes⟩ := entry_flush s.queue.records s.stopLine e (by rw [before]; exact mem)
      (by rw [before]; exact ids)
    refine ⟨x, ?_, id, carried, stands, fun filled some' all => ?_⟩
    · rw [answer .schedule (by decide), resetLine_schedule]
      exact hx
    · obtain ⟨closed, noticed⟩ := closes filled some' all
      exact ⟨closed, answers.stands (resetLine_after_flush_tells s noticed)⟩
  · have full := held_flush_queueFull s s.queue.records rfl tags
    rw [answer.held (by decide), held, flushed.full, full]
    exact ⟨fun many => if_pos many, fun few => if_neg (by omega)⟩
  · rw [answer .recipes (by decide), resetLine_recipes]
  · rw [answer .recipes (by decide), resetLine_recipes]
    show s.stopFlushed.recipes.pitch = _
    rw [State.stopFlushed, flush_pitch, stopLine_frame s .recipes (by decide)]
  · rw [answer .schedule (by decide), resetLine_schedule, schedule]
  · have before : s.unselected.schedule.state = .active := by
      rw [unselected_frame s .schedule (by decide), schedule]
      exact active
    have parts : Tells [] s.unselected.suspendSchedule s.resetParts := (setBag_frame _ _).tells (by decide)
    have cut : Tells [] s.resetParts t := (cutBlasts_frame s.resetParts).tells (by decide)
    exact answers.stands (cut.stands (parts.stands (suspendSchedule_noticed _ before)))
  · rw [answer .schedule (by decide), resetLine_schedule, schedule]
  · rw [answer .schedule (by decide), resetLine_schedule, schedule]
  · rw [answer.sameTotals (by decide), after.sameTotals (by decide), flushed.totals]
    exact (flush_blasts s s.queue.records).1
  · rw [answer.sameTotals (by decide), after.sameTotals (by decide), flushed.totals]
    exact (flush_blasts s s.queue.records).2
  · rw [answer.held (by decide), held, State.stopFlushed, held_flush _ _ ne, stopLine_held]
  · exact (resetLine_frame s).andThen answer rfl

end Sys2Proof.Machine
end
